-- ==== Sys2Proof/Word.lean ====
section
/-! DEFINITION. The word and byte of the ZQ7240 (spec/00_scope.md R8: a word is 32 bits, little-endian). -/
namespace Sys2Proof

/-- A 32-bit word. -/
abbrev Word := BitVec 32

/-- A byte. -/
abbrev Byte := BitVec 8

end Sys2Proof
end

