-- ==== Sys2Proof/Syntax.lean ====
section
/-! DEFINITION. The commands of the block: one constructor per row of spec/opcode_table.json, with the values the
sender gives (identities, registers' operands, indices, measured values that come from outside the part). -/
namespace Sys2Proof

/-- What hardware attaches to a request (R36, R143, R406): master identity; requester key (thread key of an engine
thread, item key of an application core); replay key (context key, item key) with the COS carried; whether the
Keyblock is in secure state, and whether the instruction that issues the request was fetched from its ROM (R126, R447). -/
structure Rq where
  id : BitVec 8
  rkey : Option (BitVec 8)
  key : Option (BitVec 8)
  cos : Word
  sec : Bool
  rom : Bool
deriving DecidableEq, Repr

/-- Where a request enters: the internal fabric, at the interface of the unit with that index (Table 17.3); BAR0 or BAR4 of a PCIe
function (R46), or its configuration space (R45), where the identity of `FabReq.rq` is not used. -/
inductive Path where
  | fabric (unit : Fin 354)
  | bar0 (f : Fin 2)
  | bar4 (f : Fin 2)
  | cfg (f : Fin 2)
deriving DecidableEq, Repr

/-- A request of one master: read of `len` bytes, or write of `data` (then `len` is not used). -/
structure FabReq where
  rq : Rq
  path : Path
  write : Bool
  addr : Word
  len : Nat
  data : List Byte
deriving DecidableEq, Repr

/-- A bulk descriptor (Table 2.10); `err`: a read of the buffer in host memory returns an error (R63). -/
structure Bulk where
  addr : BitVec 64
  len : Word
  crc : Word
  err : Bool
deriving DecidableEq, Repr

/-- Header of a Feholt command as the Keyblock reads it from the slot (Tables 2.8, 2.9): session 0–3, tag, flags,
sender epoch, payload length, sequence; `bulk` when BULK is set. -/
structure FHdr where
  sess : Fin 4
  tag : BitVec 16
  flags : BitVec 8
  epoch : BitVec 8
  len : BitVec 16
  seq : Word
  bulk : Option Bulk
deriving DecidableEq, Repr

/-- Cores that execute Tilouzu: 0–191 thread t of CE n (8n + t), 192–207 A0–A15, 208 the Keyblock. -/
abbrev CoreIx := Fin 209

/-- R format (Table 4.3). -/
structure FmtR where
  rd : BitVec 4
  ra : BitVec 4
  rb : BitVec 4
  v : BitVec 3
deriving DecidableEq, Repr

/-- I format. -/
structure FmtI where
  rd : BitVec 4
  ra : BitVec 4
  imm : BitVec 18
deriving DecidableEq, Repr

/-- L and S formats: `rd` is the data register. -/
structure FmtL where
  rd : BitVec 4
  ra : BitVec 4
  p : Bool
  imm : BitVec 17
deriving DecidableEq, Repr

/-- M format; `z` is the field [7:0] that must be 0. -/
structure FmtM where
  rd : BitVec 4
  ra : BitVec 4
  pos : BitVec 5
  wm1 : BitVec 5
  z : BitVec 8
deriving DecidableEq, Repr

/-- U format; `z` is the field [21:20] that must be 0. -/
structure FmtU where
  rd : BitVec 4
  z : BitVec 2
  imm : BitVec 20
deriving DecidableEq, Repr

/-- B format. -/
structure FmtB where
  rt : BitVec 4
  disp : BitVec 22
deriving DecidableEq, Repr

/-- REP format; `z` is the field [20:16] that must be 0. -/
structure FmtRep where
  rs : BitVec 4
  i : Bool
  z : BitVec 5
  imm : BitVec 16
deriving DecidableEq, Repr

/-- X format. -/
structure FmtX where
  rd : BitVec 4
  ra : BitVec 4
  imm : BitVec 12
deriving DecidableEq, Repr

/-- A register word that a Feholt configuration command carries: internal address, value. -/
structure RegW where
  addr : Word
  val : Word
deriving DecidableEq, Repr

/-- An entry of a switch table that a Feholt command carries: index, the four words. -/
structure TblEnt where
  index : BitVec 13
  d0 : Word
  d1 : Word
  d2 : Word
  d3 : Word
deriving DecidableEq, Repr

/-- A frame of a branch node that RUL_CONFIG names to the guardian (R311): the entry of the guardian table, the branch port, LOFF and LEN of the frame
at that node, and the line delay to allow for, in ns. -/
structure GuardEnt where
  index : Fin 512
  branch : Fin 16
  loff : BitVec 27
  len : BitVec 11
  line : BitVec 16
deriving DecidableEq, Repr

/-- What LOOP_WRITE carries: a parameter record, an RC record, state words by number, or words of LPE.CTL and the timers (R359, R361). -/
inductive LoopRec where
  | param (slot : Fin 512) (ws : List Word)
  | rc (r : Fin 32) (ws : List Word)
  | state (slot : Fin 512) (ws : List (Fin 8 × Word))
  | regs (ws : List RegW)
deriving DecidableEq, Repr

/-- A thread of a PERS_LOAD: thread of the engine, its standby thread, THPC, THIMEM, THDMEM, THIMG, THCK, CKWIN and THWD words (R167, R169),
with the content of its instruction and data partition. -/
structure PersThread where
  th : Fin 8
  standby : Option (Fin 192)
  pc : Word
  imem : Word
  dmem : Word
  img : Word
  ck : Word
  ckwin : Word
  wd : Word
  code : List Byte
  data : List Byte
deriving DecidableEq, Repr

/-- What POWER_SET asks for (Table 18.2). -/
inductive PowerReq where
  | doze (c : Fin 12) (en : Bool) (dly : BitVec 12)
  | hold
  | off
  | region (n : Fin 4) (on : Bool)
deriving DecidableEq, Repr

/-- A partner that a personality lists in a SCAN (R524): context key, CPF number, address. -/
structure ScanFound where
  key : BitVec 8
  cpf : BitVec 8
  addr : List Byte
deriving DecidableEq, Repr

/-- A flit on its way over the die link (R28): the bytes that its sender sends, none where it sends nothing new, and the bits that the lanes
flip. -/
structure FlitIn where
  bytes : List Byte
  err : List Byte
  lanes : List (Fin 9)
deriving DecidableEq, Repr

/-- What decides a 1000BASE-T master (R201): the role that the link partner prefers, and the draw of the seeds. -/
structure MasterDraw where
  peer : Bool
  drawn : Bool
deriving DecidableEq, Repr

/-- A port that loses its link (R207): the part of a frame it still receives, and whether that frame has started cut-through. -/
structure LinkLoss where
  port : Fin 16
  cut : Option (List Byte × Bool)
deriving DecidableEq, Repr

/-- A port that may start a frame, and whether its medium is busy (R208). -/
structure PortTurn where
  port : Fin 16
  busy : Bool
deriving DecidableEq, Repr

/-- What the pins of a cluster show at a command (Table 18.4): levels of TIO0–TIO3 and PPS_IN (bit 4), and of the cluster's Burin pins. -/
structure WakePins where
  tio : BitVec 5
  pads : BitVec 8
deriving DecidableEq, Repr

/-- The commands. -/
inductive Instr where
  | registerWrite (unit : Fin 354) (rq : Rq) (addr : Word) (val : Word)
  | fabricRequest (reqs : List FabReq)
  | creditReturn (q : BitVec 8) (cls : Fin 4) (dir : Bool)
  | unitLocalReset (unit : Fin 354)
  | refclkLossDeclared (refB : Bool)
  | referenceSwitchComplete
  | returnA (rq : Rq)
  | referenceReturnComplete
  | pllStart (aPresent : Bool) (bPresent : Bool)
  | flitReceive (toPort : Bool) (flit : FlitIn)
  | laneFailure (lane : Fin 9)
  | laneSparingComplete
  | bar2Access (f : Fin 2) (write : Bool) (off : BitVec 25) (len : Nat) (data : List (Option Byte))
  | msixMaskClear (f : Fin 2) (v : Fin 64)
  | functionLevelReset (f : Fin 2)
  | pcieHotReset
  | sessionOpen (h : FHdr) (lo : BitVec 16) (hi : BitVec 16) (credits : BitVec 16) (keepalive : BitVec 16)
  | sessionClose (h : FHdr)
  | sessionPing (h : FHdr)
  | subscribe (h : FHdr) (mask : Word)
  | deviceInfo (h : FHdr)
  | keepaliveTimeout (n : Fin 4)
  | noCreditReply (h : FHdr) (op : BitVec 15)
  | queuedEventPost (n : Fin 4) (batch : Fin 7)
  | commandCompletion (n : Fin 4) (tag : BitVec 16) (sig : Option Bool) (flashOk : Bool) (found : List ScanFound)
  | persLoad (h : FHdr) (ce : Fin 24) (ts : List PersThread) (claims : List RegW)
  | persStart (h : FHdr) (th : Fin 192)
  | persStop (h : FHdr) (th : Fin 192)
  | persQuery (h : FHdr) (th : Fin 192)
  | persUnload (h : FHdr) (th : Fin 192)
  | portConfig (h : FHdr) (p : Fin 16) (ws : List RegW)
  | portStatus (h : FHdr) (p : Fin 16)
  | portCounters (h : FHdr) (p : Fin 16)
  | fdbWrite (h : FHdr) (vlan : Bool) (es : List TblEnt)
  | streamWrite (h : FHdr) (meter : Bool) (es : List TblEnt)
  | queueConfig (h : FHdr) (ws : List RegW)
  | stencilWrite (h : FHdr) (p : Fin 22) (cycle : Word) (baseNs : Word) (baseSec : Word) (entries : List Word)
  | timeGet (h : FHdr)
  | timeSet (h : FHdr) (sec : BitVec 48) (ns : Word)
  | servoConfig (h : FHdr) (ws : List RegW)
  | tioConfig (h : FHdr) (ws : List RegW) (ask : List (Fin 5 × Bool))
  | rulConfig (h : FHdr) (n : Fin 4) (ws : List RegW) (margin : Option (BitVec 24)) (guards : List GuardEnt)
  | markConfig (h : FHdr) (n : Fin 4) (ws : List RegW)
  | rulStart (h : FHdr) (n : Fin 4)
  | rulStop (h : FHdr) (n : Fin 4)
  | imageDefine (h : FHdr) (ix : Fin 256) (ws : List RegW)
  | imageMap (h : FHdr) (ix : Fin 256)
  | loopWrite (h : FHdr) (r : LoopRec)
  | captureRead (h : FHdr) (c : Fin 4) (ws : List RegW)
  | loopRead (h : FHdr) (slot : Fin 512)
  | tsgConfig (h : FHdr) (ws : List RegW)
  | mbConfig (h : FHdr) (k : Fin 8) (ws : List RegW)
  | mbStatus (h : FHdr) (k : Fin 8)
  | nmConfig (h : FHdr) (ws : List RegW)
  | sleepRequest (h : FHdr) (r : Fin 4)
  | wakeRequest (h : FHdr) (r : Fin 4)
  | schedStats (h : FHdr)
  | coreConfig (h : FHdr) (ws : List RegW)
  | applicationMessage (rq : Rq) (c : Fin 64) (ws : List Word)
  | epochConfig (h : FHdr) (ws : List RegW)
  | impressionRead (h : FHdr) (slot : Fin 2)
  | stippleConfig (h : FHdr) (ws : List RegW)
  | draftOpen (h : FHdr)
  | draftWrite (h : FHdr) (ws : List RegW)
  | draftActivate (h : FHdr) (ns : Word) (sec : Word) (epoch : Word) (expect : BitVec 64) (refEn : Bool) (refTt : Fin 4)
  | draftDiscard (h : FHdr)
  | sealGet (h : FHdr)
  | topologyRead (h : FHdr)
  | scan (h : FHdr)
  | faultRead (h : FHdr) (u : Fin 354)
  | proofFetch (h : FHdr)
  | proofClear (h : FHdr)
  | powerSet (h : FHdr) (req : PowerReq)
  | powerGet (h : FHdr)
  | installBegin (h : FHdr)
  | installData (h : FHdr) (off : BitVec 23)
  | installCommit (h : FHdr) (dig : BitVec 128)
  | installStatus (h : FHdr)
  | slotWrite (rq : Rq) (c : Fin 64) (slot : Fin 16) (w : Fin 16) (val : Word)
  | slotRead (rq : Rq) (c : Fin 64) (slot : Fin 16) (w : Fin 16)
  | commit (rq : Rq) (c : Fin 64)
  | release (rq : Rq) (c : Fin 64)
  | doorbellMaskWrite (rq : Rq) (id : Fin 64) (val : Word)
  | doorbellSet (rq : Rq) (id : BitVec 8) (bit : Fin 32)
  | bindLock (rq : Rq)
  | mbxCtxopClear (rq : Rq) (key : BitVec 8)
  | mbxCtxopRevert (rq : Rq) (key : BitVec 8)
  | claimRead (k : Fin 256) (rqs : List Rq)
  | claimReleaseWrite (rq : Rq) (k : Fin 256) (val : Word)
  | claimForceRelease (rq : Rq) (k : BitVec 8)
  | add (c : CoreIx) (f : FmtR)
  | adds (c : CoreIx) (f : FmtR)
  | sub (c : CoreIx) (f : FmtR)
  | subs (c : CoreIx) (f : FmtR)
  | neg (c : CoreIx) (f : FmtR)
  | and (c : CoreIx) (f : FmtR)
  | or (c : CoreIx) (f : FmtR)
  | xor (c : CoreIx) (f : FmtR)
  | andn (c : CoreIx) (f : FmtR)
  | sll (c : CoreIx) (f : FmtR)
  | srl (c : CoreIx) (f : FmtR)
  | sra (c : CoreIx) (f : FmtR)
  | ror (c : CoreIx) (f : FmtR)
  | mul (c : CoreIx) (f : FmtR)
  | mulh (c : CoreIx) (f : FmtR)
  | mulhu (c : CoreIx) (f : FmtR)
  | div (c : CoreIx) (f : FmtR)
  | divu (c : CoreIx) (f : FmtR)
  | rem (c : CoreIx) (f : FmtR)
  | remu (c : CoreIx) (f : FmtR)
  | min (c : CoreIx) (f : FmtR)
  | max (c : CoreIx) (f : FmtR)
  | minu (c : CoreIx) (f : FmtR)
  | maxu (c : CoreIx) (f : FmtR)
  | ceq (c : CoreIx) (f : FmtR)
  | cne (c : CoreIx) (f : FmtR)
  | clt (c : CoreIx) (f : FmtR)
  | cltu (c : CoreIx) (f : FmtR)
  | cle (c : CoreIx) (f : FmtR)
  | cleu (c : CoreIx) (f : FmtR)
  | clz (c : CoreIx) (f : FmtR)
  | popc (c : CoreIx) (f : FmtR)
  | brev (c : CoreIx) (f : FmtR)
  | parity (c : CoreIx) (f : FmtR)
  | sext (c : CoreIx) (f : FmtR)
  | crcb (c : CoreIx) (f : FmtR)
  | crch (c : CoreIx) (f : FmtR)
  | crcw (c : CoreIx) (f : FmtR)
  | crcbm (c : CoreIx) (f : FmtR)
  | crchm (c : CoreIx) (f : FmtR)
  | crcwm (c : CoreIx) (f : FmtR)
  | addi (c : CoreIx) (f : FmtI)
  | andi (c : CoreIx) (f : FmtI)
  | ori (c : CoreIx) (f : FmtI)
  | xori (c : CoreIx) (f : FmtI)
  | slli (c : CoreIx) (f : FmtI)
  | srli (c : CoreIx) (f : FmtI)
  | srai (c : CoreIx) (f : FmtI)
  | rori (c : CoreIx) (f : FmtI)
  | ceqi (c : CoreIx) (f : FmtI)
  | clti (c : CoreIx) (f : FmtI)
  | cltui (c : CoreIx) (f : FmtI)
  | lui (c : CoreIx) (f : FmtU)
  | bfx (c : CoreIx) (f : FmtM)
  | bfxs (c : CoreIx) (f : FmtM)
  | bfi (c : CoreIx) (f : FmtM)
  | lb (c : CoreIx) (f : FmtL)
  | lbu (c : CoreIx) (f : FmtL)
  | lh (c : CoreIx) (f : FmtL)
  | lhu (c : CoreIx) (f : FmtL)
  | lw (c : CoreIx) (f : FmtL)
  | sb (c : CoreIx) (f : FmtL)
  | sh (c : CoreIx) (f : FmtL)
  | sw (c : CoreIx) (f : FmtL)
  | postedStoreResponse (c : CoreIx) (ix : Fin 4)
  | bz (c : CoreIx) (f : FmtB)
  | bnz (c : CoreIx) (f : FmtB)
  | jmp (c : CoreIx) (disp : BitVec 26)
  | call (c : CoreIx) (disp : BitVec 26)
  | rep (c : CoreIx) (f : FmtRep)
  | fence (c : CoreIx) (f : FmtX)
  | jr (c : CoreIx) (f : FmtX)
  | callr (c : CoreIx) (f : FmtX)
  | ret (c : CoreIx) (f : FmtX)
  | rete (c : CoreIx) (f : FmtX)
  | mfs (c : CoreIx) (f : FmtX)
  | mts (c : CoreIx) (f : FmtX)
  | trap (c : CoreIx) (f : FmtX)
  | brk (c : CoreIx) (f : FmtX)
  | wfe (c : CoreIx) (f : FmtX)
  | wfeWake (c : CoreIx)
  | ckpt (c : CoreIx) (f : FmtX)
  | fadd (c : CoreIx) (f : FmtR)
  | fsub (c : CoreIx) (f : FmtR)
  | fmul (c : CoreIx) (f : FmtR)
  | fdiv (c : CoreIx) (f : FmtR)
  | fsqrt (c : CoreIx) (f : FmtR)
  | fmin (c : CoreIx) (f : FmtR)
  | fmax (c : CoreIx) (f : FmtR)
  | fitof (c : CoreIx) (f : FmtR)
  | fftoi (c : CoreIx) (f : FmtR)
  | fceq (c : CoreIx) (f : FmtR)
  | fclt (c : CoreIx) (f : FmtR)
  | fcle (c : CoreIx) (f : FmtR)
  | interrupt (c : CoreIx)
  | debugHalt (rq : Rq) (ix : Fin 17)
  | debugResume (rq : Rq) (ix : Fin 17)
  | threadStart (rq : Rq) (th : Fin 192)
  | threadStop (rq : Rq) (th : Fin 192)
  | threadRestore (rq : Rq) (th : Fin 192) (pend : BitVec 16)
  | threadStandby (rq : Rq) (th : Fin 192)
  | threadClear (rq : Rq) (th : Fin 192)
  | threadFail (rq : Rq) (th : Fin 192)
  | threadDebug (rq : Rq) (th : Fin 192)
  | engineLocalReset (rq : Rq) (n : Fin 24)
  | engineClearDone (n : Fin 24)
  | softwareEvent (rq : Rq) (n : Fin 24) (mask : BitVec 8)
  | checkpointComplete (n : Fin 24)
  | restoreComplete (n : Fin 24)
  | threadWatchdogExpiry (th : Fin 192)
  | engineParityError (n : Fin 24)
  | burinStart (rq : Rq) (n : Fin 64) (startpc : BitVec 5) (swpc : BitVec 5)
  | burinStop (rq : Rq) (n : Fin 64) (startpc : BitVec 5) (swpc : BitVec 5)
  | burinSwapRequest (rq : Rq) (n : Fin 64) (startpc : BitVec 5) (swpc : BitVec 5)
  | burinSwap (n : Fin 64) (pins : BitVec 8)
  | burinLocalReset (rq : Rq) (n : Fin 64) (startpc : BitVec 5) (swpc : BitVec 5)
  | burinNop (n : Fin 64) (pins : BitVec 8)
  | burinSho (n : Fin 64) (pins : BitVec 8)
  | burinShi (n : Fin 64) (pins : BitVec 8)
  | burinShx (n : Fin 64) (pins : BitVec 8)
  | burinPull (n : Fin 64) (pins : BitVec 8)
  | burinPush (n : Fin 64) (pins : BitVec 8)
  | burinSet (n : Fin 64) (pins : BitVec 8)
  | burinWaitp (n : Fin 64) (pins : BitVec 8)
  | burinWaitt (n : Fin 64) (pins : BitVec 8)
  | burinJmp (n : Fin 64) (pins : BitVec 8)
  | burinLdc (n : Fin 64) (pins : BitVec 8)
  | burinLdi (n : Fin 64) (pins : BitVec 8)
  | burinMov (n : Fin 64) (pins : BitVec 8)
  | burinIrq (n : Fin 64) (pins : BitVec 8)
  | burinSynco (n : Fin 64) (pins : BitVec 8)
  | burinClkr (n : Fin 64) (pins : BitVec 8)
  | burinHalt (n : Fin 64) (pins : BitVec 8)
  | burinShiftEnd (n : Fin 64) (smp : List (BitVec 8))
  | automaticPull (n : Fin 64)
  | automaticPush (n : Fin 64)
  | burinTxWrite (rq : Rq) (n : Fin 64) (val : Word)
  | burinRxRead (rq : Rq) (n : Fin 64)
  | burinStallTimeout (n : Fin 64)
  | burinSyncArm (rq : Rq) (c : Fin 8) (val : Word)
  | burinSyncAction (c : Fin 8)
  | burinInject (rq : Rq) (n : Fin 64) (word : Word) (pins : BitVec 8)
  | burinInjectedExecute (n : Fin 64) (pins : BitVec 8)
  | burinForcedInject (rq : Rq) (n : Fin 64) (word : Word) (pins : BitVec 8)
  | linkOk (p : Fin 16) (speed : Fin 5) (fdx : Bool) (draw : MasterDraw)
  | holdElapsed (p : Fin 16)
  | lossOfLink (loss : LinkLoss)
  | fastLinkFail (loss : LinkLoss)
  | frameReceive (p : Fin 16) (bytes : List Byte) (symbolError : Bool) (started : Bool)
  | collision (p : Fin 16) (late : Bool)
  | backoffExpiry (at_ : PortTurn)
  | plcaBeacon (p : Fin 16)
  | frameTransmit (p : Fin 16)
  | tsqRead (rq : Rq) (p : Fin 16)
  | switchFrameIngress (p : Fin 16)
  | branchReadmit (p : Fin 16)
  | fdbAgeOut (ix : Fin 8192)
  | nodeTableAgeOut (ix : Fin 1024) (entry : Bool)
  | transmissionSelection (at_ : PortTurn)
  | stencilGateChange (p : Fin 22)
  | stencilChangeOver (p : Fin 22)
  | pipelineClockStop (p : Fin 22)
  | ringPost (rq : Rq) (n : Fin 4) (r : Fin 16) (rpi : BitVec 10)
  | txDescriptorFetch (n : Fin 4) (r : Fin 16)
  | rxRingDelivery (p : Fin 6)
  | ringRelease (rq : Rq) (n : Fin 4) (r : Fin 16) (rci : BitVec 10)
  | swCtxopClear (rq : Rq) (key : BitVec 8)
  | swCtxopRevert (rq : Rq) (key : BitVec 8)
  | hkRingPoll (k : Bool) (r : Fin 16)
  | tableWrite (rq : Rq) (table : BitVec 3) (index : BitVec 13) (d0 : Word) (d1 : Word) (d2 : Word) (d3 : Word)
  | tableRead (rq : Rq) (table : BitVec 3) (index : BitVec 13)
  | timeRead (rq : Rq)
  | setState (rq : Rq) (code : BitVec 3)
  | timeStep (rq : Rq) (sec : BitVec 48) (ns : Word)
  | correlationRequest (rq : Rq)
  | periodicCorrelation
  | freqWrite (rq : Rq) (val : Word)
  | phaseWrite (rq : Rq) (val : Word)
  | updateTimeout
  | tioCapture (ix : Fin 5) (rising : Bool)
  | captureQueueRead (rq : Rq) (ix : Fin 5)
  | triggerArm (rq : Rq) (ix : Fin 4) (mode3 : Bool)
  | triggerEdge (ix : Fin 4) (start : Bool)
  | ppsOutPulse (start : Bool)
  | runSet (rq : Rq) (n : Fin 4) (run : Bool)
  | cycleStart (n : Fin 4)
  | rulingFrameLaunch (n : Fin 4) (c : Fin 2) (k : Fin 4)
  | rulingFrameReceive (p : Fin 16) (bytes : List Byte)
  | returnDeadline (n : Fin 4) (c : Fin 2) (k : Fin 4)
  | repairPoint (n : Fin 4) (c : Fin 2) (k : Fin 4)
  | listenTimerExpiry (n : Fin 4)
  | cycleMark (n : Fin 4) (m : Fin 16)
  | imageFillComplete (ix : Fin 256)
  | imageReadyWrite (rq : Rq) (ix : Fin 256) (cyc : BitVec 16)
  | hardwareReady (ix : Fin 256)
  | imageEnable (rq : Rq) (ix : Fin 256) (cfg : Word)
  | imageDisable (rq : Rq) (ix : Fin 256)
  | imageBufferWrite (rq : Rq) (addr : Word) (data : List Byte)
  | imageBufferRead (rq : Rq) (addr : Word) (len : Nat)
  | leaseTake (rq : Rq) (ix : Fin 256)
  | leaseRelease (rq : Rq) (ix : Fin 256)
  | imgctxopRelease (rq : Rq) (holder : BitVec 9)
  | softwareTrigger (rq : Rq)
  | loopTimerFire (j : Fin 16)
  | loopBatch
  | loopStep (l : Fin 4)
  | loopOutputResponse (l : Fin 4)
  | pendsetSet (rq : Rq) (kind : Bool) (slot : BitVec 9)
  | pendsetClear (rq : Rq) (kind : Bool) (slot : BitVec 9)
  | recordTake (kind : Bool) (slot : BitVec 9)
  | iwdataRead (rq : Rq)
  | iwdataWrite (rq : Rq) (val : Word)
  | rcClearDone
  | tsgArm (rq : Rq) (g : Fin 16)
  | tsgDisable (rq : Rq) (g : Fin 16)
  | captureArm (rq : Rq) (c : Fin 4)
  | txRequest (rq : Rq) (k : Fin 8) (b : Fin 3)
  | txAbort (rq : Rq) (k : Fin 8) (b : Fin 3)
  | startDecision (k : Fin 8)
  | transmissionAttemptEnd (k : Fin 8) (result : Fin 3) (ago : Nat)
  | mbFrameReceive (k : Fin 8) (id : Word) (fmt : BitVec 6) (data : List Byte) (ago : Nat)
  | busError (k : Fin 8) (tx : Bool) (lec : Fin 7) (exempt : Bool) (heavy : Bool)
  | busIntegration (k : Fin 8)
  | busoffRecover (rq : Rq) (k : Fin 8)
  | busoffRecoveryDone (k : Fin 8)
  | rxPop (rq : Rq) (k : Fin 8)
  | rxWindowAutopop (rq : Rq) (k : Fin 8)
  | mbLocalReset (rq : Rq) (k : Fin 8)
  | mbConfigTake (k : Fin 8)
  | ringReport (rq : Rq) (r : Fin 4) (si : Bool)
  | ringTimerExpiry (r : Fin 4)
  | tokenDue (r : Fin 4)
  | ringctlLocal (rq : Rq) (r : Fin 4) (local_ : Bool)
  | ringctlWake (rq : Rq) (r : Fin 4)
  | sleepWaitExpiry (r : Fin 4)
  | wakePulseEnd
  | wakeLineQualified
  | wakeLineRelease
  | remoteWake (c : Fin 12)
  | failsafeRequest (rq : Rq) (c : Fin 12) (req : BitVec 2)
  | failsafeKick (rq : Rq) (c : Fin 12) (val : BitVec 12)
  | failsafeExpiry (c : Fin 12)
  | submit (rq : Rq)
  | hostSubmitPoll (f : Fin 2)
  | dispatchDecision
  | spill
  | take (rq : Rq)
  | done (rq : Rq)
  | coreFailure (n : Fin 16) (cause : Fin 4)
  | coreWatchdogExpiry (n : Fin 16)
  | coreopRequeue (rq : Rq) (n : Fin 16)
  | coreopDiscard (rq : Rq) (n : Fin 16)
  | coreopAdmit (rq : Rq) (n : Fin 16)
  | wscCtxopClear (rq : Rq) (key : BitVec 8)
  | loadIntervalEnd
  | channelStart (rq : Rq) (n : Fin 4) (j : Fin 16) (prog : BitVec 28)
  | channelAbort (rq : Rq) (n : Fin 4) (j : Fin 16)
  | abortComplete (n : Fin 4) (j : Fin 16)
  | channelClear (rq : Rq) (n : Fin 4) (j : Fin 16)
  | dmLocalReset (rq : Rq) (n : Fin 4)
  | dmCtxopClear (rq : Rq) (n : Fin 4) (key : BitVec 8)
  | pantoMove (n : Fin 4) (j : Fin 16)
  | pantoGather (n : Fin 4) (j : Fin 16)
  | pantoScatter (n : Fin 4) (j : Fin 16)
  | pantoLoop (n : Fin 4) (j : Fin 16)
  | pantoEndloop (n : Fin 4) (j : Fin 16)
  | pantoWait (n : Fin 4) (j : Fin 16)
  | waitSourceOccurrence (n : Fin 4)
  | waitTimeout (n : Fin 4) (j : Fin 16)
  | pantoSignal (n : Fin 4) (j : Fin 16)
  | pantoFence (n : Fin 4) (j : Fin 16)
  | pantoHalt (n : Fin 4) (j : Fin 16)
  | plateAccess (rq : Rq) (write : Bool) (addr : Word) (len : Nat) (data : List Byte)
  | rotateAliasAccess (rq : Rq) (write : Bool) (addr : Word) (len : Nat) (data : List Byte)
  | scrub (b : Fin 98)
  | bankRetire (rq : Rq) (b : BitVec 7)
  | bankTest (rq : Rq) (b : BitVec 7)
  | bankTestDone (ok : Bool)
  | sealedBankAccess (rq : Rq) (write : Bool) (addr : Word) (len : Nat) (data : List Byte)
  | sealedWipeRequest (rq : Rq)
  | wipeComplete
  | tamperQualified (ix : Fin 2)
  | memoryClear
  | memoryClearDone
  | lifecycleRequest (rq : Rq) (target : BitVec 3) (confirm : BitVec 16)
  | fuseProgrammingDone (ok : Bool)
  | noticeRead (rq : Rq)
  | recoveryDone (rq : Rq) (seq : Word)
  | recordClear (rq : Rq) (u : Fin 354)
  | softwareFaultRecord (rq : Rq) (code : BitVec 8) (fatal : Bool)
  | forceWrite (rq : Rq) (force : Bool)
  | proofWrite
  | heartbeat (rq : Rq) (val : BitVec 8)
  | heartbeatTimeout
  | lockstepDivergence
  | romTimeout
  | romRecovery (ok : Bool)
  | oscillatorCheck (osc : Fin 3)
  | dozeEntry (c : Fin 12) (held : Bool) (pins : WakePins)
  | dozeWake (c : Fin 12) (held : Bool) (pins : WakePins) (edge : Option (Fin 13 × Bool))
  | regionPowerOff (rq : Rq) (n : Fin 4)
  | regionPowerUp (rq : Rq) (n : Fin 4)
  | regionUpComplete (n : Fin 4)
  | regionResetAssert (rq : Rq) (n : Fin 4)
  | regionResetRelease (rq : Rq) (n : Fin 4)
  | holdEntry (rq : Rq) (key : BitVec 16) (late : Option (BitVec 8))
  | holdWake (cause : BitVec 8)
  | holdExitComplete
  | offEntry (rq : Rq) (key : BitVec 16)
  | offWake (cause : BitVec 8)
  | powerOnReset (strap : BitVec 2)
  | porst (strap : BitVec 2)
  | warmReset (rq : Rq) (key : BitVec 16) (strap : BitVec 2)
  | powerGoodLoss (monitor : Bool) (supply : Fin 6)
  | monitorFault (temp : Bool) (supply : Fin 6)
  | plateClear (rq : Rq) (keepEn : Bool) (keep : BitVec 12)
  | plateClearDone
  | boot (okA : Option Bool) (okB : Option Bool) (ms : BitVec 16) (cfg : List (Word × Word)) (partners : List (List Byte × BitVec 64 × Word))
  | hostBootImage (ok : Option Bool) (ms : BitVec 16) (cfg : List (Word × Word)) (prov : Option (BitVec 256 × BitVec 256))
  | governorSample (tj : BitVec 16)
  | epochBoundary
  | epochForce (rq : Rq)
  | epochConfigWrite (rq : Rq) (ix : Fin 4) (val : Word)
  | impressionWritten
  | draftCopyWrite (rq : Rq) (addr : Word) (val : Word)
  | revert (rq : Rq)
  | activationArm (rq : Rq)
  | activationBoundary
  | lldpSend (p : Fin 16)
  | lldpReceive (p : Fin 16) (du : List Byte)
  | neighbourAgeOut (ix : Fin 512)
  | epochMismatchTimeout (ix : Fin 512)
  | referenceValid (refB : Bool)
  | pllLockLost
  | dieLinkTrainingLost
  | controlStateError (u : Fin 354)
  | slewEnd
  | powerGood (strap : BitVec 2)
  | bankSupplyChange (c : Fin 8) (v : Fin 4)
  | plcaStatusLoss (p : Fin 16)
  | queueLengthSample
deriving DecidableEq, Repr

end Sys2Proof
end

