-- ==== Sys2Proof/Decode.lean ====
section
/-! DEFINITION. Instruction words of Tilouzu (R110–R114, Tables 4.3–4.7): the command that a word issued by a core spells. No row of
spec/opcode_table.json has fields or bits of its own: every other command reaches the block as a request, a frame, a pin event or an instant. -/
namespace Sys2Proof

/-- Field [lo + n − 1 : lo] of an instruction word. -/
def wordField (w lo n : Nat) : BitVec n := BitVec.ofNat n (w / 2 ^ lo)

def fmtR (w : Nat) : FmtR := ⟨wordField w 22 4, wordField w 18 4, wordField w 14 4, wordField w 11 3⟩
def fmtI (w : Nat) : FmtI := ⟨wordField w 22 4, wordField w 18 4, wordField w 0 18⟩
def fmtL (w : Nat) : FmtL := ⟨wordField w 22 4, wordField w 18 4, w / 2 ^ 17 % 2 == 1, wordField w 0 17⟩
def fmtM (w : Nat) : FmtM := ⟨wordField w 22 4, wordField w 18 4, wordField w 13 5, wordField w 8 5, wordField w 0 8⟩
def fmtU (w : Nat) : FmtU := ⟨wordField w 22 4, wordField w 20 2, wordField w 0 20⟩
def fmtB (w : Nat) : FmtB := ⟨wordField w 22 4, wordField w 0 22⟩
def fmtRep (w : Nat) : FmtRep := ⟨wordField w 22 4, w / 2 ^ 21 % 2 == 1, wordField w 16 5, wordField w 0 16⟩
def fmtX (w : Nat) : FmtX := ⟨wordField w 22 4, wordField w 18 4, wordField w 0 12⟩

/-- Functions of the ALU group (Table 4.5). -/
def aluDecode (c : CoreIx) (func : Nat) (f : FmtR) : Option Instr :=
  match func with
  | 0x000 => some (.add c f) | 0x001 => some (.adds c f) | 0x002 => some (.sub c f) | 0x003 => some (.subs c f) | 0x004 => some (.neg c f)
  | 0x008 => some (.and c f) | 0x009 => some (.or c f) | 0x00A => some (.xor c f) | 0x00B => some (.andn c f)
  | 0x010 => some (.sll c f) | 0x011 => some (.srl c f) | 0x012 => some (.sra c f) | 0x013 => some (.ror c f)
  | 0x018 => some (.mul c f) | 0x019 => some (.mulh c f) | 0x01A => some (.mulhu c f)
  | 0x01C => some (.div c f) | 0x01D => some (.divu c f) | 0x01E => some (.rem c f) | 0x01F => some (.remu c f)
  | 0x020 => some (.min c f) | 0x021 => some (.max c f) | 0x022 => some (.minu c f) | 0x023 => some (.maxu c f)
  | 0x028 => some (.ceq c f) | 0x029 => some (.cne c f) | 0x02A => some (.clt c f) | 0x02B => some (.cltu c f)
  | 0x02C => some (.cle c f) | 0x02D => some (.cleu c f)
  | 0x030 => some (.clz c f) | 0x031 => some (.popc c f) | 0x032 => some (.brev c f) | 0x033 => some (.parity c f) | 0x034 => some (.sext c f)
  | 0x038 => some (.crcb c f) | 0x039 => some (.crch c f) | 0x03A => some (.crcw c f)
  | 0x03C => some (.crcbm c f) | 0x03D => some (.crchm c f) | 0x03E => some (.crcwm c f)
  | _ => none

/-- Sub-operations of the system group (Table 4.6). -/
def sysDecode (c : CoreIx) (sub : Nat) (f : FmtX) : Option Instr :=
  match sub with
  | 0x00 => some (.fence c f) | 0x01 => some (.jr c f) | 0x02 => some (.callr c f) | 0x03 => some (.ret c f) | 0x04 => some (.rete c f)
  | 0x05 => some (.mfs c f) | 0x06 => some (.mts c f) | 0x07 => some (.trap c f) | 0x08 => some (.brk c f) | 0x09 => some (.wfe c f)
  | 0x0A => some (.ckpt c f)
  | _ => none

/-- Functions of the floating-point group (Table 4.7). -/
def fpDecode (c : CoreIx) (func : Nat) (f : FmtR) : Option Instr :=
  match func with
  | 0x000 => some (.fadd c f) | 0x001 => some (.fsub c f) | 0x002 => some (.fmul c f) | 0x003 => some (.fdiv c f) | 0x004 => some (.fsqrt c f)
  | 0x005 => some (.fmin c f) | 0x006 => some (.fmax c f) | 0x008 => some (.fitof c f) | 0x009 => some (.fftoi c f)
  | 0x010 => some (.fceq c f) | 0x011 => some (.fclt c f) | 0x012 => some (.fcle c f)
  | _ => none

/-- The instruction that core `c` reads from a word (Table 4.4); none where the major opcode, the function or the sub-operation is not listed
(R110). Fields that must be 0 are judged where the instruction executes. -/
def isaDecode (c : CoreIx) (w : Nat) : Option Instr :=
  match w / 2 ^ 26 % 64 with
  | 0x00 => aluDecode c (w % 2 ^ 11) (fmtR w)
  | 0x01 => some (.addi c (fmtI w)) | 0x02 => some (.andi c (fmtI w)) | 0x03 => some (.ori c (fmtI w)) | 0x04 => some (.xori c (fmtI w))
  | 0x05 => some (.slli c (fmtI w)) | 0x06 => some (.srli c (fmtI w)) | 0x07 => some (.srai c (fmtI w)) | 0x08 => some (.rori c (fmtI w))
  | 0x09 => some (.ceqi c (fmtI w)) | 0x0A => some (.clti c (fmtI w)) | 0x0B => some (.cltui c (fmtI w))
  | 0x0C => some (.lui c (fmtU w))
  | 0x0D => some (.bfx c (fmtM w)) | 0x0E => some (.bfxs c (fmtM w)) | 0x0F => some (.bfi c (fmtM w))
  | 0x10 => some (.lb c (fmtL w)) | 0x11 => some (.lbu c (fmtL w)) | 0x12 => some (.lh c (fmtL w)) | 0x13 => some (.lhu c (fmtL w))
  | 0x14 => some (.lw c (fmtL w))
  | 0x18 => some (.sb c (fmtL w)) | 0x19 => some (.sh c (fmtL w)) | 0x1A => some (.sw c (fmtL w))
  | 0x20 => some (.bz c (fmtB w)) | 0x21 => some (.bnz c (fmtB w))
  | 0x22 => some (.jmp c (wordField w 0 26)) | 0x23 => some (.call c (wordField w 0 26))
  | 0x24 => some (.rep c (fmtRep w))
  | 0x28 => sysDecode c (w / 2 ^ 12 % 64) (fmtX w)
  | 0x30 => fpDecode c (w % 2 ^ 11) (fmtR w)
  | _ => none

/-- Does a word spell an instruction (R110)? -/
def isaListed (w : Nat) : Bool := (isaDecode 0 w).isSome

/-- The command that a word of `nbits` bits spells: a 32-bit word spells the instruction of Tilouzu it encodes, for thread 0 of CE0; the table
gives no other row bits. -/
def decodeTableWord (nbits w : Nat) : Option Instr := if nbits = 32 then isaDecode 0 w else none

end Sys2Proof
end

