-- ==== Sys2Proof/Config.lean ====
section
/-! DEFINITION. What the spec leaves open, as constants without a body: nothing can be proved of their values,
so a claim holds whatever they are. Each is named in the assumption log. -/
namespace Sys2Proof

/-- Content the ROM holds at byte offset `a` (R126; the spec gives the ROM no content). -/
opaque Config.romByte (a : Nat) : BitVec 8

/-- Silicon stepping (FEAT3.STEP, R138). -/
opaque Config.stepping : BitVec 4

/-- Vechadan's PCI-SIG vendor ID (R45). -/
opaque Config.vendorId : BitVec 16

/-- PCIe bus address that the internal address `a` of 0x8000_0000–0xFFFF_FFFF reaches (R38). -/
opaque Config.hostBus (a : Nat) : Nat

/-- The bytes of a Feholt payload whose layout is in the Puset command reference (R77), from the opcode and the
values carried. -/
opaque Config.payload (opcode : Nat) (vals : List Nat) : List (BitVec 8)

/-- A free value, new for every index. -/
opaque Config.free (n : Nat) : BitVec 32

/-- Bytes of free values: byte `i` of the value taken at index `n`. -/
opaque Config.freeByte (n i : Nat) : BitVec 8

/-- Whether tininess is detected after rounding (IEEE 754 leaves it to the implementation; R136). -/
opaque Config.tinyAfter : Bool

/-- Whether a result flushed to zero under FCSR.FZ raises UF and NX (R136 is silent). -/
opaque Config.flushFlags : Bool

/-- Whether FFTOI of a value with a fraction raises NX (IEEE 754 has both conversions; R136 is silent). -/
opaque Config.ftoiInexact : Bool

/-- Whether an operation that takes Floating Point leaves its flags in FCSR (R136 is silent). -/
opaque Config.fpTrapSticky : Bool

/-- LSDU size field of an HSR tag or a PRP trailer (IEC 62439-3; R248 gives no layout). -/
opaque Config.lsduSize (bs : List (BitVec 8)) : BitVec 12

/-- Path field of an HSR tag sent on the even or the odd port of a pair. -/
opaque Config.hsrPath (odd : Bool) : BitVec 4

/-- The device's base MAC address (R523; set by its manufacturer). -/
opaque Config.baseMac : BitVec 48

/-- Vechadan's IEEE-assigned OUI (Table 19.8). -/
opaque Config.oui : BitVec 24

/-- Version word of the main Keyblock firmware (Table 17.12). -/
opaque Config.fwVersion : BitVec 32

/-- Revision ID, subsystem IDs, latencies, port number and negotiated link of configuration space, which R45 does not give. -/
opaque Config.cfgIdent (word : Nat) : BitVec 32

/-- Vechadan's JEP106 manufacturer code (R536). -/
opaque Config.jepCode : BitVec 11

end Sys2Proof
end

