-- ==== Sys2Proof/Machine/Cells.lean ====
section
/-! DEFINITION. Sparse data: lists of (key, value) pairs with strictly rising keys. `Tab` operations keep every
entry written; `Cells` operations also drop an entry equal to what an unlisted key reads as, so that equal
contents are equal lists. Byte and bit helpers stand here too, so that a repair may mend them. -/
namespace Sys2Proof.Machine

/-- The value at key `k`, or `d` when `k` is not listed. -/
def tabGet {α : Type} (m : List (Nat × α)) (d : α) (k : Nat) : α :=
  match m with
  | [] => d
  | (j, v) :: t => if j = k then v else tabGet t d k

/-- Sets key `k` to `v`, keeping the keys rising. -/
def tabPut {α : Type} (m : List (Nat × α)) (k : Nat) (v : α) : List (Nat × α) :=
  match m with
  | [] => [(k, v)]
  | (j, w) :: t =>
    if k < j then (k, v) :: (j, w) :: t
    else if k = j then (k, v) :: t
    else (j, w) :: tabPut t k v

/-- Removes key `k`. -/
def tabDel {α : Type} (m : List (Nat × α)) (k : Nat) : List (Nat × α) :=
  match m with
  | [] => []
  | (j, w) :: t => if k = j then tabDel t k else (j, w) :: tabDel t k

/-- Is key `k` listed? -/
def tabHas {α : Type} (m : List (Nat × α)) (k : Nat) : Bool :=
  match m with
  | [] => false
  | (j, _) :: t => if j = k then true else tabHas t k

/-- Sets key `k` to `v` where an unlisted key reads as `d`: writing `d` removes the entry. -/
def cellPut {α : Type} [DecidableEq α] (m : List (Nat × α)) (d : α) (k : Nat) (v : α) : List (Nat × α) :=
  if v = d then tabDel m k else tabPut m k v

/-- Every key is above `lo`, and the keys rise strictly. -/
def keysAbove {α : Type} (lo : Option Nat) (m : List (Nat × α)) : Bool :=
  match m with
  | [] => true
  | (j, _) :: t => (match lo with | none => true | some l => decide (l < j)) && keysAbove (some j) t

/-- No entry equals what its key reads as unlisted. -/
def noDefault {α : Type} [DecidableEq α] (d : Nat → α) (m : List (Nat × α)) : Bool :=
  match m with
  | [] => true
  | (j, v) :: t => decide (v ≠ d j) && noDefault d t

/-- The canonical form of sparse contents. -/
def cellsWf {α : Type} [DecidableEq α] (d : Nat → α) (m : List (Nat × α)) : Bool :=
  keysAbove none m && noDefault d m

/-- Bits `lo … lo + w − 1` of `x`. -/
def bitsOf (x lo w : Nat) : Nat := x / 2 ^ lo % 2 ^ w

/-- `x` with bits `lo … lo + w − 1` replaced by the low bits of `v`. -/
def setBits (x lo w v : Nat) : Nat :=
  x % 2 ^ lo + (v % 2 ^ w) * 2 ^ lo + x / 2 ^ (lo + w) * 2 ^ (lo + w)

/-- Is bit `i` of `x` set? -/
def bitOf (x i : Nat) : Bool := x / 2 ^ i % 2 == 1

/-- `true` is 1. -/
def b2n (b : Bool) : Nat := if b then 1 else 0

/-- Adds `k` to a counter that saturates at `top`. -/
def satAdd (x k top : Nat) : Nat := min (x + k) top

/-- Little-endian value of bytes. -/
def leNat (bs : List Byte) : Nat :=
  match bs with
  | [] => 0
  | b :: t => b.toNat + 256 * leNat t

/-- The `n` little-endian bytes of `x`. -/
def leBytes (n x : Nat) : List Byte :=
  match n with
  | 0 => []
  | n + 1 => BitVec.ofNat 8 x :: leBytes n (x / 256)

/-- Big-endian value of bytes. -/
def beNat (bs : List Byte) : Nat := leNat bs.reverse

/-- The `n` big-endian bytes of `x`. -/
def beBytes (n x : Nat) : List Byte := (leBytes n x).reverse

/-- Reads `n` bits of `x` as a two's complement number. -/
def toSigned (n x : Nat) : Int :=
  let y := x % 2 ^ n
  if y < 2 ^ (n - 1) then (y : Int) else (y : Int) - (2 ^ n : Nat)

/-- The `n`-bit two's complement pattern of `i`. -/
def ofSigned (n : Nat) (i : Int) : Nat := (i % ((2 ^ n : Nat) : Int)).toNat

/-- One reflected CRC-32 step over a bit. -/
def crc32Bit (c : Nat) (bit : Bool) : Nat :=
  let fb := (c % 2 == 1) != bit
  let c' := c / 2
  if fb then c' ^^^ 0xEDB88320 else c'

/-- The eight bits of a byte, least significant first. -/
def crc32Byte (c : Nat) (b : Byte) : Nat :=
  (List.range 8).foldl (fun c i => crc32Bit c (bitOf b.toNat i)) c

/-- CRC-32 of Table 2.10: IEEE 802.3 polynomial, reflected, initial value and final XOR 0xFFFF_FFFF. -/
def crc32 (bs : List Byte) : Nat := (bs.foldl crc32Byte 0xFFFFFFFF) ^^^ 0xFFFFFFFF

/-- CRC-16 of Table 1.8: polynomial 0x1021, initial value 0xFFFF, most significant bit first. -/
def crc16 (bs : List Byte) : Nat :=
  bs.foldl (fun c b => (List.range 8).foldl (fun c i =>
    let fb := (c / 0x8000 % 2 == 1) != bitOf b.toNat (7 - i)
    let c' := c * 2 % 0x10000
    if fb then c' ^^^ 0x1021 else c') c) 0xFFFF

/-- H of R517: CRC-64/ECMA-182, initial value 0, not reflected, no final XOR. -/
def crc64 (bs : List Byte) : Nat :=
  bs.foldl (fun c b => (List.range 8).foldl (fun c i =>
    let fb := (c / 0x8000000000000000 % 2 == 1) != bitOf b.toNat (7 - i)
    let c' := c * 2 % 0x10000000000000000
    if fb then c' ^^^ 0x42F0E1EBA9EA3693 else c') c) 0

/-- Replaces element `i` of a list. -/
def listSet {α : Type} (l : List α) (i : Nat) (v : α) : List α :=
  match l, i with
  | [], _ => []
  | _ :: t, 0 => v :: t
  | h :: t, i + 1 => h :: listSet t i v

/-- Removes element `i` of a list. -/
def listDel {α : Type} (l : List α) (i : Nat) : List α :=
  match l, i with
  | [], _ => []
  | _ :: t, 0 => t
  | h :: t, i + 1 => h :: listDel t i

end Sys2Proof.Machine
end

