-- ==== Sys2Proof/Machine/Flags.lean ====
section
/-! DEFINITION. IEEE 754 binary32 as R136 uses it (FCSR of Table 4.14: rounding mode, flush, flags) and as the loop engine uses
it (R345), and the saturation of ADDS and SUBS (R115). A number is exact: a natural mantissa times a power of two. -/
namespace Sys2Proof.Machine

/-- Flag bits of FCSR. -/
def fNX : Nat := 1
def fUF : Nat := 2
def fOF : Nat := 4
def fDZ : Nat := 8
def fNV : Nat := 16

/-- The canonical quiet NaN (R136). -/
def qNaN : Nat := 0x7FC00000

/-- How an operation rounds: FCSR.RM, FCSR.FZ, and the points IEEE 754 or the spec leaves open; `wide`: a result is rounded as if the
exponent range were unbounded before it is flushed (R345). -/
structure FEnv where
  rm : Nat
  fz : Bool
  tinyAfter : Bool
  flushFlags : Bool
  wide : Bool
deriving DecidableEq, Repr

/-- A binary32 operand: NaN (signalling or not), infinity, or ± m · 2^e. -/
inductive FVal where
  | nan (sig : Bool)
  | inf (neg : Bool)
  | num (neg : Bool) (m : Nat) (e : Int)
deriving DecidableEq, Repr

/-- Sign bit. -/
def fSign (x : Nat) : Bool := bitOf x 31

/-- Reads a binary32; with `fz` a subnormal is a zero of its sign. -/
def unpackF (fz : Bool) (x : Nat) : FVal :=
  let ex : Nat := (x / 2 ^ 23) % 256
  let fr : Nat := x % 2 ^ 23
  let neg := fSign x
  if ex = 255 then
    if fr = 0 then .inf neg else .nan (fr < 2 ^ 22)
  else if ex = 0 then
    if fr = 0 ∨ fz then .num neg 0 (-149) else .num neg fr (-149)
  else .num neg (2 ^ 23 + fr) ((ex : Int) - 150)

def signBit (neg : Bool) : Nat := if neg then 0x80000000 else 0

def packInf (neg : Bool) : Nat := signBit neg + 0x7F800000

/-- Does rounding mode `rm` take the larger magnitude, given sign, odd quotient, and the remainder against half? -/
def roundsUp (rm : Nat) (neg odd : Bool) (rem half : Nat) : Bool :=
  match rm with
  | 0 => decide (half < rem) || (rem == half && odd)
  | 1 => false
  | 2 => neg && rem != 0
  | _ => !neg && rem != 0

/-- m · 2^e brought to a multiple of 2^q: quotient and whether it is inexact. -/
def roundAt (rm : Nat) (neg : Bool) (m : Nat) (e q : Int) : Nat × Bool :=
  if e ≥ q then (m * 2 ^ (e - q).toNat, false)
  else
    let d := (q - e).toNat
    let hi := m / 2 ^ d
    let rem := m % 2 ^ d
    (hi + b2n (roundsUp rm neg (hi % 2 == 1) rem (2 ^ (d - 1))), rem != 0)

/-- Rounds ± m · 2^e to binary32: the bits and the flags raised. A sticky bit below may stand for discarded bits
when m has at least 26 bits. -/
def roundF (env : FEnv) (neg : Bool) (m : Nat) (e : Int) : Nat × Nat :=
  if m = 0 then (signBit neg, 0)
  else
    let top : Int := (Nat.log2 m : Int) + e
    let free := roundAt env.rm neg m e (top - 23)
    let tiny : Bool :=
      if env.tinyAfter then decide ((Nat.log2 free.1 : Int) + (top - 23) < -126) else decide (top < -126)
    if env.wide && decide ((Nat.log2 free.1 : Int) + (top - 23) < -126) then (signBit neg, 0)
    else
    let q : Int := max (top - 23) (-149)
    let r := roundAt env.rm neg m e q
    let hi := if r.1 = 2 ^ 24 then 2 ^ 23 else r.1
    let q := if r.1 = 2 ^ 24 then q + 1 else q
    if hi < 2 ^ 23 then
      if env.fz && hi != 0 then (signBit neg, if env.flushFlags then fUF ||| fNX else 0)
      else (signBit neg + hi, (if r.2 then fNX else 0) ||| (if r.2 && tiny then fUF else 0))
    else
      let biased := (q + 150).toNat
      if biased ≥ 255 then
        let toInf := env.rm = 0 ∨ (env.rm = 2 ∧ neg = true) ∨ (env.rm = 3 ∧ neg = false)
        (if toInf then packInf neg else signBit neg + 0x7F7FFFFF, fOF ||| fNX)
      else
        (signBit neg + biased * 2 ^ 23 + (hi - 2 ^ 23), (if r.2 then fNX else 0) ||| (if r.2 && tiny then fUF else 0))

/-- Sum of two finite numbers. -/
def addNum (env : FEnv) (na : Bool) (ma : Nat) (ea : Int) (nb : Bool) (mb : Nat) (eb : Int) : Nat × Nat :=
  let e := min ea eb
  let x : Int := (ma * 2 ^ (ea - e).toNat : Nat) * (if na then -1 else 1)
  let y : Int := (mb * 2 ^ (eb - e).toNat : Nat) * (if nb then -1 else 1)
  let z := x + y
  if z = 0 then
    (signBit (if ma = 0 ∧ mb = 0 ∧ na = nb then na else decide (env.rm = 2)), 0)
  else roundF env (decide (z < 0)) z.natAbs e

/-- NaN result with NV when an operand signals. -/
def nanOut (sig : Bool) : Nat × Nat := (qNaN, if sig then fNV else 0)

/-- Does the operand signal? -/
def FVal.sig (v : FVal) : Bool := match v with | .nan s => s | _ => false

def FVal.isNan (v : FVal) : Bool := match v with | .nan _ => true | _ => false

/-- binary32 addition. -/
def fAdd (env : FEnv) (a b : Nat) : Nat × Nat :=
  match unpackF env.fz a, unpackF env.fz b with
  | .nan s, y => nanOut (s || y.sig)
  | _, .nan s => nanOut s
  | .inf na, .inf nb => if na = nb then (packInf na, 0) else (qNaN, fNV)
  | .inf na, .num .. => (packInf na, 0)
  | .num .., .inf nb => (packInf nb, 0)
  | .num na ma ea, .num nb mb eb => addNum env na ma ea nb mb eb

/-- Changes the sign. -/
def fNeg (x : Nat) : Nat := if fSign x then x - 0x80000000 else x + 0x80000000

/-- Negation that leaves a NaN a NaN of its kind. -/
def fSub (env : FEnv) (a b : Nat) : Nat × Nat := fAdd env a (fNeg (b % 2 ^ 32))

/-- binary32 multiplication. -/
def fMul (env : FEnv) (a b : Nat) : Nat × Nat :=
  match unpackF env.fz a, unpackF env.fz b with
  | .nan s, y => nanOut (s || y.sig)
  | _, .nan s => nanOut s
  | .inf na, .inf nb => (packInf (na != nb), 0)
  | .inf na, .num nb m _ => if m = 0 then (qNaN, fNV) else (packInf (na != nb), 0)
  | .num na m _, .inf nb => if m = 0 then (qNaN, fNV) else (packInf (na != nb), 0)
  | .num na ma ea, .num nb mb eb => roundF env (na != nb) (ma * mb) (ea + eb)

/-- binary32 division. -/
def fDiv (env : FEnv) (a b : Nat) : Nat × Nat :=
  match unpackF env.fz a, unpackF env.fz b with
  | .nan s, y => nanOut (s || y.sig)
  | _, .nan s => nanOut s
  | .inf _, .inf _ => (qNaN, fNV)
  | .inf na, .num nb _ _ => (packInf (na != nb), 0)
  | .num na _ _, .inf nb => (signBit (na != nb), 0)
  | .num na ma ea, .num nb mb eb =>
    if mb = 0 then (if ma = 0 then (qNaN, fNV) else (packInf (na != nb), fDZ))
    else
      let n := ma * 2 ^ 64
      roundF env (na != nb) (2 * (n / mb) + b2n (n % mb != 0)) (ea - eb - 65)

/-- Integer square root, bit by bit from 2^(k−1) down. -/
def isqrt (k n r : Nat) : Nat :=
  match k with
  | 0 => r
  | k + 1 => let c := r + 2 ^ k; isqrt k n (if c * c ≤ n then c else r)

/-- binary32 square root. -/
def fSqrt (env : FEnv) (a : Nat) : Nat × Nat :=
  match unpackF env.fz a with
  | .nan s => nanOut s
  | .inf neg => if neg then (qNaN, fNV) else (packInf false, 0)
  | .num neg m e =>
    if m = 0 then (signBit neg, 0)
    else if neg then (qNaN, fNV)
    else
      let odd := (e % 2 + 2) % 2 = 1
      let m' := m * 2 ^ (if odd then 65 else 64)
      let e' := if odd then e - 65 else e - 64
      let r := isqrt 45 m' 0
      roundF env false (2 * r + b2n (r * r != m')) (e' / 2 - 1)

/-- Order of two numbers that are no NaN: less, equal (−0 equals +0). -/
def fLess (fz : Bool) (a b : Nat) : Bool × Bool :=
  let key (v : FVal) : Int × Int :=
    match v with
    | .inf n => (if n then -1 else 1, 0)
    | .num n m e => (0, (m * 2 ^ (e + 149).toNat : Nat) * (if n then -1 else 1))
    | .nan _ => (0, 0)
  let x := key (unpackF fz a)
  let y := key (unpackF fz b)
  (decide (x.1 < y.1) || (x.1 == y.1 && decide (x.2 < y.2)), x.1 == y.1 && x.2 == y.2)

/-- The operand as a result: a subnormal is flushed under FZ. -/
def flushed (fz : Bool) (x : Nat) : Nat :=
  if fz && x / 2 ^ 23 % 256 == 0 then signBit (fSign x) else x

/-- FMIN and FMAX (R136): the other operand when exactly one is NaN; −0 below +0. -/
def fMinMax (env : FEnv) (max : Bool) (a b : Nat) : Nat × Nat :=
  let va := unpackF env.fz a
  let vb := unpackF env.fz b
  let fl := if va.sig || vb.sig then fNV else 0
  if va.isNan && vb.isNan then (qNaN, fl)
  else if va.isNan then (flushed env.fz b, fl)
  else if vb.isNan then (flushed env.fz a, fl)
  else
    let o := fLess env.fz a b
    let aLess := o.1 || (o.2 && fSign a && !fSign b)
    (flushed env.fz (if aLess != max then a else b), fl)

/-- FITOF. -/
def fOfInt (env : FEnv) (a : Nat) : Nat × Nat :=
  let i := toSigned 32 a
  roundF env (decide (i < 0)) i.natAbs 0

/-- FFTOI (R136). -/
def fToInt (env : FEnv) (inexact : Bool) (a : Nat) : Nat × Nat :=
  match unpackF env.fz a with
  | .nan _ => (0x7FFFFFFF, fNV)
  | .inf neg => (if neg then 0x80000000 else 0x7FFFFFFF, fNV)
  | .num neg m e =>
    let q := if e ≥ 0 then m * 2 ^ e.toNat else m / 2 ^ (-e).toNat
    let frac := e < 0 ∧ m % 2 ^ (-e).toNat ≠ 0
    if neg then
      if q > 0x80000000 then (0x80000000, fNV)
      else (ofSigned 32 (-(q : Int)), if inexact ∧ frac then fNX else 0)
    else if q > 0x7FFFFFFF then (0x7FFFFFFF, fNV)
    else (q, if inexact ∧ frac then fNX else 0)

/-- FCEQ, FCLT, FCLE (R136): kind 0 equal, 1 less, 2 less or equal. -/
def fCmp (env : FEnv) (kind a b : Nat) : Nat × Nat :=
  let va := unpackF env.fz a
  let vb := unpackF env.fz b
  if va.isNan || vb.isNan then (0, if kind != 0 || va.sig || vb.sig then fNV else 0)
  else
    let o := fLess env.fz a b
    (b2n (if kind = 0 then o.2 else if kind = 1 then o.1 else o.1 || o.2), 0)

/-- Saturation to the signed 32-bit range: the word and whether it saturated (R115). -/
def satSigned (i : Int) : Nat × Bool :=
  if i > 0x7FFFFFFF then (0x7FFFFFFF, true)
  else if i < -0x80000000 then (0x80000000, true)
  else (ofSigned 32 i, false)

end Sys2Proof.Machine
end

