-- ==== Sys2Proof/Machine/RegTypes.lean ====
section
/-! DEFINITION. Registers as the spec describes them: field access types (Table 0.6, R9), a register's place and
fields, and finding the register at an internal address (R39). -/
namespace Sys2Proof.Machine

/-- Access types of Table 0.6. -/
inductive Acc where
  | rw | ro | wo | w1c | w1s | rc | wl
deriving DecidableEq, Repr

/-- A field of a register: lowest bit, width, access type, reset value. -/
structure Fld where
  lo : Nat
  w : Nat
  acc : Acc
  reset : Nat
deriving DecidableEq, Repr

/-- A register: name, address of its first copy, (stride, count) of each index, fields; bits of no field are
reserved (R10); the mask under which the word belongs to the sealed configuration class (Table 19.11, 0 for none), and
whether it has a draft copy (R519). -/
structure RegDesc where
  name : String
  base : Nat
  dims : List (Nat × Nat)
  flds : List Fld
  smask : Nat
  draft : Bool
deriving DecidableEq, Repr

/-- A field of one register copy: word address, lowest bit, width. -/
structure FldAt where
  addr : Nat
  lo : Nat
  w : Nat
deriving DecidableEq, Repr

/-- Does byte offset `off` from the first copy fall on a copy? -/
def dimsHit (dims : List (Nat × Nat)) (off : Nat) : Bool :=
  match dims with
  | [] => off == 0
  | (s, n) :: t => decide (off / s < n) && dimsHit t (off % s)

/-- Is the word address `a` a copy of this register? -/
def RegDesc.hit (d : RegDesc) (a : Nat) : Bool := decide (d.base ≤ a) && dimsHit d.dims (a - d.base)

/-- The register at word address `a`, in a table. -/
def findReg (t : List RegDesc) (a : Nat) : Option RegDesc :=
  match t with
  | [] => none
  | d :: r => if d.hit a then some d else findReg r a

/-- Reset word of the fields. -/
def fldsReset (fs : List Fld) : Nat :=
  match fs with
  | [] => 0
  | f :: t => f.reset * 2 ^ f.lo + fldsReset t

/-- What a write of `v` makes of a word `old`, field by field (Table 0.6): RW takes the value, W1C clears and W1S
sets the bits written 1, WL takes a 1 and keeps it, RO, WO and RC keep theirs. -/
def fldsWrite (fs : List Fld) (old v : Nat) : Nat :=
  match fs with
  | [] => old
  | f :: t =>
    let o := bitsOf old f.lo f.w
    let n := bitsOf v f.lo f.w
    let r := match f.acc with
      | .rw => n
      | .w1c => o - (o &&& n)
      | .w1s => o ||| n
      | .wl => o ||| n
      | .ro => o
      | .wo => o
      | .rc => o
    fldsWrite t (setBits old f.lo f.w r) v

/-- What a read leaves in the word: RC fields become 0 (Table 0.6). -/
def fldsAfterRead (fs : List Fld) (old : Nat) : Nat :=
  match fs with
  | [] => old
  | f :: t => fldsAfterRead t (if f.acc = .rc then setBits old f.lo f.w 0 else old)

/-- The bits a mask of the register's RW fields holds. -/
def fldsRwMask (fs : List Fld) : Nat :=
  match fs with
  | [] => 0
  | f :: t => (if f.acc = .rw then (2 ^ f.w - 1) * 2 ^ f.lo else 0) + fldsRwMask t

end Sys2Proof.Machine
end

