-- ==== Sys2Proof/Machine/RegsCommon.lean ====
section
/-! DEFINITION. The register blocks SYS (Tables 1.6-1.13, 4.22, 18.16), MBX (Tables 3.4-3.16), FLT (Tables 17.15-17.17), OBS (Tables 19.9, 19.10), PCI (Tables 2.3-2.6), BRN (Table 17.18), PHYA (Tables 20.12, 20.13), WAKE (Tables 13.14, 16.7, 18.17) and NMG (Table 13.13): the address of each register, the place of each field, and the table of access types and reset values. -/
namespace Sys2Proof.Machine

namespace SYS

def CLKCTL : Nat := 0x40000100
def CLKCTL_AUTO_SW : FldAt := ⟨CLKCTL, 0, 1⟩
def CLKCTL_RETURN_A : FldAt := ⟨CLKCTL, 1, 1⟩
def CLKCTL_LOSS_PERIODS : FldAt := ⟨CLKCTL, 8, 4⟩
def CLKCTL_FREQ_TOL : FldAt := ⟨CLKCTL, 16, 8⟩
def CLKSTAT : Nat := 0x40000104
def CLKSTAT_SRC : FldAt := ⟨CLKSTAT, 0, 1⟩
def CLKSTAT_A_OK : FldAt := ⟨CLKSTAT, 1, 1⟩
def CLKSTAT_B_OK : FldAt := ⟨CLKSTAT, 2, 1⟩
def CLKSTAT_PLL_LOCK : FldAt := ⟨CLKSTAT, 3, 1⟩
def CLKSTAT_HOLDOVER : FldAt := ⟨CLKSTAT, 4, 1⟩
def CLKSTAT_A_LOST : FldAt := ⟨CLKSTAT, 8, 1⟩
def CLKSTAT_B_LOST : FldAt := ⟨CLKSTAT, 9, 1⟩
def CLKSTAT_SWITCH_CNT : FldAt := ⟨CLKSTAT, 16, 16⟩
def DLSTAT : Nat := 0x40000110
def DLSTAT_LANE_OK : FldAt := ⟨DLSTAT, 0, 9⟩
def DLSTAT_SPARE_MAP : FldAt := ⟨DLSTAT, 9, 4⟩
def DLSTAT_LINK_UP : FldAt := ⟨DLSTAT, 13, 1⟩
def DLSTAT_RETRY_CNT : FldAt := ⟨DLSTAT, 16, 16⟩
def CRDSEL : Nat := 0x40000200
def CRDSEL_QUEUE : FldAt := ⟨CRDSEL, 0, 8⟩
def CRDSEL_CLASS : FldAt := ⟨CRDSEL, 8, 2⟩
def CRDSEL_DIR : FldAt := ⟨CRDSEL, 10, 1⟩
def CRDVAL : Nat := 0x40000204
def CRDVAL_AVAIL : FldAt := ⟨CRDVAL, 0, 8⟩
def CRDVAL_DEPTH : FldAt := ⟨CRDVAL, 8, 8⟩
def CRDVAL_LOW : FldAt := ⟨CRDVAL, 16, 8⟩
def PWRCTL : Nat := 0x40000300
def PWRCTL_OP : FldAt := ⟨PWRCTL, 0, 4⟩
def PWRCTL_KEY : FldAt := ⟨PWRCTL, 16, 16⟩
def PWRSTAT : Nat := 0x40000304
def PWRSTAT_STATE : FldAt := ⟨PWRSTAT, 0, 3⟩
def PWRSTAT_LATEWAKE : FldAt := ⟨PWRSTAT, 3, 1⟩
def PWRSTAT_WCAUSE : FldAt := ⟨PWRSTAT, 8, 8⟩
def PWRSTAT_HOLDS : FldAt := ⟨PWRSTAT, 16, 16⟩
def DOZE (c : Nat) : Nat := 0x40000310 + c * 0x4
def DOZE_EN (c : Nat) : FldAt := ⟨(DOZE c), 0, 1⟩
def DOZE_STATE (c : Nat) : FldAt := ⟨(DOZE c), 1, 2⟩
def DOZE_DLY (c : Nat) : FldAt := ⟨(DOZE c), 4, 12⟩
def DOZE_ABORTS (c : Nat) : FldAt := ⟨(DOZE c), 16, 8⟩
def DOZE_WAKES (c : Nat) : FldAt := ⟨(DOZE c), 24, 8⟩
def RGCTL (n : Nat) : Nat := 0x40000340 + n * 0x4
def RGCTL_PWR (n : Nat) : FldAt := ⟨(RGCTL n), 0, 1⟩
def RGCTL_RST (n : Nat) : FldAt := ⟨(RGCTL n), 1, 1⟩
def RGCTL_STATE (n : Nat) : FldAt := ⟨(RGCTL n), 2, 2⟩
def RGCTL_EVDROP (n : Nat) : FldAt := ⟨(RGCTL n), 16, 8⟩
def RSTCTL : Nat := 0x40000360
def RSTCTL_DEVRST : FldAt := ⟨RSTCTL, 0, 1⟩
def RSTCTL_ROUT : FldAt := ⟨RSTCTL, 1, 1⟩
def RSTCTL_KEY : FldAt := ⟨RSTCTL, 16, 16⟩
def RSTSTAT : Nat := 0x40000364
def RSTSTAT_CAUSE : FldAt := ⟨RSTSTAT, 0, 4⟩
def RSTSTAT_WARM : FldAt := ⟨RSTSTAT, 16, 16⟩
def BOOTSTAT : Nat := 0x40000370
def BOOTSTAT_STRAP : FldAt := ⟨BOOTSTAT, 0, 2⟩
def BOOTSTAT_SLOT : FldAt := ⟨BOOTSTAT, 2, 1⟩
def BOOTSTAT_FALLBACK : FldAt := ⟨BOOTSTAT, 3, 1⟩
def BOOTSTAT_READY : FldAt := ⟨BOOTSTAT, 4, 1⟩
def BOOTSTAT_STAGE : FldAt := ⟨BOOTSTAT, 5, 3⟩
def BOOTSTAT_MS : FldAt := ⟨BOOTSTAT, 16, 16⟩
def PCLR : Nat := 0x40000374
def PCLR_GO : FldAt := ⟨PCLR, 0, 1⟩
def PCLR_BUSY : FldAt := ⟨PCLR, 1, 1⟩
def PCLR_KEEPEN : FldAt := ⟨PCLR, 2, 1⟩
def PCLR_KEEP : FldAt := ⟨PCLR, 20, 12⟩
def GOVCFG : Nat := 0x40000380
def GOVCFG_EN : FldAt := ⟨GOVCFG, 0, 1⟩
def GOVCFG_TTHR : FldAt := ⟨GOVCFG, 8, 8⟩
def GOVCFG_HYST : FldAt := ⟨GOVCFG, 16, 4⟩
def GOVCFG_DUTY : FldAt := ⟨GOVCFG, 24, 4⟩
def GOVSTAT : Nat := 0x40000384
def GOVSTAT_TJ : FldAt := ⟨GOVSTAT, 0, 16⟩
def GOVSTAT_THROT : FldAt := ⟨GOVSTAT, 16, 1⟩
def GOVSTAT_EPIS : FldAt := ⟨GOVSTAT, 24, 8⟩
def DBGCTL (i : Nat) : Nat := 0x40000400 + i * 0x4
def DBGCTL_HALT (i : Nat) : FldAt := ⟨(DBGCTL i), 0, 1⟩
def DBGCTL_RESUME (i : Nat) : FldAt := ⟨(DBGCTL i), 1, 1⟩
def DBGCTL_HALTED (i : Nat) : FldAt := ⟨(DBGCTL i), 2, 1⟩
def DBGCTL_BRKHIT (i : Nat) : FldAt := ⟨(DBGCTL i), 3, 1⟩

def table : List RegDesc :=
  [
    ⟨"SYS.CLKCTL", 0x40000100, [], [⟨0, 1, .rw, 1⟩, ⟨1, 1, .wo, 0⟩, ⟨8, 4, .rw, 4⟩, ⟨16, 8, .rw, 200⟩], 0x0, false⟩,
    ⟨"SYS.CLKSTAT", 0x40000104, [], [⟨0, 1, .ro, 0⟩, ⟨1, 1, .ro, 0⟩, ⟨2, 1, .ro, 0⟩, ⟨3, 1, .ro, 0⟩, ⟨4, 1, .ro, 0⟩, ⟨8, 1, .w1c, 0⟩, ⟨9, 1, .w1c, 0⟩, ⟨16, 16, .ro, 0⟩], 0x0, false⟩,
    ⟨"SYS.DLSTAT", 0x40000110, [], [⟨0, 9, .ro, 0⟩, ⟨9, 4, .ro, 15⟩, ⟨13, 1, .ro, 0⟩, ⟨16, 16, .rc, 0⟩], 0x0, false⟩,
    ⟨"SYS.CRDSEL", 0x40000200, [], [⟨0, 8, .rw, 0⟩, ⟨8, 2, .rw, 0⟩, ⟨10, 1, .rw, 0⟩], 0x0, false⟩,
    ⟨"SYS.CRDVAL", 0x40000204, [], [⟨0, 8, .ro, 0⟩, ⟨8, 8, .ro, 0⟩, ⟨16, 8, .rc, 0⟩], 0x0, false⟩,
    ⟨"SYS.PWRCTL", 0x40000300, [], [⟨0, 4, .wo, 0⟩, ⟨16, 16, .wo, 0⟩], 0x0, false⟩,
    ⟨"SYS.PWRSTAT", 0x40000304, [], [⟨0, 3, .ro, 0⟩, ⟨3, 1, .w1c, 0⟩, ⟨8, 8, .ro, 0⟩, ⟨16, 16, .ro, 0⟩], 0x0, false⟩,
    ⟨"SYS.DOZE", 0x40000310, [(0x4, 12)], [⟨0, 1, .rw, 0⟩, ⟨1, 2, .ro, 0⟩, ⟨4, 12, .rw, 100⟩, ⟨16, 8, .rc, 0⟩, ⟨24, 8, .rc, 0⟩], 0x0, false⟩,
    ⟨"SYS.RGCTL", 0x40000340, [(0x4, 4)], [⟨0, 1, .rw, 1⟩, ⟨1, 1, .rw, 0⟩, ⟨2, 2, .ro, 0⟩, ⟨16, 8, .rc, 0⟩], 0x0, false⟩,
    ⟨"SYS.RSTCTL", 0x40000360, [], [⟨0, 1, .wo, 0⟩, ⟨1, 1, .rw, 0⟩, ⟨16, 16, .wo, 0⟩], 0x0, false⟩,
    ⟨"SYS.RSTSTAT", 0x40000364, [], [⟨0, 4, .ro, 1⟩, ⟨16, 16, .ro, 0⟩], 0x0, false⟩,
    ⟨"SYS.BOOTSTAT", 0x40000370, [], [⟨0, 2, .ro, 0⟩, ⟨2, 1, .ro, 0⟩, ⟨3, 1, .ro, 0⟩, ⟨4, 1, .ro, 0⟩, ⟨5, 3, .ro, 0⟩, ⟨16, 16, .ro, 0⟩], 0x0, false⟩ ] ++
  [
    ⟨"SYS.PCLR", 0x40000374, [], [⟨0, 1, .wo, 0⟩, ⟨1, 1, .ro, 0⟩, ⟨2, 1, .rw, 0⟩, ⟨20, 12, .rw, 0⟩], 0x0, false⟩,
    ⟨"SYS.GOVCFG", 0x40000380, [], [⟨0, 1, .rw, 1⟩, ⟨8, 8, .rw, 135⟩, ⟨16, 4, .rw, 5⟩, ⟨24, 4, .rw, 8⟩], 0x0, false⟩,
    ⟨"SYS.GOVSTAT", 0x40000384, [], [⟨0, 16, .ro, 0⟩, ⟨16, 1, .ro, 0⟩, ⟨24, 8, .rc, 0⟩], 0x0, false⟩,
    ⟨"SYS.DBGCTL", 0x40000400, [(0x4, 17)], [⟨0, 1, .wo, 0⟩, ⟨1, 1, .wo, 0⟩, ⟨2, 1, .ro, 0⟩, ⟨3, 1, .ro, 0⟩], 0x0, false⟩ ]

end SYS

namespace MBX

def CHCFG (c : Nat) : Nat := 0x40018000 + c * 0x20
def CHCFG_SENDER (c : Nat) : FldAt := ⟨(CHCFG c), 0, 8⟩
def CHCFG_RECEIVER (c : Nat) : FldAt := ⟨(CHCFG c), 8, 8⟩
def CHCFG_DBBIT (c : Nat) : FldAt := ⟨(CHCFG c), 16, 5⟩
def CHCFG_EN (c : Nat) : FldAt := ⟨(CHCFG c), 24, 1⟩
def CHCFG_FLUSH_ON_RX_RESET (c : Nat) : FldAt := ⟨(CHCFG c), 25, 1⟩
def CHOP (c : Nat) : Nat := 0x40018004 + c * 0x20
def CHOP_COMMIT (c : Nat) : FldAt := ⟨(CHOP c), 0, 1⟩
def CHOP_RELEASE (c : Nat) : FldAt := ⟨(CHOP c), 1, 1⟩
def CHSTAT (c : Nat) : Nat := 0x40018008 + c * 0x20
def CHSTAT_WIDX (c : Nat) : FldAt := ⟨(CHSTAT c), 0, 4⟩
def CHSTAT_RIDX (c : Nat) : FldAt := ⟨(CHSTAT c), 4, 4⟩
def CHSTAT_FIDX (c : Nat) : FldAt := ⟨(CHSTAT c), 8, 4⟩
def CHSTAT_USED (c : Nat) : FldAt := ⟨(CHSTAT c), 12, 5⟩
def CHCNT (c : Nat) : Nat := 0x4001800C + c * 0x20
def CHCNT_ABSORBED (c : Nat) : FldAt := ⟨(CHCNT c), 0, 8⟩
def CHCNT_LOST (c : Nat) : FldAt := ⟨(CHCNT c), 8, 8⟩
def CHCNT_FLUSHED (c : Nat) : FldAt := ⟨(CHCNT c), 16, 8⟩
def CHCNT_REFUSED (c : Nat) : FldAt := ⟨(CHCNT c), 24, 8⟩
def CHEPOCH (c : Nat) : Nat := 0x40018010 + c * 0x20
def CHEPOCH_SENDER_EPOCH (c : Nat) : FldAt := ⟨(CHEPOCH c), 0, 16⟩
def CHEPOCH_RX_RESETS (c : Nat) : FldAt := ⟨(CHEPOCH c), 16, 16⟩
def LOCK : Nat := 0x40018800
def LOCK_BIND_LOCK : FldAt := ⟨LOCK, 0, 1⟩
def STANDIN (s : Nat) : Nat := 0x40018900 + s * 0x4
def STANDIN_THREAD (s : Nat) : FldAt := ⟨(STANDIN s), 0, 8⟩
def STANDIN_ACTING (s : Nat) : FldAt := ⟨(STANDIN s), 8, 8⟩
def STANDIN_V (s : Nat) : FldAt := ⟨(STANDIN s), 31, 1⟩
def RPLVALID (i : Nat) : Nat := 0x40018B00 + i * 0x4
def RPLVALID_BITS (i : Nat) : FldAt := ⟨(RPLVALID i), 0, 32⟩
def CTXOP : Nat := 0x40018B20
def CTXOP_KEY : FldAt := ⟨CTXOP, 0, 8⟩
def CTXOP_OP : FldAt := ⟨CTXOP, 8, 2⟩
def RPL (k : Nat) : Nat := 0x40018C00 + k * 0x4
def RPL_LAST_COS (k : Nat) : FldAt := ⟨(RPL k), 0, 32⟩
def DB (id : Nat) : Nat := 0x4001A000 + id * 0x8
def DB_BELL (id : Nat) : FldAt := ⟨(DB id), 0, 32⟩
def DBMASK (id : Nat) : Nat := 0x4001A004 + id * 0x8
def DBMASK_MASK (id : Nat) : FldAt := ⟨(DBMASK id), 0, 32⟩
def DBSET : Nat := 0x4001A400
def DBSET_ID : FldAt := ⟨DBSET, 0, 8⟩
def DBSET_BIT : FldAt := ⟨DBSET, 8, 5⟩
def CLM (k : Nat) : Nat := 0x4001B000 + k * 0x4
def CLM_OWNER (k : Nat) : FldAt := ⟨(CLM k), 0, 8⟩
def CLMERR : Nat := 0x4001B400
def CLMERR_IGNORED : FldAt := ⟨CLMERR, 0, 16⟩
def CLMERR_RESET_REL : FldAt := ⟨CLMERR, 16, 16⟩
def CLMFORCE : Nat := 0x4001B404
def CLMFORCE_INDEX : FldAt := ⟨CLMFORCE, 0, 8⟩

def table : List RegDesc :=
  [
    ⟨"MBX.CHCFG", 0x40018000, [(0x20, 64)], [⟨0, 8, .rw, 0⟩, ⟨8, 8, .rw, 0⟩, ⟨16, 5, .rw, 0⟩, ⟨24, 1, .rw, 0⟩, ⟨25, 1, .rw, 0⟩], 0x0, false⟩,
    ⟨"MBX.CHOP", 0x40018004, [(0x20, 64)], [⟨0, 1, .wo, 0⟩, ⟨1, 1, .wo, 0⟩], 0x0, false⟩,
    ⟨"MBX.CHSTAT", 0x40018008, [(0x20, 64)], [⟨0, 4, .ro, 0⟩, ⟨4, 4, .ro, 0⟩, ⟨8, 4, .ro, 0⟩, ⟨12, 5, .ro, 0⟩], 0x0, false⟩,
    ⟨"MBX.CHCNT", 0x4001800C, [(0x20, 64)], [⟨0, 8, .rc, 0⟩, ⟨8, 8, .rc, 0⟩, ⟨16, 8, .rc, 0⟩, ⟨24, 8, .rc, 0⟩], 0x0, false⟩,
    ⟨"MBX.CHEPOCH", 0x40018010, [(0x20, 64)], [⟨0, 16, .ro, 0⟩, ⟨16, 16, .ro, 0⟩], 0x0, false⟩,
    ⟨"MBX.LOCK", 0x40018800, [], [⟨0, 1, .wl, 0⟩], 0x0, false⟩,
    ⟨"MBX.STANDIN", 0x40018900, [(0x4, 32)], [⟨0, 8, .rw, 0⟩, ⟨8, 8, .rw, 0⟩, ⟨31, 1, .rw, 0⟩], 0x0, false⟩,
    ⟨"MBX.RPLVALID", 0x40018B00, [(0x4, 8)], [⟨0, 32, .ro, 0⟩], 0x0, false⟩,
    ⟨"MBX.CTXOP", 0x40018B20, [], [⟨0, 8, .wo, 0⟩, ⟨8, 2, .wo, 0⟩], 0x0, false⟩,
    ⟨"MBX.RPL", 0x40018C00, [(0x4, 256)], [⟨0, 32, .ro, 0⟩], 0x0, false⟩,
    ⟨"MBX.DB", 0x4001A000, [(0x8, 64)], [⟨0, 32, .w1c, 0⟩], 0x0, false⟩,
    ⟨"MBX.DBMASK", 0x4001A004, [(0x8, 64)], [⟨0, 32, .rw, 0xffffffff⟩], 0x0, false⟩ ] ++
  [
    ⟨"MBX.DBSET", 0x4001A400, [], [⟨0, 8, .wo, 0⟩, ⟨8, 5, .wo, 0⟩], 0x0, false⟩,
    ⟨"MBX.CLM", 0x4001B000, [(0x4, 256)], [⟨0, 8, .rw, 0⟩], 0x0, false⟩,
    ⟨"MBX.CLMERR", 0x4001B400, [], [⟨0, 16, .rc, 0⟩, ⟨16, 16, .rc, 0⟩], 0x0, false⟩,
    ⟨"MBX.CLMFORCE", 0x4001B404, [], [⟨0, 8, .wo, 0⟩], 0x0, false⟩ ]

end MBX

namespace FLT

def STAT : Nat := 0x40080000
def STAT_STATE : FldAt := ⟨STAT, 0, 2⟩
def STAT_FAULTN : FldAt := ⟨STAT, 2, 1⟩
def STAT_OPEN : FldAt := ⟨STAT, 3, 1⟩
def STAT_SECOND : FldAt := ⟨STAT, 4, 1⟩
def CFG : Nat := 0x40080004
def CFG_FSTOP : FldAt := ⟨CFG, 0, 1⟩
def CFG_FCOPY : FldAt := ⟨CFG, 1, 1⟩
def CFG_LOCK : FldAt := ⟨CFG, 31, 1⟩
def CTL : Nat := 0x40080008
def CTL_FORCE : FldAt := ⟨CTL, 0, 1⟩
def CTL_PEEK : FldAt := ⟨CTL, 1, 1⟩
def SEQ : Nat := 0x4008000C
def SEQ_SEQ : FldAt := ⟨SEQ, 0, 32⟩
def NOTICE : Nat := 0x40080010
def NOTICE_UNIT : FldAt := ⟨NOTICE, 0, 9⟩
def NOTICE_CODE : FldAt := ⟨NOTICE, 16, 8⟩
def NOTICE_CLASS : FldAt := ⟨NOTICE, 24, 2⟩
def NOTICE_V : FldAt := ⟨NOTICE, 31, 1⟩
def NQSTAT : Nat := 0x40080014
def NQSTAT_LEVEL : FldAt := ⟨NQSTAT, 0, 7⟩
def NQSTAT_LOST : FldAt := ⟨NQSTAT, 8, 8⟩
def RDONE : Nat := 0x40080018
def RDONE_SEQ : FldAt := ⟨RDONE, 0, 32⟩
def OPENSEQ : Nat := 0x4008001C
def OPENSEQ_SEQ : FldAt := ⟨OPENSEQ, 0, 32⟩
def KEVT : Nat := 0x40080020
def KEVT_LEVELS : FldAt := ⟨KEVT, 0, 2⟩
def KEVT_BITS : FldAt := ⟨KEVT, 2, 14⟩
def KMASK : Nat := 0x40080024
def KMASK_MASK : FldAt := ⟨KMASK, 0, 16⟩
def FIRST : Nat := 0x40080028
def FIRST_UNIT : FldAt := ⟨FIRST, 0, 9⟩
def FIRST_V : FldAt := ⟨FIRST, 31, 1⟩
def SWREC : Nat := 0x4008002C
def SWREC_CODE : FldAt := ⟨SWREC, 0, 8⟩
def SWREC_FATAL : FldAt := ⟨SWREC, 8, 1⟩
def PROOFBASE : Nat := 0x40080030
def PROOFBASE_V : FldAt := ⟨PROOFBASE, 0, 1⟩
def PROOFBASE_ADDR : FldAt := ⟨PROOFBASE, 20, 12⟩
def PROOFSTAT : Nat := 0x40080034
def PROOFSTAT_VALID : FldAt := ⟨PROOFSTAT, 0, 1⟩
def PROOFSTAT_KIND : FldAt := ⟨PROOFSTAT, 1, 2⟩
def PROOFSTAT_WRITING : FldAt := ⟨PROOFSTAT, 3, 1⟩
def PROOFSTAT_FLASH : FldAt := ⟨PROOFSTAT, 4, 1⟩
def PROOFSTAT_SKIP : FldAt := ⟨PROOFSTAT, 8, 8⟩
def PROOFSTAT_COUNT : FldAt := ⟨PROOFSTAT, 16, 16⟩
def FLRDISC : Nat := 0x40080038
def FLRDISC_F0 : FldAt := ⟨FLRDISC, 0, 16⟩
def FLRDISC_F1 : FldAt := ⟨FLRDISC, 16, 16⟩
def DLCFG : Nat := 0x4008003C
def DLCFG_LANETHR : FldAt := ⟨DLCFG, 0, 8⟩
def DLCFG_WIN : FldAt := ⟨DLCFG, 8, 8⟩
def LANE (l : Nat) : Nat := 0x40080040 + l * 0x4
def LANE_ERR (l : Nat) : FldAt := ⟨(LANE l), 0, 16⟩
def LANE_LOCK (l : Nat) : FldAt := ⟨(LANE l), 16, 1⟩
def LANE_FAILED (l : Nat) : FldAt := ⟨(LANE l), 17, 1⟩
def REC0 (u : Nat) : Nat := 0x40081000 + u * 0x20
def REC0_V (u : Nat) : FldAt := ⟨(REC0 u), 0, 1⟩
def REC0_CONT (u : Nat) : FldAt := ⟨(REC0 u), 1, 1⟩
def REC0_FATAL (u : Nat) : FldAt := ⟨(REC0 u), 2, 1⟩
def REC0_OVF (u : Nat) : FldAt := ⟨(REC0 u), 3, 1⟩
def REC0_CODE (u : Nat) : FldAt := ⟨(REC0 u), 8, 8⟩
def REC0_COUNT (u : Nat) : FldAt := ⟨(REC0 u), 16, 16⟩
def REC_DETAIL (u : Nat) : Nat := 0x40081004 + u * 0x20
def REC_DETAIL_DETAIL (u : Nat) : FldAt := ⟨(REC_DETAIL u), 0, 32⟩
def REC_ADDR (u : Nat) : Nat := 0x40081008 + u * 0x20
def REC_ADDR_ADDR (u : Nat) : FldAt := ⟨(REC_ADDR u), 0, 32⟩
def REC_TNS (u : Nat) : Nat := 0x4008100C + u * 0x20
def REC_TNS_TNS (u : Nat) : FldAt := ⟨(REC_TNS u), 0, 32⟩
def REC_TSEC (u : Nat) : Nat := 0x40081010 + u * 0x20
def REC_TSEC_TSEC (u : Nat) : FldAt := ⟨(REC_TSEC u), 0, 32⟩
def REC_ID (u : Nat) : Nat := 0x40081014 + u * 0x20
def REC_ID_IDENT (u : Nat) : FldAt := ⟨(REC_ID u), 0, 8⟩
def REC_ID_KEY (u : Nat) : FldAt := ⟨(REC_ID u), 8, 8⟩
def REC_ID_KV (u : Nat) : FldAt := ⟨(REC_ID u), 16, 1⟩
def REC_SEQ (u : Nat) : Nat := 0x40081018 + u * 0x20
def REC_SEQ_SEQ (u : Nat) : FldAt := ⟨(REC_SEQ u), 0, 32⟩

def table : List RegDesc :=
  [
    ⟨"FLT.STAT", 0x40080000, [], [⟨0, 2, .ro, 0⟩, ⟨2, 1, .ro, 0⟩, ⟨3, 1, .ro, 0⟩, ⟨4, 1, .ro, 0⟩], 0x0, false⟩,
    ⟨"FLT.CFG", 0x40080004, [], [⟨0, 1, .rw, 1⟩, ⟨1, 1, .rw, 0⟩, ⟨31, 1, .wl, 0⟩], 0x0, false⟩,
    ⟨"FLT.CTL", 0x40080008, [], [⟨0, 1, .rw, 0⟩, ⟨1, 1, .rw, 0⟩], 0x0, false⟩,
    ⟨"FLT.SEQ", 0x4008000C, [], [⟨0, 32, .ro, 0⟩], 0x0, false⟩,
    ⟨"FLT.NOTICE", 0x40080010, [], [⟨0, 9, .ro, 0⟩, ⟨16, 8, .ro, 0⟩, ⟨24, 2, .ro, 0⟩, ⟨31, 1, .ro, 0⟩], 0x0, false⟩,
    ⟨"FLT.NQSTAT", 0x40080014, [], [⟨0, 7, .ro, 0⟩, ⟨8, 8, .rc, 0⟩], 0x0, false⟩,
    ⟨"FLT.RDONE", 0x40080018, [], [⟨0, 32, .wo, 0⟩], 0x0, false⟩,
    ⟨"FLT.OPENSEQ", 0x4008001C, [], [⟨0, 32, .ro, 0⟩], 0x0, false⟩,
    ⟨"FLT.KEVT", 0x40080020, [], [⟨0, 2, .ro, 0⟩, ⟨2, 14, .w1c, 0⟩], 0x0, false⟩,
    ⟨"FLT.KMASK", 0x40080024, [], [⟨0, 16, .rw, 0xffff⟩], 0x0, false⟩,
    ⟨"FLT.FIRST", 0x40080028, [], [⟨0, 9, .ro, 0⟩, ⟨31, 1, .ro, 0⟩], 0x0, false⟩,
    ⟨"FLT.SWREC", 0x4008002C, [], [⟨0, 8, .wo, 0⟩, ⟨8, 1, .wo, 0⟩], 0x0, false⟩ ] ++
  [
    ⟨"FLT.PROOFBASE", 0x40080030, [], [⟨0, 1, .rw, 0⟩, ⟨20, 12, .rw, 0⟩], 0x0, false⟩,
    ⟨"FLT.PROOFSTAT", 0x40080034, [], [⟨0, 1, .rw, 0⟩, ⟨1, 2, .rw, 0⟩, ⟨3, 1, .rw, 0⟩, ⟨4, 1, .rw, 0⟩, ⟨8, 8, .rw, 0⟩, ⟨16, 16, .rw, 0⟩], 0x0, false⟩,
    ⟨"FLT.FLRDISC", 0x40080038, [], [⟨0, 16, .rw, 0⟩, ⟨16, 16, .rw, 0⟩], 0x0, false⟩,
    ⟨"FLT.DLCFG", 0x4008003C, [], [⟨0, 8, .rw, 16⟩, ⟨8, 8, .rw, 1⟩], 0x0, false⟩,
    ⟨"FLT.LANE", 0x40080040, [(0x4, 9)], [⟨0, 16, .rc, 0⟩, ⟨16, 1, .ro, 0⟩, ⟨17, 1, .ro, 0⟩], 0x0, false⟩,
    ⟨"FLT.REC0", 0x40081000, [(0x20, 354)], [⟨0, 1, .w1c, 0⟩, ⟨1, 1, .ro, 0⟩, ⟨2, 1, .ro, 0⟩, ⟨3, 1, .ro, 0⟩, ⟨8, 8, .ro, 0⟩, ⟨16, 16, .ro, 0⟩], 0x0, false⟩,
    ⟨"FLT.REC_DETAIL", 0x40081004, [(0x20, 354)], [⟨0, 32, .ro, 0⟩], 0x0, false⟩,
    ⟨"FLT.REC_ADDR", 0x40081008, [(0x20, 354)], [⟨0, 32, .ro, 0⟩], 0x0, false⟩,
    ⟨"FLT.REC_TNS", 0x4008100C, [(0x20, 354)], [⟨0, 32, .ro, 0⟩], 0x0, false⟩,
    ⟨"FLT.REC_TSEC", 0x40081010, [(0x20, 354)], [⟨0, 32, .ro, 0⟩], 0x0, false⟩,
    ⟨"FLT.REC_ID", 0x40081014, [(0x20, 354)], [⟨0, 8, .ro, 0⟩, ⟨8, 8, .ro, 0⟩, ⟨16, 1, .ro, 0⟩], 0x0, false⟩,
    ⟨"FLT.REC_SEQ", 0x40081018, [(0x20, 354)], [⟨0, 32, .ro, 0⟩], 0x0, false⟩ ]

end FLT

namespace OBS

def EPCFG : Nat := 0x40090000
def EPCFG_MODE : FldAt := ⟨EPCFG, 0, 2⟩
def EPCFG_TT : FldAt := ⟨EPCFG, 2, 2⟩
def EPCFG_FORCE : FldAt := ⟨EPCFG, 4, 1⟩
def EPCFG_CFGERR : FldAt := ⟨EPCFG, 31, 1⟩
def EPPER : Nat := 0x40090004
def EPPER_PER : FldAt := ⟨EPPER, 0, 26⟩
def EPBASENS : Nat := 0x40090008
def EPBASENS_NS : FldAt := ⟨EPBASENS, 0, 30⟩
def EPBASESEC : Nat := 0x4009000C
def EPBASESEC_SEC : FldAt := ⟨EPBASESEC, 0, 32⟩
def EPSTAT : Nat := 0x40090010
def EPSTAT_EPOCH : FldAt := ⟨EPSTAT, 0, 32⟩
def SEALL : Nat := 0x40090020
def SEALL_S : FldAt := ⟨SEALL, 0, 32⟩
def SEALH : Nat := 0x40090024
def SEALH_S : FldAt := ⟨SEALH, 0, 32⟩
def DSEALL : Nat := 0x40090028
def DSEALL_S : FldAt := ⟨DSEALL, 0, 32⟩
def DSEALH : Nat := 0x4009002C
def DSEALH_S : FldAt := ⟨DSEALH, 0, 32⟩
def ACTCTL : Nat := 0x40090030
def ACTCTL_DMODE : FldAt := ⟨ACTCTL, 0, 1⟩
def ACTCTL_ARM : FldAt := ⟨ACTCTL, 1, 1⟩
def ACTCTL_REVERT : FldAt := ⟨ACTCTL, 2, 1⟩
def ACTCTL_REFTT : FldAt := ⟨ACTCTL, 4, 2⟩
def ACTCTL_REFEN : FldAt := ⟨ACTCTL, 6, 1⟩
def ACTNS : Nat := 0x40090034
def ACTNS_NS : FldAt := ⟨ACTNS, 0, 30⟩
def ACTSEC : Nat := 0x40090038
def ACTSEC_SEC : FldAt := ⟨ACTSEC, 0, 32⟩
def ACTEPOCH : Nat := 0x4009003C
def ACTEPOCH_E : FldAt := ⟨ACTEPOCH, 0, 32⟩
def ACTSTAT : Nat := 0x40090040
def ACTSTAT_ARMED : FldAt := ⟨ACTSTAT, 0, 1⟩
def ACTSTAT_DONE : FldAt := ⟨ACTSTAT, 1, 1⟩
def ACTSTAT_LATE : FldAt := ⟨ACTSTAT, 2, 1⟩
def RUNEPOCH : Nat := 0x40090044
def RUNEPOCH_E : FldAt := ⟨RUNEPOCH, 0, 32⟩
def STPCFG (m : Nat) : Nat := 0x40090100 + m * 0x10
def STPCFG_EN (m : Nat) : FldAt := ⟨(STPCFG m), 0, 1⟩
def STPCFG_LOG (m : Nat) : FldAt := ⟨(STPCFG m), 1, 1⟩
def STPCFG_SRC (m : Nat) : FldAt := ⟨(STPCFG m), 4, 4⟩
def STPCFG_SHIFT (m : Nat) : FldAt := ⟨(STPCFG m), 8, 5⟩
def STPCFG_SEL (m : Nat) : FldAt := ⟨(STPCFG m), 16, 8⟩
def STPLO (m : Nat) : Nat := 0x40090104 + m * 0x10
def STPLO_LO (m : Nat) : FldAt := ⟨(STPLO m), 0, 32⟩

def table : List RegDesc :=
  [
    ⟨"OBS.EPCFG", 0x40090000, [], [⟨0, 2, .rw, 0⟩, ⟨2, 2, .rw, 0⟩, ⟨4, 1, .wo, 0⟩, ⟨31, 1, .w1c, 0⟩], 0x0, false⟩,
    ⟨"OBS.EPPER", 0x40090004, [], [⟨0, 26, .rw, 0⟩], 0x0, false⟩,
    ⟨"OBS.EPBASENS", 0x40090008, [], [⟨0, 30, .rw, 0⟩], 0x0, false⟩,
    ⟨"OBS.EPBASESEC", 0x4009000C, [], [⟨0, 32, .rw, 0⟩], 0x0, false⟩,
    ⟨"OBS.EPSTAT", 0x40090010, [], [⟨0, 32, .ro, 0⟩], 0x0, false⟩,
    ⟨"OBS.SEALL", 0x40090020, [], [⟨0, 32, .ro, 0⟩], 0x0, false⟩,
    ⟨"OBS.SEALH", 0x40090024, [], [⟨0, 32, .ro, 0⟩], 0x0, false⟩,
    ⟨"OBS.DSEALL", 0x40090028, [], [⟨0, 32, .ro, 0⟩], 0x0, false⟩,
    ⟨"OBS.DSEALH", 0x4009002C, [], [⟨0, 32, .ro, 0⟩], 0x0, false⟩,
    ⟨"OBS.ACTCTL", 0x40090030, [], [⟨0, 1, .rw, 0⟩, ⟨1, 1, .w1s, 0⟩, ⟨2, 1, .wo, 0⟩, ⟨4, 2, .rw, 0⟩, ⟨6, 1, .rw, 0⟩], 0x0, false⟩,
    ⟨"OBS.ACTNS", 0x40090034, [], [⟨0, 30, .rw, 0⟩], 0x0, false⟩,
    ⟨"OBS.ACTSEC", 0x40090038, [], [⟨0, 32, .rw, 0⟩], 0x0, false⟩ ] ++
  [
    ⟨"OBS.ACTEPOCH", 0x4009003C, [], [⟨0, 32, .rw, 0⟩], 0x0, false⟩,
    ⟨"OBS.ACTSTAT", 0x40090040, [], [⟨0, 1, .ro, 0⟩, ⟨1, 1, .w1c, 0⟩, ⟨2, 1, .w1c, 0⟩], 0x0, false⟩,
    ⟨"OBS.RUNEPOCH", 0x40090044, [], [⟨0, 32, .ro, 0⟩], 0x0, false⟩,
    ⟨"OBS.STPCFG", 0x40090100, [(0x10, 32)], [⟨0, 1, .rw, 0⟩, ⟨1, 1, .rw, 0⟩, ⟨4, 4, .rw, 0⟩, ⟨8, 5, .rw, 0⟩, ⟨16, 8, .rw, 0⟩], 0x0, false⟩,
    ⟨"OBS.STPLO", 0x40090104, [(0x10, 32)], [⟨0, 32, .rw, 0⟩], 0x0, false⟩ ]

end OBS

namespace PCI

def B2BASE (f w : Nat) : Nat := 0x400A0100 + f * 0x80 + w * 0x10
def B2BASE_PAGE (f w : Nat) : FldAt := ⟨(B2BASE f w), 12, 13⟩
def B2LIM (f w : Nat) : Nat := 0x400A0104 + f * 0x80 + w * 0x10
def B2LIM_PAGE (f w : Nat) : FldAt := ⟨(B2LIM f w), 12, 13⟩
def B2ATTR (f w : Nat) : Nat := 0x400A0108 + f * 0x80 + w * 0x10
def B2ATTR_EN (f w : Nat) : FldAt := ⟨(B2ATTR f w), 0, 1⟩
def B2ATTR_RD (f w : Nat) : FldAt := ⟨(B2ATTR f w), 1, 1⟩
def B2ATTR_WR (f w : Nat) : FldAt := ⟨(B2ATTR f w), 2, 1⟩
def B2ATTR_REGION_BOUND (f w : Nat) : FldAt := ⟨(B2ATTR f w), 3, 1⟩
def B2ATTR_REGION (f w : Nat) : FldAt := ⟨(B2ATTR f w), 4, 2⟩
def B2ATTR_LOCK (f w : Nat) : FldAt := ⟨(B2ATTR f w), 31, 1⟩
def MSIXSRC (f v : Nat) : Nat := 0x400A0200 + f * 0x80 + v * 0x4
def MSIXSRC_SRC (f v : Nat) : FldAt := ⟨(MSIXSRC f v), 0, 8⟩
def MSIXSRC_EN (f v : Nat) : FldAt := ⟨(MSIXSRC f v), 8, 1⟩
def MSIXMRG (f : Nat) : Nat := 0x400A0300 + f * 0x80
def MSIXMRG_MERGED (f : Nat) : FldAt := ⟨(MSIXMRG f), 0, 16⟩

def table : List RegDesc :=
  [
    ⟨"PCI.B2BASE", 0x400A0100, [(0x80, 2), (0x10, 8)], [⟨12, 13, .rw, 0⟩], 0x0, false⟩,
    ⟨"PCI.B2LIM", 0x400A0104, [(0x80, 2), (0x10, 8)], [⟨12, 13, .rw, 0⟩], 0x0, false⟩,
    ⟨"PCI.B2ATTR", 0x400A0108, [(0x80, 2), (0x10, 8)], [⟨0, 1, .rw, 0⟩, ⟨1, 1, .rw, 0⟩, ⟨2, 1, .rw, 0⟩, ⟨3, 1, .rw, 0⟩, ⟨4, 2, .rw, 0⟩, ⟨31, 1, .wl, 0⟩], 0x0, false⟩,
    ⟨"PCI.MSIXSRC", 0x400A0200, [(0x80, 2), (0x4, 32)], [⟨0, 8, .rw, 0⟩, ⟨8, 1, .rw, 0⟩], 0x0, false⟩,
    ⟨"PCI.MSIXMRG", 0x400A0300, [(0x80, 2)], [⟨0, 16, .rc, 0⟩], 0x0, false⟩ ]

end PCI

namespace BRN

def CTL : Nat := 0x40404000
def CTL_EN : FldAt := ⟨CTL, 0, 1⟩
def CTL_HBPER : FldAt := ⟨CTL, 8, 8⟩
def CTL_ROMTO : FldAt := ⟨CTL, 16, 8⟩
def HBEAT : Nat := 0x40404004
def HBEAT_VAL : FldAt := ⟨HBEAT, 0, 8⟩
def STAT : Nat := 0x40404008
def STAT_STATE : FldAt := ⟨STAT, 0, 2⟩
def STAT_CAUSE : FldAt := ⟨STAT, 2, 3⟩
def STAT_EXPECT : FldAt := ⟨STAT, 5, 1⟩
def STAT_BADHB : FldAt := ⟨STAT, 8, 8⟩
def STAT_RESTARTS : FldAt := ⟨STAT, 16, 16⟩
def LIMIT : Nat := 0x4040400C
def LIMIT_LIMIT : FldAt := ⟨LIMIT, 0, 4⟩
def LIMIT_WIN : FldAt := ⟨LIMIT, 8, 8⟩
def TICK : Nat := 0x40404010
def TICK_MS : FldAt := ⟨TICK, 0, 32⟩

def table : List RegDesc :=
  [
    ⟨"BRN.CTL", 0x40404000, [], [⟨0, 1, .rw, 0⟩, ⟨8, 8, .rw, 10⟩, ⟨16, 8, .rw, 2⟩], 0x0, false⟩,
    ⟨"BRN.HBEAT", 0x40404004, [], [⟨0, 8, .wo, 0⟩], 0x0, false⟩,
    ⟨"BRN.STAT", 0x40404008, [], [⟨0, 2, .ro, 0⟩, ⟨2, 3, .ro, 0⟩, ⟨5, 1, .ro, 0⟩, ⟨8, 8, .rc, 0⟩, ⟨16, 16, .ro, 0⟩], 0x0, false⟩,
    ⟨"BRN.LIMIT", 0x4040400C, [], [⟨0, 4, .rw, 3⟩, ⟨8, 8, .rw, 10⟩], 0x0, false⟩,
    ⟨"BRN.TICK", 0x40404010, [], [⟨0, 32, .ro, 0⟩], 0x0, false⟩ ]

end BRN

namespace PHYA

def TEST (p : Nat) : Nat := 0x40408000 + p * 0x8
def TEST_MODE (p : Nat) : FldAt := ⟨(TEST p), 0, 4⟩
def TEST_LOOP (p : Nat) : FldAt := ⟨(TEST p), 4, 2⟩
def TEST_PRBSLOCK (p : Nat) : FldAt := ⟨(TEST p), 8, 1⟩
def TEST_PRBSERR (p : Nat) : FldAt := ⟨(TEST p), 16, 16⟩
def TRIM (p : Nat) : Nat := 0x40408004 + p * 0x8
def TRIM_AMP (p : Nat) : FldAt := ⟨(TRIM p), 0, 5⟩
def TRIM_DEEMP (p : Nat) : FldAt := ⟨(TRIM p), 5, 5⟩
def TRIM_CTLE (p : Nat) : FldAt := ⟨(TRIM p), 10, 5⟩
def TEMP : Nat := 0x40408100
def TEMP_TJ : FldAt := ⟨TEMP, 0, 16⟩
def TEMP_VALID : FldAt := ⟨TEMP, 16, 1⟩
def VMON (s : Nat) : Nat := 0x40408104 + s * 0x4
def VMON_MV (s : Nat) : FldAt := ⟨(VMON s), 0, 16⟩
def VMON_OOR (s : Nat) : FldAt := ⟨(VMON s), 16, 1⟩

def table : List RegDesc :=
  [
    ⟨"PHYA.TEST", 0x40408000, [(0x8, 16)], [⟨0, 4, .rw, 0⟩, ⟨4, 2, .rw, 0⟩, ⟨8, 1, .ro, 0⟩, ⟨16, 16, .rc, 0⟩], 0x0, false⟩,
    ⟨"PHYA.TRIM", 0x40408004, [(0x8, 16)], [⟨0, 5, .rw, 0⟩, ⟨5, 5, .rw, 0⟩, ⟨10, 5, .rw, 0⟩], 0x7fff, true⟩,
    ⟨"PHYA.TEMP", 0x40408100, [], [⟨0, 16, .ro, 0⟩, ⟨16, 1, .ro, 0⟩], 0x0, false⟩,
    ⟨"PHYA.VMON", 0x40408104, [(0x4, 6)], [⟨0, 16, .ro, 0⟩, ⟨16, 1, .ro, 0⟩], 0x0, false⟩ ]

end PHYA

namespace WAKE

def LINE : Nat := 0x40400000
def LINE_FLT : FldAt := ⟨LINE, 0, 8⟩
def LINE_TWUP : FldAt := ⟨LINE, 8, 8⟩
def LINE_PULSE : FldAt := ⟨LINE, 16, 12⟩
def LINE_LOW : FldAt := ⟨LINE, 28, 1⟩
def LINE_DRIVE : FldAt := ⟨LINE, 29, 1⟩
def INHCFG : Nat := 0x40400004
def INHCFG_REL : FldAt := ⟨INHCFG, 0, 1⟩
def INHCFG_INH : FldAt := ⟨INHCFG, 1, 1⟩
def TAMPCFG : Nat := 0x40400010
def TAMPCFG_EN0 : FldAt := ⟨TAMPCFG, 0, 1⟩
def TAMPCFG_EN1 : FldAt := ⟨TAMPCFG, 1, 1⟩
def TAMPCFG_EXP0 : FldAt := ⟨TAMPCFG, 2, 1⟩
def TAMPCFG_EXP1 : FldAt := ⟨TAMPCFG, 3, 1⟩
def TAMPCFG_FLT : FldAt := ⟨TAMPCFG, 8, 8⟩
def TAMPCFG_LOCK : FldAt := ⟨TAMPCFG, 31, 1⟩
def TAMPSTAT : Nat := 0x40400014
def TAMPSTAT_HIT0 : FldAt := ⟨TAMPSTAT, 0, 1⟩
def TAMPSTAT_HIT1 : FldAt := ⟨TAMPSTAT, 1, 1⟩
def TAMPSTAT_CNT : FldAt := ⟨TAMPSTAT, 8, 8⟩
def HWAKE : Nat := 0x40400020
def HWAKE_LINE : FldAt := ⟨HWAKE, 0, 1⟩
def HWAKE_REMOTE : FldAt := ⟨HWAKE, 1, 1⟩
def HWAKE_TIMER : FldAt := ⟨HWAKE, 2, 1⟩
def HWAKE_TIO : FldAt := ⟨HWAKE, 3, 1⟩
def HWAKE_PORT : FldAt := ⟨HWAKE, 16, 16⟩
def OFFCAUSE : Nat := 0x40400024
def OFFCAUSE_CAUSE : FldAt := ⟨OFFCAUSE, 0, 8⟩
def OFFCAUSE_VALID : FldAt := ⟨OFFCAUSE, 8, 1⟩
def HTIMER : Nat := 0x40400028
def HTIMER_MS : FldAt := ⟨HTIMER, 0, 24⟩
def FSCTL (c : Nat) : Nat := 0x40400100 + c * 0x10
def FSCTL_REQ (c : Nat) : FldAt := ⟨(FSCTL c), 0, 2⟩
def FSCTL_KICK (c : Nat) : FldAt := ⟨(FSCTL c), 8, 12⟩
def FSCFG (c : Nat) : Nat := 0x40400104 + c * 0x10
def FSCFG_TFS (c : Nat) : FldAt := ⟨(FSCFG c), 0, 16⟩
def FSOWN (c : Nat) : Nat := 0x40400108 + c * 0x10
def FSOWN_KEY (c : Nat) : FldAt := ⟨(FSOWN c), 0, 8⟩
def FSOWN_V (c : Nat) : FldAt := ⟨(FSOWN c), 31, 1⟩
def FSSTAT (c : Nat) : Nat := 0x4040010C + c * 0x10
def FSSTAT_STATE (c : Nat) : FldAt := ⟨(FSSTAT c), 0, 2⟩
def FSSTAT_EXP (c : Nat) : FldAt := ⟨(FSSTAT c), 2, 1⟩
def FSSTAT_RWAKE (c : Nat) : FldAt := ⟨(FSSTAT c), 3, 1⟩
def FSSTAT_BADKICK (c : Nat) : FldAt := ⟨(FSSTAT c), 8, 8⟩
def FSSTAT_REMAIN (c : Nat) : FldAt := ⟨(FSSTAT c), 16, 16⟩

def table : List RegDesc :=
  [
    ⟨"WAKE.LINE", 0x40400000, [], [⟨0, 8, .rw, 5⟩, ⟨8, 8, .rw, 5⟩, ⟨16, 12, .rw, 50⟩, ⟨28, 1, .ro, 0⟩, ⟨29, 1, .ro, 0⟩], 0xfffffff, true⟩,
    ⟨"WAKE.INHCFG", 0x40400004, [], [⟨0, 1, .rw, 0⟩, ⟨1, 1, .ro, 1⟩], 0x0, false⟩,
    ⟨"WAKE.TAMPCFG", 0x40400010, [], [⟨0, 1, .rw, 0⟩, ⟨1, 1, .rw, 0⟩, ⟨2, 1, .rw, 0⟩, ⟨3, 1, .rw, 0⟩, ⟨8, 8, .rw, 10⟩, ⟨31, 1, .wl, 0⟩], 0x0, false⟩,
    ⟨"WAKE.TAMPSTAT", 0x40400014, [], [⟨0, 1, .ro, 0⟩, ⟨1, 1, .ro, 0⟩, ⟨8, 8, .ro, 0⟩], 0x0, false⟩,
    ⟨"WAKE.HWAKE", 0x40400020, [], [⟨0, 1, .rw, 1⟩, ⟨1, 1, .rw, 1⟩, ⟨2, 1, .rw, 0⟩, ⟨3, 1, .rw, 0⟩, ⟨16, 16, .rw, 0⟩], 0x0, false⟩,
    ⟨"WAKE.OFFCAUSE", 0x40400024, [], [⟨0, 8, .ro, 0⟩, ⟨8, 1, .w1c, 0⟩], 0x0, false⟩,
    ⟨"WAKE.HTIMER", 0x40400028, [], [⟨0, 24, .rw, 0⟩], 0x0, false⟩,
    ⟨"WAKE.FSCTL", 0x40400100, [(0x10, 12)], [⟨0, 2, .rw, 0⟩, ⟨8, 12, .wo, 0⟩], 0x0, false⟩,
    ⟨"WAKE.FSCFG", 0x40400104, [(0x10, 12)], [⟨0, 16, .rw, 256⟩], 0xffff, true⟩,
    ⟨"WAKE.FSOWN", 0x40400108, [(0x10, 12)], [⟨0, 8, .rw, 0⟩, ⟨31, 1, .rw, 0⟩], 0x0, false⟩,
    ⟨"WAKE.FSSTAT", 0x4040010C, [(0x10, 12)], [⟨0, 2, .ro, 2⟩, ⟨2, 1, .w1c, 0⟩, ⟨3, 1, .w1c, 0⟩, ⟨8, 8, .rc, 0⟩, ⟨16, 16, .ro, 0⟩], 0x0, false⟩ ]

end WAKE

namespace NMG

def RINGCFG (r : Nat) : Nat := 0x400C0000 + r * 0x20
def RINGCFG_EN (r : Nat) : FldAt := ⟨(RINGCFG r), 0, 1⟩
def RINGCFG_RINGLEN (r : Nat) : FldAt := ⟨(RINGCFG r), 1, 7⟩
def RINGCFG_DBBIT (r : Nat) : FldAt := ⟨(RINGCFG r), 8, 5⟩
def RINGCFG_OWNKEY (r : Nat) : FldAt := ⟨(RINGCFG r), 16, 8⟩
def RINGCFG_OV (r : Nat) : FldAt := ⟨(RINGCFG r), 24, 1⟩
def RINGTMR (r : Nat) : Nat := 0x400C0004 + r * 0x20
def RINGTMR_TTYP (r : Nat) : FldAt := ⟨(RINGTMR r), 0, 16⟩
def RINGTMR_TMAX (r : Nat) : FldAt := ⟨(RINGTMR r), 16, 16⟩
def RINGMED (r : Nat) : Nat := 0x400C0008 + r * 0x20
def RINGMED_MBMASK (r : Nat) : FldAt := ⟨(RINGMED r), 0, 8⟩
def RINGMED_T1SMASK (r : Nat) : FldAt := ⟨(RINGMED r), 8, 4⟩
def RINGWAIT (r : Nat) : Nat := 0x400C000C + r * 0x20
def RINGWAIT_WAIT (r : Nat) : FldAt := ⟨(RINGWAIT r), 0, 16⟩
def RINGCTL (r : Nat) : Nat := 0x400C0010 + r * 0x20
def RINGCTL_LOCAL (r : Nat) : FldAt := ⟨(RINGCTL r), 0, 1⟩
def RINGCTL_LSET (r : Nat) : FldAt := ⟨(RINGCTL r), 1, 1⟩
def RINGCTL_WAKE (r : Nat) : FldAt := ⟨(RINGCTL r), 2, 1⟩
def RINGEVT (r : Nat) : Nat := 0x400C0014 + r * 0x20
def RINGEVT_SI (r : Nat) : FldAt := ⟨(RINGEVT r), 0, 1⟩
def RINGSTAT (r : Nat) : Nat := 0x400C0018 + r * 0x20
def RINGSTAT_STATE (r : Nat) : FldAt := ⟨(RINGSTAT r), 0, 3⟩
def RINGSTAT_LOCAL (r : Nat) : FldAt := ⟨(RINGSTAT r), 3, 1⟩
def RINGSTAT_CONSCNT (r : Nat) : FldAt := ⟨(RINGSTAT r), 4, 7⟩
def RINGSTAT_TOKEN (r : Nat) : FldAt := ⟨(RINGSTAT r), 16, 1⟩
def RINGSTAT_RLOST (r : Nat) : FldAt := ⟨(RINGSTAT r), 17, 1⟩
def RINGSTAT_ABORT (r : Nat) : FldAt := ⟨(RINGSTAT r), 18, 1⟩

def table : List RegDesc :=
  [
    ⟨"NMG.RINGCFG", 0x400C0000, [(0x20, 4)], [⟨0, 1, .rw, 0⟩, ⟨1, 7, .rw, 2⟩, ⟨8, 5, .rw, 0⟩, ⟨16, 8, .rw, 0⟩, ⟨24, 1, .rw, 0⟩], 0x1ff1fff, true⟩,
    ⟨"NMG.RINGTMR", 0x400C0004, [(0x20, 4)], [⟨0, 16, .rw, 100⟩, ⟨16, 16, .rw, 250⟩], 0xffffffff, true⟩,
    ⟨"NMG.RINGMED", 0x400C0008, [(0x20, 4)], [⟨0, 8, .rw, 0⟩, ⟨8, 4, .rw, 0⟩], 0xfff, true⟩,
    ⟨"NMG.RINGWAIT", 0x400C000C, [(0x20, 4)], [⟨0, 16, .rw, 1000⟩], 0xffff, true⟩,
    ⟨"NMG.RINGCTL", 0x400C0010, [(0x20, 4)], [⟨0, 1, .wo, 0⟩, ⟨1, 1, .wo, 0⟩, ⟨2, 1, .wo, 0⟩], 0x0, false⟩,
    ⟨"NMG.RINGEVT", 0x400C0014, [(0x20, 4)], [⟨0, 1, .wo, 0⟩], 0x0, false⟩,
    ⟨"NMG.RINGSTAT", 0x400C0018, [(0x20, 4)], [⟨0, 3, .ro, 0⟩, ⟨3, 1, .ro, 0⟩, ⟨4, 7, .ro, 0⟩, ⟨16, 1, .w1c, 0⟩, ⟨17, 1, .w1c, 0⟩, ⟨18, 1, .w1c, 0⟩], 0x0, false⟩ ]

end NMG
end Sys2Proof.Machine
end

