-- ==== Sys2Proof/Machine/RegsNet.lean ====
section
/-! DEFINITION. The register blocks SW (Tables 8.6-8.17), TMU (Tables 9.7-9.10), PORT (Tables 7.10-7.13) and RUL (Tables 10.7-10.11): addresses, fields, access types and reset values. -/
namespace Sys2Proof.Machine

namespace SW

def BUFSTAT : Nat := 0x40020004
def BUFSTAT_FREE : FldAt := ⟨BUFSTAT, 0, 15⟩
def BUFSTAT_SHARED : FldAt := ⟨BUFSTAT, 16, 15⟩
def FDBCFG : Nat := 0x40020008
def FDBCFG_AGE : FldAt := ⟨FDBCFG, 0, 16⟩
def QCFG (q : Nat) : Nat := 0x40020100 + q * 0x8
def QCFG_ALPHA (q : Nat) : FldAt := ⟨(QCFG q), 0, 4⟩
def QCFG_MIN (q : Nat) : FldAt := ⟨(QCFG q), 4, 8⟩
def QCFG_GPROF (q : Nat) : FldAt := ⟨(QCFG q), 12, 4⟩
def QCFG_YPROF (q : Nat) : FldAt := ⟨(QCFG q), 16, 4⟩
def QCFG_RPROF (q : Nat) : FldAt := ⟨(QCFG q), 20, 4⟩
def QCFG_REDEN (q : Nat) : FldAt := ⟨(QCFG q), 24, 1⟩
def QCFG_CTEN (q : Nat) : FldAt := ⟨(QCFG q), 25, 1⟩
def QSTAT (q : Nat) : Nat := 0x40020104 + q * 0x8
def QSTAT_Q (q : Nat) : FldAt := ⟨(QSTAT q), 0, 15⟩
def QSTAT_AVG (q : Nat) : FldAt := ⟨(QSTAT q), 16, 15⟩
def REDP0 (r : Nat) : Nat := 0x40020700 + r * 0x8
def REDP0_MINTH (r : Nat) : FldAt := ⟨(REDP0 r), 0, 14⟩
def REDP0_MAXTH (r : Nat) : FldAt := ⟨(REDP0 r), 16, 14⟩
def REDP1 (r : Nat) : Nat := 0x40020704 + r * 0x8
def REDP1_MAXP (r : Nat) : FldAt := ⟨(REDP1 r), 0, 8⟩
def REDP1_W (r : Nat) : FldAt := ⟨(REDP1 r), 8, 4⟩
def PCFG (p : Nat) : Nat := 0x40020800 + p * 0x10
def PCFG_PVID (p : Nat) : FldAt := ⟨(PCFG p), 0, 12⟩
def PCFG_PPCP (p : Nat) : FldAt := ⟨(PCFG p), 12, 3⟩
def PCFG_LEARN (p : Nat) : FldAt := ⟨(PCFG p), 15, 1⟩
def PCFG_IFILT (p : Nat) : FldAt := ⟨(PCFG p), 16, 1⟩
def PCFG_PAIR (p : Nat) : FldAt := ⟨(PCFG p), 17, 2⟩
def PCPMAP (p : Nat) : Nat := 0x40020804 + p * 0x10
def PCPMAP_C0 (p : Nat) : FldAt := ⟨(PCPMAP p), 0, 3⟩
def PCPMAP_Y0 (p : Nat) : FldAt := ⟨(PCPMAP p), 3, 1⟩
def PCPMAP_C1 (p : Nat) : FldAt := ⟨(PCPMAP p), 4, 3⟩
def PCPMAP_Y1 (p : Nat) : FldAt := ⟨(PCPMAP p), 7, 1⟩
def PCPMAP_C2 (p : Nat) : FldAt := ⟨(PCPMAP p), 8, 3⟩
def PCPMAP_Y2 (p : Nat) : FldAt := ⟨(PCPMAP p), 11, 1⟩
def PCPMAP_C3 (p : Nat) : FldAt := ⟨(PCPMAP p), 12, 3⟩
def PCPMAP_Y3 (p : Nat) : FldAt := ⟨(PCPMAP p), 15, 1⟩
def PCPMAP_C4 (p : Nat) : FldAt := ⟨(PCPMAP p), 16, 3⟩
def PCPMAP_Y4 (p : Nat) : FldAt := ⟨(PCPMAP p), 19, 1⟩
def PCPMAP_C5 (p : Nat) : FldAt := ⟨(PCPMAP p), 20, 3⟩
def PCPMAP_Y5 (p : Nat) : FldAt := ⟨(PCPMAP p), 23, 1⟩
def PCPMAP_C6 (p : Nat) : FldAt := ⟨(PCPMAP p), 24, 3⟩
def PCPMAP_Y6 (p : Nat) : FldAt := ⟨(PCPMAP p), 27, 1⟩
def PCPMAP_C7 (p : Nat) : FldAt := ⟨(PCPMAP p), 28, 3⟩
def PCPMAP_Y7 (p : Nat) : FldAt := ⟨(PCPMAP p), 31, 1⟩
def STCFG (p : Nat) : Nat := 0x40020808 + p * 0x10
def STCFG_EN (p : Nat) : FldAt := ⟨(STCFG p), 0, 1⟩
def STCFG_GUARD (p : Nat) : FldAt := ⟨(STCFG p), 1, 1⟩
def STCFG_OPBANK (p : Nat) : FldAt := ⟨(STCFG p), 2, 1⟩
def STCFG_PEND (p : Nat) : FldAt := ⟨(STCFG p), 3, 1⟩
def GDCFG (n : Nat) : Nat := 0x40020B00 + n * 0x4
def GDCFG_EN (n : Nat) : FldAt := ⟨(GDCFG n), 0, 1⟩
def GDCFG_NVIOL (n : Nat) : FldAt := ⟨(GDCFG n), 1, 3⟩
def GDCFG_MARGIN (n : Nat) : FldAt := ⟨(GDCFG n), 4, 24⟩
def GDSTAT (p : Nat) : Nat := 0x40020B40 + p * 0x4
def GDSTAT_ISO (p : Nat) : FldAt := ⟨(GDSTAT p), 0, 1⟩
def GDSTAT_CONSEC (p : Nat) : FldAt := ⟨(GDSTAT p), 1, 3⟩
def GDSTAT_VIOL (p : Nat) : FldAt := ⟨(GDSTAT p), 8, 8⟩
def GDSTAT_CUT (p : Nat) : FldAt := ⟨(GDSTAT p), 16, 8⟩
def TBLSEL : Nat := 0x40020C00
def TBLSEL_TABLE : FldAt := ⟨TBLSEL, 0, 3⟩
def TBLSEL_BUSY : FldAt := ⟨TBLSEL, 3, 1⟩
def TBLSEL_ERR : FldAt := ⟨TBLSEL, 4, 1⟩
def TBLSEL_INDEX : FldAt := ⟨TBLSEL, 16, 13⟩
def TBLSEL_WR : FldAt := ⟨TBLSEL, 30, 1⟩
def TBLSEL_RD : FldAt := ⟨TBLSEL, 31, 1⟩
def TBLDATA (w : Nat) : Nat := 0x40020C10 + w * 0x4
def TBLDATA_DATA (w : Nat) : FldAt := ⟨(TBLDATA w), 0, 32⟩
def CTXOP : Nat := 0x40020D00
def CTXOP_KEY : FldAt := ⟨CTXOP, 0, 8⟩
def CTXOP_OP : FldAt := ⟨CTXOP, 8, 2⟩
def ABSCNT : Nat := 0x40020D04
def ABSCNT_ABSORBED : FldAt := ⟨ABSCNT, 0, 16⟩
def HCFG : Nat := 0x40020D08
def HCFG_POLL : FldAt := ⟨HCFG, 0, 8⟩
def RPL (k : Nat) : Nat := 0x40020E00 + k * 0x4
def RPL_LAST_COS (k : Nat) : FldAt := ⟨(RPL k), 0, 32⟩
def STH_CYCLE (p b : Nat) : Nat := 0x40021200 + p * 0x20 + b * 0x10
def STH_CYCLE_CYCLE (p b : Nat) : FldAt := ⟨(STH_CYCLE p b), 0, 30⟩
def STH_BASENS (p b : Nat) : Nat := 0x40021204 + p * 0x20 + b * 0x10
def STH_BASENS_BASENS (p b : Nat) : FldAt := ⟨(STH_BASENS p b), 0, 30⟩
def STH_BASESEC (p b : Nat) : Nat := 0x40021208 + p * 0x20 + b * 0x10
def STH_BASESEC_BASESEC (p b : Nat) : FldAt := ⟨(STH_BASESEC p b), 0, 32⟩
def STH_LEN (p b : Nat) : Nat := 0x4002120C + p * 0x20 + b * 0x10
def STH_LEN_LEN (p b : Nat) : FldAt := ⟨(STH_LEN p b), 0, 9⟩
def STE (p b e : Nat) : Nat := 0x40024000 + p * 0x800 + b * 0x400 + e * 0x4
def STE_GATES (p b e : Nat) : FldAt := ⟨(STE p b e), 0, 8⟩
def STE_INTERVAL (p b e : Nat) : FldAt := ⟨(STE p b e), 8, 24⟩
def RCFG (n r : Nat) : Nat := 0x40022000 + n * 0x400 + r * 0x20
def RCFG_EN (n r : Nat) : FldAt := ⟨(RCFG n r), 0, 1⟩
def RCFG_DIR (n r : Nat) : FldAt := ⟨(RCFG n r), 1, 1⟩
def RCFG_SZ (n r : Nat) : FldAt := ⟨(RCFG n r), 2, 4⟩
def RCFG_BUFLOG2 (n r : Nat) : FldAt := ⟨(RCFG n r), 6, 4⟩
def RCFG_OWNKEY (n r : Nat) : FldAt := ⟨(RCFG n r), 16, 8⟩
def RCFG_OV (n r : Nat) : FldAt := ⟨(RCFG n r), 24, 1⟩
def RBASE (n r : Nat) : Nat := 0x40022004 + n * 0x400 + r * 0x20
def RBASE_RBASE (n r : Nat) : FldAt := ⟨(RBASE n r), 5, 27⟩
def RBUF (n r : Nat) : Nat := 0x40022008 + n * 0x400 + r * 0x20
def RBUF_RBUF (n r : Nat) : FldAt := ⟨(RBUF n r), 8, 24⟩
def RPI (n r : Nat) : Nat := 0x4002200C + n * 0x400 + r * 0x20
def RPI_RPI (n r : Nat) : FldAt := ⟨(RPI n r), 0, 10⟩
def RCI (n r : Nat) : Nat := 0x40022010 + n * 0x400 + r * 0x20
def RCI_RCI (n r : Nat) : FldAt := ⟨(RCI n r), 0, 10⟩
def RFI (n r : Nat) : Nat := 0x40022014 + n * 0x400 + r * 0x20
def RFI_RFI (n r : Nat) : FldAt := ⟨(RFI n r), 0, 10⟩
def CLSRING (n : Nat) : Nat := 0x40022200 + n * 0x400
def CLSRING_C0 (n : Nat) : FldAt := ⟨(CLSRING n), 0, 4⟩
def CLSRING_C1 (n : Nat) : FldAt := ⟨(CLSRING n), 4, 4⟩
def CLSRING_C2 (n : Nat) : FldAt := ⟨(CLSRING n), 8, 4⟩
def CLSRING_C3 (n : Nat) : FldAt := ⟨(CLSRING n), 12, 4⟩
def CLSRING_C4 (n : Nat) : FldAt := ⟨(CLSRING n), 16, 4⟩
def CLSRING_C5 (n : Nat) : FldAt := ⟨(CLSRING n), 20, 4⟩
def CLSRING_C6 (n : Nat) : FldAt := ⟨(CLSRING n), 24, 4⟩
def CLSRING_C7 (n : Nat) : FldAt := ⟨(CLSRING n), 28, 4⟩
def HRCFG (r : Nat) : Nat := 0x40023000 + r * 0x20
def HRCFG_EN (r : Nat) : FldAt := ⟨(HRCFG r), 0, 1⟩
def HRCFG_DIR (r : Nat) : FldAt := ⟨(HRCFG r), 1, 1⟩
def HRCFG_SZ (r : Nat) : FldAt := ⟨(HRCFG r), 2, 4⟩
def HRCFG_BUFLOG2 (r : Nat) : FldAt := ⟨(HRCFG r), 6, 4⟩
def HRCFG_FN (r : Nat) : FldAt := ⟨(HRCFG r), 10, 1⟩
def HRCFG_DBBIT (r : Nat) : FldAt := ⟨(HRCFG r), 11, 5⟩
def HRBASE (r : Nat) : Nat := 0x40023004 + r * 0x20
def HRBASE_RBASE (r : Nat) : FldAt := ⟨(HRBASE r), 5, 27⟩
def HRBUF (r : Nat) : Nat := 0x40023008 + r * 0x20
def HRBUF_RBUF (r : Nat) : FldAt := ⟨(HRBUF r), 8, 24⟩
def HIDX (r : Nat) : Nat := 0x4002300C + r * 0x20
def HIDX_IDX (r : Nat) : FldAt := ⟨(HIDX r), 0, 10⟩
def KRCFG (r : Nat) : Nat := 0x40023200 + r * 0x20
def KRCFG_EN (r : Nat) : FldAt := ⟨(KRCFG r), 0, 1⟩
def KRCFG_DIR (r : Nat) : FldAt := ⟨(KRCFG r), 1, 1⟩
def KRCFG_SZ (r : Nat) : FldAt := ⟨(KRCFG r), 2, 4⟩
def KRCFG_BUFLOG2 (r : Nat) : FldAt := ⟨(KRCFG r), 6, 4⟩
def KRBASE (r : Nat) : Nat := 0x40023204 + r * 0x20
def KRBASE_RBASE (r : Nat) : FldAt := ⟨(KRBASE r), 5, 27⟩
def KRBUF (r : Nat) : Nat := 0x40023208 + r * 0x20
def KRBUF_RBUF (r : Nat) : FldAt := ⟨(KRBUF r), 8, 24⟩
def KIDX (r : Nat) : Nat := 0x4002320C + r * 0x20
def KIDX_IDX (r : Nat) : FldAt := ⟨(KIDX r), 0, 10⟩

def table : List RegDesc :=
  [
    ⟨"SW.BUFSTAT", 0x40020004, [], [⟨0, 15, .ro, 0x4000⟩, ⟨16, 15, .ro, 0x4000⟩], 0x0, false⟩,
    ⟨"SW.FDBCFG", 0x40020008, [], [⟨0, 16, .rw, 300⟩], 0xffff, true⟩,
    ⟨"SW.QCFG", 0x40020100, [(0x8, 176)], [⟨0, 4, .rw, 6⟩, ⟨4, 8, .rw, 0⟩, ⟨12, 4, .rw, 0⟩, ⟨16, 4, .rw, 0⟩, ⟨20, 4, .rw, 15⟩, ⟨24, 1, .rw, 1⟩, ⟨25, 1, .rw, 1⟩], 0x3ffffff, true⟩,
    ⟨"SW.QSTAT", 0x40020104, [(0x8, 176)], [⟨0, 15, .ro, 0⟩, ⟨16, 15, .ro, 0⟩], 0x0, false⟩,
    ⟨"SW.REDP0", 0x40020700, [(0x8, 16)], [⟨0, 14, .rw, 0x3fff⟩, ⟨16, 14, .rw, 0x3fff⟩], 0x3fff3fff, true⟩,
    ⟨"SW.REDP1", 0x40020704, [(0x8, 16)], [⟨0, 8, .rw, 0⟩, ⟨8, 4, .rw, 9⟩], 0xfff, true⟩,
    ⟨"SW.PCFG", 0x40020800, [(0x10, 22)], [⟨0, 12, .rw, 1⟩, ⟨12, 3, .rw, 0⟩, ⟨15, 1, .rw, 0⟩, ⟨16, 1, .rw, 1⟩, ⟨17, 2, .rw, 0⟩], 0x7ffff, true⟩,
    ⟨"SW.PCPMAP", 0x40020804, [(0x10, 22)], [⟨0, 3, .rw, 0⟩, ⟨3, 1, .rw, 0⟩, ⟨4, 3, .rw, 1⟩, ⟨7, 1, .rw, 0⟩, ⟨8, 3, .rw, 2⟩, ⟨11, 1, .rw, 0⟩, ⟨12, 3, .rw, 3⟩, ⟨15, 1, .rw, 0⟩, ⟨16, 3, .rw, 4⟩, ⟨19, 1, .rw, 0⟩, ⟨20, 3, .rw, 5⟩, ⟨23, 1, .rw, 0⟩, ⟨24, 3, .rw, 6⟩, ⟨27, 1, .rw, 0⟩, ⟨28, 3, .rw, 7⟩, ⟨31, 1, .rw, 0⟩], 0xffffffff, true⟩,
    ⟨"SW.STCFG", 0x40020808, [(0x10, 22)], [⟨0, 1, .rw, 0⟩, ⟨1, 1, .rw, 1⟩, ⟨2, 1, .ro, 0⟩, ⟨3, 1, .ro, 0⟩], 0x3, true⟩,
    ⟨"SW.GDCFG", 0x40020B00, [(0x4, 4)], [⟨0, 1, .rw, 0⟩, ⟨1, 3, .rw, 3⟩, ⟨4, 24, .rw, 0⟩], 0xfffffff, true⟩,
    ⟨"SW.GDSTAT", 0x40020B40, [(0x4, 16)], [⟨0, 1, .ro, 0⟩, ⟨1, 3, .ro, 0⟩, ⟨8, 8, .rc, 0⟩, ⟨16, 8, .rc, 0⟩], 0x0, false⟩,
    ⟨"SW.TBLSEL", 0x40020C00, [], [⟨0, 3, .rw, 0⟩, ⟨3, 1, .ro, 0⟩, ⟨4, 1, .w1c, 0⟩, ⟨16, 13, .rw, 0⟩, ⟨30, 1, .wo, 0⟩, ⟨31, 1, .wo, 0⟩], 0x0, false⟩ ] ++
  [
    ⟨"SW.TBLDATA", 0x40020C10, [(0x4, 4)], [⟨0, 32, .rw, 0⟩], 0x0, false⟩,
    ⟨"SW.CTXOP", 0x40020D00, [], [⟨0, 8, .wo, 0⟩, ⟨8, 2, .wo, 0⟩], 0x0, false⟩,
    ⟨"SW.ABSCNT", 0x40020D04, [], [⟨0, 16, .rc, 0⟩], 0x0, false⟩,
    ⟨"SW.HCFG", 0x40020D08, [], [⟨0, 8, .rw, 10⟩], 0xff, true⟩,
    ⟨"SW.RPL", 0x40020E00, [(0x4, 256)], [⟨0, 32, .ro, 0⟩], 0x0, false⟩,
    ⟨"SW.STH_CYCLE", 0x40021200, [(0x20, 22), (0x10, 2)], [⟨0, 30, .rw, 0xf4240⟩], 0x0, false⟩,
    ⟨"SW.STH_BASENS", 0x40021204, [(0x20, 22), (0x10, 2)], [⟨0, 30, .rw, 0⟩], 0x0, false⟩,
    ⟨"SW.STH_BASESEC", 0x40021208, [(0x20, 22), (0x10, 2)], [⟨0, 32, .rw, 0⟩], 0x0, false⟩,
    ⟨"SW.STH_LEN", 0x4002120C, [(0x20, 22), (0x10, 2)], [⟨0, 9, .rw, 1⟩], 0x0, false⟩,
    ⟨"SW.STE", 0x40024000, [(0x800, 22), (0x400, 2), (0x4, 256)], [⟨0, 8, .rw, 255⟩, ⟨8, 24, .rw, 0xffffff⟩], 0x0, false⟩,
    ⟨"SW.RCFG", 0x40022000, [(0x400, 4), (0x20, 16)], [⟨0, 1, .rw, 0⟩, ⟨1, 1, .rw, 0⟩, ⟨2, 4, .rw, 4⟩, ⟨6, 4, .rw, 11⟩, ⟨16, 8, .rw, 0⟩, ⟨24, 1, .rw, 0⟩], 0x1ff03ff, true⟩,
    ⟨"SW.RBASE", 0x40022004, [(0x400, 4), (0x20, 16)], [⟨5, 27, .rw, 0⟩], 0xffffffe0, true⟩ ] ++
  [
    ⟨"SW.RBUF", 0x40022008, [(0x400, 4), (0x20, 16)], [⟨8, 24, .rw, 0⟩], 0xffffff00, true⟩,
    ⟨"SW.RPI", 0x4002200C, [(0x400, 4), (0x20, 16)], [⟨0, 10, .rw, 0⟩], 0x0, false⟩,
    ⟨"SW.RCI", 0x40022010, [(0x400, 4), (0x20, 16)], [⟨0, 10, .rw, 0⟩], 0x0, false⟩,
    ⟨"SW.RFI", 0x40022014, [(0x400, 4), (0x20, 16)], [⟨0, 10, .ro, 0⟩], 0x0, false⟩,
    ⟨"SW.CLSRING", 0x40022200, [(0x400, 4)], [⟨0, 4, .rw, 0⟩, ⟨4, 4, .rw, 0⟩, ⟨8, 4, .rw, 0⟩, ⟨12, 4, .rw, 0⟩, ⟨16, 4, .rw, 0⟩, ⟨20, 4, .rw, 0⟩, ⟨24, 4, .rw, 0⟩, ⟨28, 4, .rw, 0⟩], 0xffffffff, true⟩,
    ⟨"SW.HRCFG", 0x40023000, [(0x20, 16)], [⟨0, 1, .rw, 0⟩, ⟨1, 1, .rw, 0⟩, ⟨2, 4, .rw, 4⟩, ⟨6, 4, .rw, 11⟩, ⟨10, 1, .rw, 0⟩, ⟨11, 5, .rw, 0⟩], 0xffff, true⟩,
    ⟨"SW.HRBASE", 0x40023004, [(0x20, 16)], [⟨5, 27, .rw, 0⟩], 0xffffffe0, true⟩,
    ⟨"SW.HRBUF", 0x40023008, [(0x20, 16)], [⟨8, 24, .rw, 0⟩], 0xffffff00, true⟩,
    ⟨"SW.HIDX", 0x4002300C, [(0x20, 16)], [⟨0, 10, .ro, 0⟩], 0x0, false⟩,
    ⟨"SW.KRCFG", 0x40023200, [(0x20, 4)], [⟨0, 1, .rw, 0⟩, ⟨1, 1, .rw, 0⟩, ⟨2, 4, .rw, 4⟩, ⟨6, 4, .rw, 11⟩], 0x3ff, true⟩,
    ⟨"SW.KRBASE", 0x40023204, [(0x20, 4)], [⟨5, 27, .rw, 0⟩], 0xffffffe0, true⟩,
    ⟨"SW.KRBUF", 0x40023208, [(0x20, 4)], [⟨8, 24, .rw, 0⟩], 0xffffff00, true⟩ ] ++
  [
    ⟨"SW.KIDX", 0x4002320C, [(0x20, 4)], [⟨0, 10, .ro, 0⟩], 0x0, false⟩ ]

end SW

namespace TMU

def CTL : Nat := 0x40030000
def CTL_SETSTATE : FldAt := ⟨CTL, 0, 3⟩
def CTL_STEP : FldAt := ⟨CTL, 3, 1⟩
def CTL_CORR : FldAt := ⟨CTL, 4, 1⟩
def STAT : Nat := 0x40030004
def STAT_STATE : FldAt := ⟨STAT, 0, 3⟩
def STAT_INBOUND : FldAt := ⟨STAT, 3, 1⟩
def STAT_SLEWING : FldAt := ⟨STAT, 4, 1⟩
def STAT_HOLDEXIT : FldAt := ⟨STAT, 5, 1⟩
def STAT_STEPREJ : FldAt := ⟨STAT, 8, 1⟩
def STAT_UPDTO : FldAt := ⟨STAT, 9, 1⟩
def STAT_STEPS : FldAt := ⟨STAT, 16, 16⟩
def TNS : Nat := 0x40030010
def TNS_NS : FldAt := ⟨TNS, 0, 32⟩
def TSECL : Nat := 0x40030014
def TSECL_SEC : FldAt := ⟨TSECL, 0, 32⟩
def TSECH : Nat := 0x40030018
def TSECH_SEC : FldAt := ⟨TSECH, 0, 16⟩
def TFRAC : Nat := 0x4003001C
def TFRAC_FRAC : FldAt := ⟨TFRAC, 0, 16⟩
def SETNS : Nat := 0x40030020
def SETNS_NS : FldAt := ⟨SETNS, 0, 32⟩
def SETSECL : Nat := 0x40030024
def SETSECL_SEC : FldAt := ⟨SETSECL, 0, 32⟩
def SETSECH : Nat := 0x40030028
def SETSECH_SEC : FldAt := ⟨SETSECH, 0, 16⟩
def FREQ : Nat := 0x40030030
def FREQ_FREQ : FldAt := ⟨FREQ, 0, 32⟩
def PHASE : Nat := 0x40030034
def PHASE_PHASE : FldAt := ⟨PHASE, 0, 32⟩
def SRVCFG : Nat := 0x40030038
def SRVCFG_SLEW_MAX : FldAt := ⟨SRVCFG, 0, 9⟩
def SRVCFG_UPD_TO : FldAt := ⟨SRVCFG, 16, 16⟩
def SYNCBND : Nat := 0x4003003C
def SYNCBND_BOUND : FldAt := ⟨SYNCBND, 0, 16⟩
def SRVOWN : Nat := 0x40030040
def SRVOWN_KEY : FldAt := ⟨SRVOWN, 0, 8⟩
def SRVOWN_V : FldAt := ⟨SRVOWN, 31, 1⟩
def LTCFG : Nat := 0x40030050
def LTCFG_HORIZON : FldAt := ⟨LTCFG, 0, 16⟩
def LTPOL (p : Nat) : Nat := 0x40030100 + p * 0x4
def LTPOL_DROP (p : Nat) : FldAt := ⟨(LTPOL p), 0, 8⟩
def LTPOL_INVALID (p : Nat) : FldAt := ⟨(LTPOL p), 24, 8⟩
def LTCNT (p : Nat) : Nat := 0x40030180 + p * 0x4
def LTCNT_LATESENT (p : Nat) : FldAt := ⟨(LTCNT p), 0, 16⟩
def LTCNT_LATEDROP (p : Nat) : FldAt := ⟨(LTCNT p), 16, 16⟩
def PTPCFG (p : Nat) : Nat := 0x40030200 + p * 0x4
def PTPCFG_TCMODE (p : Nat) : FldAt := ⟨(PTPCFG p), 0, 2⟩
def PTPCFG_ONESTEP (p : Nat) : FldAt := ⟨(PTPCFG p), 2, 1⟩
def PLD (p : Nat) : Nat := 0x40030240 + p * 0x4
def PLD_PLD (p : Nat) : FldAt := ⟨(PLD p), 0, 32⟩
def PTPCNT : Nat := 0x40030280
def PTPCNT_NOFIELD : FldAt := ⟨PTPCNT, 0, 16⟩
def PTPCNT_RESRANGE : FldAt := ⟨PTPCNT, 16, 16⟩
def TIOCFG (i : Nat) : Nat := 0x40030300 + i * 0x20
def TIOCFG_MODE (i : Nat) : FldAt := ⟨(TIOCFG i), 0, 3⟩
def TIOCFG_EDGE (i : Nat) : FldAt := ⟨(TIOCFG i), 3, 2⟩
def TIOCFG_POL (i : Nat) : FldAt := ⟨(TIOCFG i), 5, 1⟩
def TIOCFG_WAKE (i : Nat) : FldAt := ⟨(TIOCFG i), 6, 2⟩
def TIOCFG_LATE (i : Nat) : FldAt := ⟨(TIOCFG i), 8, 1⟩
def TIOCFG_LEFT (i : Nat) : FldAt := ⟨(TIOCFG i), 9, 2⟩
def TIOCFG_FULL (i : Nat) : FldAt := ⟨(TIOCFG i), 11, 1⟩
def TIOCFG_OVF (i : Nat) : FldAt := ⟨(TIOCFG i), 16, 8⟩
def STARTNS (i : Nat) : Nat := 0x40030304 + i * 0x20
def STARTNS_NS (i : Nat) : FldAt := ⟨(STARTNS i), 0, 32⟩
def STARTSEC (i : Nat) : Nat := 0x40030308 + i * 0x20
def STARTSEC_SEC (i : Nat) : FldAt := ⟨(STARTSEC i), 0, 32⟩
def PERIOD (i : Nat) : Nat := 0x4003030C + i * 0x20
def PERIOD_NS (i : Nat) : FldAt := ⟨(PERIOD i), 0, 30⟩
def WIDTH (i : Nat) : Nat := 0x40030310 + i * 0x20
def WIDTH_NS (i : Nat) : FldAt := ⟨(WIDTH i), 0, 30⟩
def CAPNS (i : Nat) : Nat := 0x40030314 + i * 0x20
def CAPNS_NS (i : Nat) : FldAt := ⟨(CAPNS i), 0, 32⟩
def CAPSEC (i : Nat) : Nat := 0x40030318 + i * 0x20
def CAPSEC_SEC (i : Nat) : FldAt := ⟨(CAPSEC i), 0, 32⟩
def PPSOUT : Nat := 0x400303A0
def PPSOUT_EN : FldAt := ⟨PPSOUT, 0, 1⟩
def PPSOUT_SYNCONLY : FldAt := ⟨PPSOUT, 1, 1⟩
def PPSOUT_POL : FldAt := ⟨PPSOUT, 2, 1⟩
def PPSOUT_WIDTH : FldAt := ⟨PPSOUT, 16, 16⟩
def MBCNT (k : Nat) : Nat := 0x40030400 + k * 0x4
def MBCNT_CNT (k : Nat) : FldAt := ⟨(MBCNT k), 0, 32⟩
def MBCCFG : Nat := 0x40030420
def MBCCFG_PER : FldAt := ⟨MBCCFG, 0, 2⟩
def CORRNS : Nat := 0x40030424
def CORRNS_NS : FldAt := ⟨CORRNS, 0, 32⟩
def CORRSEC : Nat := 0x40030428
def CORRSEC_SEC : FldAt := ⟨CORRSEC, 0, 32⟩
def CORRFRAC : Nat := 0x4003042C
def CORRFRAC_FRAC : FldAt := ⟨CORRFRAC, 0, 16⟩

def table : List RegDesc :=
  [
    ⟨"TMU.CTL", 0x40030000, [], [⟨0, 3, .wo, 0⟩, ⟨3, 1, .wo, 0⟩, ⟨4, 1, .wo, 0⟩], 0x0, false⟩,
    ⟨"TMU.STAT", 0x40030004, [], [⟨0, 3, .ro, 0⟩, ⟨3, 1, .ro, 0⟩, ⟨4, 1, .ro, 0⟩, ⟨5, 1, .w1c, 0⟩, ⟨8, 1, .w1c, 0⟩, ⟨9, 1, .w1c, 0⟩, ⟨16, 16, .ro, 0⟩], 0x0, false⟩,
    ⟨"TMU.TNS", 0x40030010, [], [⟨0, 32, .ro, 0⟩], 0x0, false⟩,
    ⟨"TMU.TSECL", 0x40030014, [], [⟨0, 32, .ro, 0⟩], 0x0, false⟩,
    ⟨"TMU.TSECH", 0x40030018, [], [⟨0, 16, .ro, 0⟩], 0x0, false⟩,
    ⟨"TMU.TFRAC", 0x4003001C, [], [⟨0, 16, .ro, 0⟩], 0x0, false⟩,
    ⟨"TMU.SETNS", 0x40030020, [], [⟨0, 32, .rw, 0⟩], 0x0, false⟩,
    ⟨"TMU.SETSECL", 0x40030024, [], [⟨0, 32, .rw, 0⟩], 0x0, false⟩,
    ⟨"TMU.SETSECH", 0x40030028, [], [⟨0, 16, .rw, 0⟩], 0x0, false⟩,
    ⟨"TMU.FREQ", 0x40030030, [], [⟨0, 32, .rw, 0⟩], 0x0, false⟩,
    ⟨"TMU.PHASE", 0x40030034, [], [⟨0, 32, .rw, 0⟩], 0x0, false⟩,
    ⟨"TMU.SRVCFG", 0x40030038, [], [⟨0, 9, .rw, 64⟩, ⟨16, 16, .rw, 2000⟩], 0xffff01ff, false⟩ ] ++
  [
    ⟨"TMU.SYNCBND", 0x4003003C, [], [⟨0, 16, .rw, 100⟩], 0xffff, false⟩,
    ⟨"TMU.SRVOWN", 0x40030040, [], [⟨0, 8, .rw, 0⟩, ⟨31, 1, .rw, 0⟩], 0x0, false⟩,
    ⟨"TMU.LTCFG", 0x40030050, [], [⟨0, 16, .rw, 1000⟩], 0xffff, false⟩,
    ⟨"TMU.LTPOL", 0x40030100, [(0x4, 22)], [⟨0, 8, .rw, 0⟩, ⟨24, 8, .rc, 0⟩], 0xff, true⟩,
    ⟨"TMU.LTCNT", 0x40030180, [(0x4, 22)], [⟨0, 16, .rc, 0⟩, ⟨16, 16, .rc, 0⟩], 0x0, false⟩,
    ⟨"TMU.PTPCFG", 0x40030200, [(0x4, 16)], [⟨0, 2, .rw, 0⟩, ⟨2, 1, .rw, 0⟩], 0x7, true⟩,
    ⟨"TMU.PLD", 0x40030240, [(0x4, 16)], [⟨0, 32, .rw, 0⟩], 0x0, false⟩,
    ⟨"TMU.PTPCNT", 0x40030280, [], [⟨0, 16, .rc, 0⟩, ⟨16, 16, .rc, 0⟩], 0x0, false⟩,
    ⟨"TMU.TIOCFG", 0x40030300, [(0x20, 5)], [⟨0, 3, .rw, 0⟩, ⟨3, 2, .rw, 0⟩, ⟨5, 1, .rw, 0⟩, ⟨6, 2, .rw, 0⟩, ⟨8, 1, .w1c, 0⟩, ⟨9, 2, .ro, 0⟩, ⟨11, 1, .ro, 0⟩, ⟨16, 8, .rc, 0⟩], 0xff, false⟩,
    ⟨"TMU.STARTNS", 0x40030304, [(0x20, 5)], [⟨0, 32, .rw, 0⟩], 0xffffffff, false⟩,
    ⟨"TMU.STARTSEC", 0x40030308, [(0x20, 5)], [⟨0, 32, .rw, 0⟩], 0xffffffff, false⟩,
    ⟨"TMU.PERIOD", 0x4003030C, [(0x20, 5)], [⟨0, 30, .rw, 0⟩], 0x3fffffff, false⟩ ] ++
  [
    ⟨"TMU.WIDTH", 0x40030310, [(0x20, 5)], [⟨0, 30, .rw, 0⟩], 0x3fffffff, false⟩,
    ⟨"TMU.CAPNS", 0x40030314, [(0x20, 5)], [⟨0, 32, .ro, 0⟩], 0x0, false⟩,
    ⟨"TMU.CAPSEC", 0x40030318, [(0x20, 5)], [⟨0, 32, .ro, 0⟩], 0x0, false⟩,
    ⟨"TMU.PPSOUT", 0x400303A0, [], [⟨0, 1, .rw, 0⟩, ⟨1, 1, .rw, 1⟩, ⟨2, 1, .rw, 0⟩, ⟨16, 16, .rw, 0x2710⟩], 0xffff0007, false⟩,
    ⟨"TMU.MBCNT", 0x40030400, [(0x4, 8)], [⟨0, 32, .ro, 0⟩], 0x0, false⟩,
    ⟨"TMU.MBCCFG", 0x40030420, [], [⟨0, 2, .rw, 0⟩], 0x0, false⟩,
    ⟨"TMU.CORRNS", 0x40030424, [], [⟨0, 32, .ro, 0⟩], 0x0, false⟩,
    ⟨"TMU.CORRSEC", 0x40030428, [], [⟨0, 32, .ro, 0⟩], 0x0, false⟩,
    ⟨"TMU.CORRFRAC", 0x4003042C, [], [⟨0, 16, .ro, 0⟩], 0x0, false⟩ ]

end TMU

namespace PORT

def CTL (n : Nat) : Nat := 0x40100000 + n * 0x10000
def CTL_EN (n : Nat) : FldAt := ⟨(CTL n), 0, 1⟩
def CTL_MODE (n : Nat) : FldAt := ⟨(CTL n), 1, 3⟩
def CTL_FLF_EN (n : Nat) : FldAt := ⟨(CTL n), 4, 1⟩
def CTL_ADV (n : Nat) : FldAt := ⟨(CTL n), 5, 5⟩
def CTL_MSPREF (n : Nat) : FldAt := ⟨(CTL n), 10, 1⟩
def CTL_MAXFRM (n : Nat) : FldAt := ⟨(CTL n), 16, 14⟩
def STAT (n : Nat) : Nat := 0x40100004 + n * 0x10000
def STAT_STATE (n : Nat) : FldAt := ⟨(STAT n), 0, 3⟩
def STAT_LINK (n : Nat) : FldAt := ⟨(STAT n), 3, 1⟩
def STAT_SPEED (n : Nat) : FldAt := ⟨(STAT n), 4, 3⟩
def STAT_FDX (n : Nat) : FldAt := ⟨(STAT n), 7, 1⟩
def STAT_MASTER (n : Nat) : FldAt := ⟨(STAT n), 8, 1⟩
def STAT_PLCA_UP (n : Nat) : FldAt := ⟨(STAT n), 9, 1⟩
def STAT_LINKCHG (n : Nat) : FldAt := ⟨(STAT n), 10, 1⟩
def STAT_FLFHIT (n : Nat) : FldAt := ⟨(STAT n), 11, 1⟩
def STAT_LINKDOWNS (n : Nat) : FldAt := ⟨(STAT n), 16, 16⟩
def LINKCFG (n : Nat) : Nat := 0x40100008 + n * 0x10000
def LINKCFG_FLF_TIME (n : Nat) : FldAt := ⟨(LINKCFG n), 0, 3⟩
def LINKCFG_HOLD (n : Nat) : FldAt := ⟨(LINKCFG n), 8, 8⟩
def HDX (n : Nat) : Nat := 0x4010000C + n * 0x10000
def HDX_SEED (n : Nat) : FldAt := ⟨(HDX n), 0, 16⟩
def PLCA (n : Nat) : Nat := 0x40100010 + n * 0x10000
def PLCA_NODE_ID (n : Nat) : FldAt := ⟨(PLCA n), 0, 8⟩
def PLCA_NODE_CNT (n : Nat) : FldAt := ⟨(PLCA n), 8, 8⟩
def PLCA_TO_TIMER (n : Nat) : FldAt := ⟨(PLCA n), 16, 8⟩
def PLCA_BURST_CNT (n : Nat) : FldAt := ⟨(PLCA n), 24, 8⟩
def PLCA2 (n : Nat) : Nat := 0x40100014 + n * 0x10000
def PLCA2_BURST_TMR (n : Nat) : FldAt := ⟨(PLCA2 n), 0, 8⟩
def TSADJ (n : Nat) : Nat := 0x40100020 + n * 0x10000
def TSADJ_TXADJ (n : Nat) : FldAt := ⟨(TSADJ n), 0, 8⟩
def TSADJ_RXADJ (n : Nat) : FldAt := ⟨(TSADJ n), 8, 8⟩
def TSQ0 (n : Nat) : Nat := 0x40100030 + n * 0x10000
def TSQ0_TAG (n : Nat) : FldAt := ⟨(TSQ0 n), 0, 16⟩
def TSQ0_VALID (n : Nat) : FldAt := ⟨(TSQ0 n), 16, 1⟩
def TSQ0_LEFT (n : Nat) : FldAt := ⟨(TSQ0 n), 24, 8⟩
def TSQ1 (n : Nat) : Nat := 0x40100034 + n * 0x10000
def TSQ1_NS (n : Nat) : FldAt := ⟨(TSQ1 n), 0, 32⟩
def TSQ2 (n : Nat) : Nat := 0x40100038 + n * 0x10000
def TSQ2_SEC (n : Nat) : FldAt := ⟨(TSQ2 n), 0, 32⟩
def ERRCNT0 (n : Nat) : Nat := 0x40100040 + n * 0x10000
def ERRCNT0_FCS (n : Nat) : FldAt := ⟨(ERRCNT0 n), 0, 8⟩
def ERRCNT0_RUNT (n : Nat) : FldAt := ⟨(ERRCNT0 n), 8, 8⟩
def ERRCNT0_OVERSIZE (n : Nat) : FldAt := ⟨(ERRCNT0 n), 16, 8⟩
def ERRCNT0_SYMBOL (n : Nat) : FldAt := ⟨(ERRCNT0 n), 24, 8⟩
def ERRCNT1 (n : Nat) : Nat := 0x40100044 + n * 0x10000
def ERRCNT1_LATECOL (n : Nat) : FldAt := ⟨(ERRCNT1 n), 0, 8⟩
def ERRCNT1_EXCOL (n : Nat) : FldAt := ⟨(ERRCNT1 n), 8, 8⟩
def ERRCNT1_SEGERR (n : Nat) : FldAt := ⟨(ERRCNT1 n), 16, 8⟩
def ERRCNT1_TSLOST (n : Nat) : FldAt := ⟨(ERRCNT1 n), 24, 8⟩

def table : List RegDesc :=
  [
    ⟨"PORT.CTL", 0x40100000, [(0x10000, 16)], [⟨0, 1, .rw, 0⟩, ⟨1, 3, .rw, 0⟩, ⟨4, 1, .rw, 0⟩, ⟨5, 5, .rw, 31⟩, ⟨10, 1, .rw, 0⟩, ⟨16, 14, .rw, 1522⟩], 0x3fff07ff, true⟩,
    ⟨"PORT.STAT", 0x40100004, [(0x10000, 16)], [⟨0, 3, .ro, 0⟩, ⟨3, 1, .ro, 0⟩, ⟨4, 3, .ro, 0⟩, ⟨7, 1, .ro, 0⟩, ⟨8, 1, .ro, 0⟩, ⟨9, 1, .ro, 0⟩, ⟨10, 1, .w1c, 0⟩, ⟨11, 1, .w1c, 0⟩, ⟨16, 16, .ro, 0⟩], 0x0, false⟩,
    ⟨"PORT.LINKCFG", 0x40100008, [(0x10000, 16)], [⟨0, 3, .rw, 4⟩, ⟨8, 8, .rw, 10⟩], 0xff07, true⟩,
    ⟨"PORT.HDX", 0x4010000C, [(0x10000, 16)], [⟨0, 16, .rw, 0x5a00⟩], 0x0, false⟩,
    ⟨"PORT.PLCA", 0x40100010, [(0x10000, 16)], [⟨0, 8, .rw, 255⟩, ⟨8, 8, .rw, 8⟩, ⟨16, 8, .rw, 32⟩, ⟨24, 8, .rw, 0⟩], 0xffffffff, true⟩,
    ⟨"PORT.PLCA2", 0x40100014, [(0x10000, 16)], [⟨0, 8, .rw, 128⟩], 0xff, true⟩,
    ⟨"PORT.TSADJ", 0x40100020, [(0x10000, 16)], [⟨0, 8, .rw, 0⟩, ⟨8, 8, .rw, 0⟩], 0xffff, true⟩,
    ⟨"PORT.TSQ0", 0x40100030, [(0x10000, 16)], [⟨0, 16, .ro, 0⟩, ⟨16, 1, .ro, 0⟩, ⟨24, 8, .ro, 0⟩], 0x0, false⟩,
    ⟨"PORT.TSQ1", 0x40100034, [(0x10000, 16)], [⟨0, 32, .ro, 0⟩], 0x0, false⟩,
    ⟨"PORT.TSQ2", 0x40100038, [(0x10000, 16)], [⟨0, 32, .ro, 0⟩], 0x0, false⟩,
    ⟨"PORT.ERRCNT0", 0x40100040, [(0x10000, 16)], [⟨0, 8, .rc, 0⟩, ⟨8, 8, .rc, 0⟩, ⟨16, 8, .rc, 0⟩, ⟨24, 8, .rc, 0⟩], 0x0, false⟩,
    ⟨"PORT.ERRCNT1", 0x40100044, [(0x10000, 16)], [⟨0, 8, .rc, 0⟩, ⟨8, 8, .rc, 0⟩, ⟨16, 8, .rc, 0⟩, ⟨24, 8, .rc, 0⟩], 0x0, false⟩ ]

end PORT

namespace RUL

def GLOB : Nat := 0x40040000
def GLOB_ETYPE : FldAt := ⟨GLOB, 0, 16⟩
def SAL : Nat := 0x40040004
def SAL_A : FldAt := ⟨SAL, 0, 32⟩
def SAH : Nat := 0x40040008
def SAH_A : FldAt := ⟨SAH, 0, 16⟩
def CTL (n : Nat) : Nat := 0x40040100 + n * 0x100
def CTL_RUN (n : Nat) : FldAt := ⟨(CTL n), 0, 1⟩
def CTL_ROLE (n : Nat) : FldAt := ⟨(CTL n), 1, 1⟩
def CTL_TOPO (n : Nat) : FldAt := ⟨(CTL n), 2, 2⟩
def CTL_CHEN (n : Nat) : FldAt := ⟨(CTL n), 4, 2⟩
def CTL_NFRAME (n : Nat) : FldAt := ⟨(CTL n), 6, 2⟩
def CTL_CSTART (n : Nat) : FldAt := ⟨(CTL n), 8, 1⟩
def CTL_REPAIR (n : Nat) : FldAt := ⟨(CTL n), 9, 1⟩
def CTL_FSIL (n : Nat) : FldAt := ⟨(CTL n), 10, 1⟩
def STAT (n : Nat) : Nat := 0x40040104 + n * 0x100
def STAT_STATE (n : Nat) : FldAt := ⟨(STAT n), 0, 3⟩
def STAT_LOOPA (n : Nat) : FldAt := ⟨(STAT n), 3, 1⟩
def STAT_LOOPB (n : Nat) : FldAt := ⟨(STAT n), 4, 1⟩
def STAT_SILENT (n : Nat) : FldAt := ⟨(STAT n), 5, 1⟩
def STAT_CFGERR (n : Nat) : FldAt := ⟨(STAT n), 6, 1⟩
def STAT_FVALA (n : Nat) : FldAt := ⟨(STAT n), 8, 4⟩
def STAT_FVALB (n : Nat) : FldAt := ⟨(STAT n), 12, 4⟩
def STAT_MASTER (n : Nat) : FldAt := ⟨(STAT n), 16, 10⟩
def CYCLE (n : Nat) : Nat := 0x40040108 + n * 0x100
def CYCLE_CYCLE (n : Nat) : FldAt := ⟨(CYCLE n), 0, 27⟩
def BASENS (n : Nat) : Nat := 0x4004010C + n * 0x100
def BASENS_BASENS (n : Nat) : FldAt := ⟨(BASENS n), 0, 30⟩
def BASESEC (n : Nat) : Nat := 0x40040110 + n * 0x100
def BASESEC_BASESEC (n : Nat) : FldAt := ⟨(BASESEC n), 0, 32⟩
def NODE (n : Nat) : Nat := 0x40040114 + n * 0x100
def NODE_NODEID (n : Nat) : FldAt := ⟨(NODE n), 0, 9⟩
def NODE_NODES (n : Nat) : FldAt := ⟨(NODE n), 16, 10⟩
def PORTS (n : Nat) : Nat := 0x40040118 + n * 0x100
def PORTS_AOUT (n : Nat) : FldAt := ⟨(PORTS n), 0, 4⟩
def PORTS_ARET (n : Nat) : FldAt := ⟨(PORTS n), 4, 4⟩
def PORTS_BOUT (n : Nat) : FldAt := ⟨(PORTS n), 8, 4⟩
def PORTS_BRET (n : Nat) : FldAt := ⟨(PORTS n), 12, 4⟩
def BRMASK (n : Nat) : Nat := 0x4004011C + n * 0x100
def BRMASK_BRA (n : Nat) : FldAt := ⟨(BRMASK n), 0, 16⟩
def BRMASK_BRB (n : Nat) : FldAt := ⟨(BRMASK n), 16, 16⟩
def CS (n : Nat) : Nat := 0x40040120 + n * 0x100
def CS_LBASE (n : Nat) : FldAt := ⟨(CS n), 0, 16⟩
def CS_SLOTLEN (n : Nat) : FldAt := ⟨(CS n), 16, 16⟩
def CS2 (n : Nat) : Nat := 0x40040124 + n * 0x100
def CS2_CSLOSS (n : Nat) : FldAt := ⟨(CS2 n), 0, 4⟩
def CS2_INTEG (n : Nat) : FldAt := ⟨(CS2 n), 4, 4⟩
def CS2_LBCLR (n : Nat) : FldAt := ⟨(CS2 n), 8, 4⟩
def DAL (n : Nat) : Nat := 0x40040128 + n * 0x100
def DAL_DAL (n : Nat) : FldAt := ⟨(DAL n), 0, 32⟩
def DAH (n : Nat) : Nat := 0x4004012C + n * 0x100
def DAH_DAH (n : Nat) : FldAt := ⟨(DAH n), 0, 16⟩
def CYCNT (n : Nat) : Nat := 0x40040130 + n * 0x100
def CYCNT_N (n : Nat) : FldAt := ⟨(CYCNT n), 0, 32⟩
def CNTA (n : Nat) : Nat := 0x40040134 + n * 0x100
def CNTA_LOST (n : Nat) : FldAt := ⟨(CNTA n), 0, 8⟩
def CNTA_BADFCS (n : Nat) : FldAt := ⟨(CNTA n), 8, 8⟩
def CNTA_REPAIRS (n : Nat) : FldAt := ⟨(CNTA n), 16, 8⟩
def CNTA_MISSING (n : Nat) : FldAt := ⟨(CNTA n), 24, 8⟩
def CNTB (n : Nat) : Nat := 0x40040138 + n * 0x100
def CNTB_POSERR (n : Nat) : FldAt := ⟨(CNTB n), 0, 8⟩
def CNTB_CYCMISM (n : Nat) : FldAt := ⟨(CNTB n), 8, 8⟩
def CNTB_DUPID (n : Nat) : FldAt := ⟨(CNTB n), 16, 8⟩
def CNTB_IMGLATE (n : Nat) : FldAt := ⟨(CNTB n), 24, 8⟩
def LOFF (n k : Nat) : Nat := 0x40040140 + n * 0x100 + k * 0x10
def LOFF_LOFF (n k : Nat) : FldAt := ⟨(LOFF n k), 0, 27⟩
def LEN (n k : Nat) : Nat := 0x40040144 + n * 0x100 + k * 0x10
def LEN_LEN (n k : Nat) : FldAt := ⟨(LEN n k), 0, 11⟩
def RPT (n k : Nat) : Nat := 0x40040148 + n * 0x100 + k * 0x10
def RPT_RPT (n k : Nat) : FldAt := ⟨(RPT n k), 0, 27⟩
def RDL (n k : Nat) : Nat := 0x4004014C + n * 0x100 + k * 0x10
def RDL_RDL (n k : Nat) : FldAt := ⟨(RDL n k), 0, 27⟩
def MARK (n m : Nat) : Nat := 0x40040180 + n * 0x100 + m * 0x4
def MARK_OFFSET (n m : Nat) : FldAt := ⟨(MARK n m), 0, 27⟩
def MARK_EN (n m : Nat) : FldAt := ⟨(MARK n m), 31, 1⟩
def WINA (n w : Nat) : Nat := 0x40041000 + n * 0x1000 + w * 0x10
def WINA_EN (n w : Nat) : FldAt := ⟨(WINA n w), 0, 1⟩
def WINA_CH (n w : Nat) : FldAt := ⟨(WINA n w), 1, 1⟩
def WINA_FRAME (n w : Nat) : FldAt := ⟨(WINA n w), 2, 2⟩
def WINA_DIR (n w : Nat) : FldAt := ⟨(WINA n w), 4, 1⟩
def WINA_OFFSET (n w : Nat) : FldAt := ⟨(WINA n w), 5, 11⟩
def WINA_LEN (n w : Nat) : FldAt := ⟨(WINA n w), 16, 11⟩
def WINB (n w : Nat) : Nat := 0x40041004 + n * 0x1000 + w * 0x10
def WINB_IMG (n w : Nat) : FldAt := ⟨(WINB n w), 0, 8⟩
def WINB_IMGOFF (n w : Nat) : FldAt := ⟨(WINB n w), 8, 16⟩
def WINC (n w : Nat) : Nat := 0x40041008 + n * 0x1000 + w * 0x10
def WINC_POS (n w : Nat) : FldAt := ⟨(WINC n w), 0, 10⟩
def WINC_OWNKEY (n w : Nat) : FldAt := ⟨(WINC n w), 16, 8⟩
def WINC_OV (n w : Nat) : FldAt := ⟨(WINC n w), 24, 1⟩

def table : List RegDesc :=
  [
    ⟨"RUL.GLOB", 0x40040000, [], [⟨0, 16, .rw, 0x88b5⟩], 0xffff, true⟩,
    ⟨"RUL.SAL", 0x40040004, [], [⟨0, 32, .rw, 0⟩], 0xffffffff, true⟩,
    ⟨"RUL.SAH", 0x40040008, [], [⟨0, 16, .rw, 0⟩], 0xffff, true⟩,
    ⟨"RUL.CTL", 0x40040100, [(0x100, 4)], [⟨0, 1, .rw, 0⟩, ⟨1, 1, .rw, 0⟩, ⟨2, 2, .rw, 0⟩, ⟨4, 2, .rw, 0⟩, ⟨6, 2, .rw, 0⟩, ⟨8, 1, .rw, 0⟩, ⟨9, 1, .rw, 0⟩, ⟨10, 1, .rw, 1⟩], 0x7fe, true⟩,
    ⟨"RUL.STAT", 0x40040104, [(0x100, 4)], [⟨0, 3, .ro, 0⟩, ⟨3, 1, .ro, 0⟩, ⟨4, 1, .ro, 0⟩, ⟨5, 1, .ro, 0⟩, ⟨6, 1, .w1c, 0⟩, ⟨8, 4, .ro, 0⟩, ⟨12, 4, .ro, 0⟩, ⟨16, 10, .ro, 0⟩], 0x0, false⟩,
    ⟨"RUL.CYCLE", 0x40040108, [(0x100, 4)], [⟨0, 27, .rw, 0xf4240⟩], 0x7ffffff, true⟩,
    ⟨"RUL.BASENS", 0x4004010C, [(0x100, 4)], [⟨0, 30, .rw, 0⟩], 0x3fffffff, true⟩,
    ⟨"RUL.BASESEC", 0x40040110, [(0x100, 4)], [⟨0, 32, .rw, 0⟩], 0xffffffff, true⟩,
    ⟨"RUL.NODE", 0x40040114, [(0x100, 4)], [⟨0, 9, .rw, 0⟩, ⟨16, 10, .rw, 1⟩], 0x3ff01ff, true⟩,
    ⟨"RUL.PORTS", 0x40040118, [(0x100, 4)], [⟨0, 4, .rw, 0⟩, ⟨4, 4, .rw, 1⟩, ⟨8, 4, .rw, 2⟩, ⟨12, 4, .rw, 3⟩], 0xffff, true⟩,
    ⟨"RUL.BRMASK", 0x4004011C, [(0x100, 4)], [⟨0, 16, .rw, 0⟩, ⟨16, 16, .rw, 0⟩], 0xffffffff, true⟩,
    ⟨"RUL.CS", 0x40040120, [(0x100, 4)], [⟨0, 16, .rw, 1000⟩, ⟨16, 16, .rw, 100⟩], 0xffffffff, true⟩ ] ++
  [
    ⟨"RUL.CS2", 0x40040124, [(0x100, 4)], [⟨0, 4, .rw, 4⟩, ⟨4, 4, .rw, 2⟩, ⟨8, 4, .rw, 8⟩], 0xfff, true⟩,
    ⟨"RUL.DAL", 0x40040128, [(0x100, 4)], [⟨0, 32, .rw, 0x5a510000⟩], 0xffffffff, true⟩,
    ⟨"RUL.DAH", 0x4004012C, [(0x100, 4)], [⟨0, 16, .rw, 768⟩], 0xffff, true⟩,
    ⟨"RUL.CYCNT", 0x40040130, [(0x100, 4)], [⟨0, 32, .ro, 0⟩], 0x0, false⟩,
    ⟨"RUL.CNTA", 0x40040134, [(0x100, 4)], [⟨0, 8, .rc, 0⟩, ⟨8, 8, .rc, 0⟩, ⟨16, 8, .rc, 0⟩, ⟨24, 8, .rc, 0⟩], 0x0, false⟩,
    ⟨"RUL.CNTB", 0x40040138, [(0x100, 4)], [⟨0, 8, .rc, 0⟩, ⟨8, 8, .rc, 0⟩, ⟨16, 8, .rc, 0⟩, ⟨24, 8, .rc, 0⟩], 0x0, false⟩,
    ⟨"RUL.LOFF", 0x40040140, [(0x100, 4), (0x10, 4)], [⟨0, 27, .rw, 0⟩], 0x7ffffff, true⟩,
    ⟨"RUL.LEN", 0x40040144, [(0x100, 4), (0x10, 4)], [⟨0, 11, .rw, 64⟩], 0x7ff, true⟩,
    ⟨"RUL.RPT", 0x40040148, [(0x100, 4), (0x10, 4)], [⟨0, 27, .rw, 0⟩], 0x7ffffff, true⟩,
    ⟨"RUL.RDL", 0x4004014C, [(0x100, 4), (0x10, 4)], [⟨0, 27, .rw, 0⟩], 0x7ffffff, true⟩,
    ⟨"RUL.MARK", 0x40040180, [(0x100, 4), (0x4, 16)], [⟨0, 27, .rw, 0⟩, ⟨31, 1, .rw, 0⟩], 0x87ffffff, true⟩,
    ⟨"RUL.WINA", 0x40041000, [(0x1000, 4), (0x10, 256)], [⟨0, 1, .rw, 0⟩, ⟨1, 1, .rw, 0⟩, ⟨2, 2, .rw, 0⟩, ⟨4, 1, .rw, 0⟩, ⟨5, 11, .rw, 0⟩, ⟨16, 11, .rw, 0⟩], 0x7ffffff, true⟩ ] ++
  [
    ⟨"RUL.WINB", 0x40041004, [(0x1000, 4), (0x10, 256)], [⟨0, 8, .rw, 0⟩, ⟨8, 16, .rw, 0⟩], 0xffffff, true⟩,
    ⟨"RUL.WINC", 0x40041008, [(0x1000, 4), (0x10, 256)], [⟨0, 10, .rw, 0⟩, ⟨16, 8, .rw, 0⟩, ⟨24, 1, .rw, 0⟩], 0x1ff03ff, true⟩ ]

end RUL
end Sys2Proof.Machine
end

