-- ==== Sys2Proof/Machine/RegsRegion.lean ====
section
/-! DEFINITION. The register blocks CC (Tables 5.14-5.20, 6.8-6.12) and DM (Tables 15.8-15.10): addresses, fields, access types and reset values. -/
namespace Sys2Proof.Machine

namespace CC

def SPERR (c : Nat) : Nat := 0x40200000 + c * 0x10000
def SPERR_CE (c : Nat) : FldAt := ⟨(SPERR c), 0, 8⟩
def SPERR_UE (c : Nat) : FldAt := ⟨(SPERR c), 8, 8⟩
def ENGCTL (c e : Nat) : Nat := 0x40201000 + c * 0x10000 + e * 0x1000
def ENGCTL_LRST (c e : Nat) : FldAt := ⟨(ENGCTL c e), 0, 1⟩
def ENGCTL_HOLD (c e : Nat) : FldAt := ⟨(ENGCTL c e), 1, 1⟩
def ENGSTAT (c e : Nat) : Nat := 0x40201004 + c * 0x10000 + e * 0x1000
def ENGSTAT_RUNMASK (c e : Nat) : FldAt := ⟨(ENGSTAT c e), 0, 8⟩
def ENGSTAT_FAILMASK (c e : Nat) : FldAt := ⟨(ENGSTAT c e), 8, 8⟩
def ENGSTAT_EFAIL (c e : Nat) : FldAt := ⟨(ENGSTAT c e), 16, 1⟩
def ENGSTAT_CLEARING (c e : Nat) : FldAt := ⟨(ENGSTAT c e), 17, 1⟩
def ENGSTAT_CMDREJ (c e : Nat) : FldAt := ⟨(ENGSTAT c e), 24, 8⟩
def ENGERR (c e : Nat) : Nat := 0x40201008 + c * 0x10000 + e * 0x1000
def ENGERR_ICE (c e : Nat) : FldAt := ⟨(ENGERR c e), 0, 8⟩
def ENGERR_DCE (c e : Nat) : FldAt := ⟨(ENGERR c e), 8, 8⟩
def ENGERR_IUE (c e : Nat) : FldAt := ⟨(ENGERR c e), 16, 8⟩
def ENGERR_DUE (c e : Nat) : FldAt := ⟨(ENGERR c e), 24, 8⟩
def SWEVT (c e : Nat) : Nat := 0x4020100C + c * 0x10000 + e * 0x1000
def SWEVT_TMASK (c e : Nat) : FldAt := ⟨(SWEVT c e), 0, 8⟩
def THCTL (c e t : Nat) : Nat := 0x40201100 + c * 0x10000 + e * 0x1000 + t * 0x80
def THCTL_CMD (c e t : Nat) : FldAt := ⟨(THCTL c e t), 0, 3⟩
def THCTL_STATE (c e t : Nat) : FldAt := ⟨(THCTL c e t), 4, 3⟩
def THCTL_FCAUSE (c e t : Nat) : FldAt := ⟨(THCTL c e t), 8, 4⟩
def THCTL_PEND (c e t : Nat) : FldAt := ⟨(THCTL c e t), 16, 16⟩
def THPC (c e t : Nat) : Nat := 0x40201104 + c * 0x10000 + e * 0x1000 + t * 0x80
def THPC_PC (c e t : Nat) : FldAt := ⟨(THPC c e t), 2, 14⟩
def THIMEM (c e t : Nat) : Nat := 0x40201108 + c * 0x10000 + e * 0x1000 + t * 0x80
def THIMEM_BASE (c e t : Nat) : FldAt := ⟨(THIMEM c e t), 0, 6⟩
def THIMEM_SIZE (c e t : Nat) : FldAt := ⟨(THIMEM c e t), 8, 7⟩
def THDMEM (c e t : Nat) : Nat := 0x4020110C + c * 0x10000 + e * 0x1000 + t * 0x80
def THDMEM_BASE (c e t : Nat) : FldAt := ⟨(THDMEM c e t), 0, 6⟩
def THDMEM_SIZE (c e t : Nat) : FldAt := ⟨(THDMEM c e t), 8, 7⟩
def THKEY (c e t : Nat) : Nat := 0x40201110 + c * 0x10000 + e * 0x1000 + t * 0x80
def THKEY_KEY (c e t : Nat) : FldAt := ⟨(THKEY c e t), 0, 8⟩
def THIMG (c e t : Nat) : Nat := 0x40201114 + c * 0x10000 + e * 0x1000 + t * 0x80
def THIMG_IMGID (c e t : Nat) : FldAt := ⟨(THIMG c e t), 0, 32⟩
def THCK (c e t : Nat) : Nat := 0x40201118 + c * 0x10000 + e * 0x1000 + t * 0x80
def THCK_V (c e t : Nat) : FldAt := ⟨(THCK c e t), 0, 1⟩
def THCK_SLOT (c e t : Nat) : FldAt := ⟨(THCK c e t), 10, 22⟩
def CKWIN (c e t : Nat) : Nat := 0x4020111C + c * 0x10000 + e * 0x1000 + t * 0x80
def CKWIN_BASE (c e t : Nat) : FldAt := ⟨(CKWIN c e t), 6, 11⟩
def CKWIN_LEN (c e t : Nat) : FldAt := ⟨(CKWIN c e t), 24, 7⟩
def CKSTAT (c e t : Nat) : Nat := 0x40201120 + c * 0x10000 + e * 0x1000 + t * 0x80
def CKSTAT_BUSY (c e t : Nat) : FldAt := ⟨(CKSTAT c e t), 0, 1⟩
def CKSTAT_HALF (c e t : Nat) : FldAt := ⟨(CKSTAT c e t), 1, 1⟩
def CKSTAT_VALID (c e t : Nat) : FldAt := ⟨(CKSTAT c e t), 2, 1⟩
def CKSTAT_ERR (c e t : Nat) : FldAt := ⟨(CKSTAT c e t), 3, 1⟩
def CKSTAT_ERRCODE (c e t : Nat) : FldAt := ⟨(CKSTAT c e t), 4, 4⟩
def CKSTAT_CKCNT (c e t : Nat) : FldAt := ⟨(CKSTAT c e t), 16, 16⟩
def THCOS (c e t : Nat) : Nat := 0x40201124 + c * 0x10000 + e * 0x1000 + t * 0x80
def THCOS_COS (c e t : Nat) : FldAt := ⟨(THCOS c e t), 0, 32⟩
def EVPEND (c e t : Nat) : Nat := 0x40201128 + c * 0x10000 + e * 0x1000 + t * 0x80
def EVPEND_PEND (c e t : Nat) : FldAt := ⟨(EVPEND c e t), 0, 16⟩
def EVMASK (c e t : Nat) : Nat := 0x4020112C + c * 0x10000 + e * 0x1000 + t * 0x80
def EVMASK_MASK (c e t : Nat) : FldAt := ⟨(EVMASK c e t), 0, 16⟩
def EVSEEN (c e t : Nat) : Nat := 0x40201130 + c * 0x10000 + e * 0x1000 + t * 0x80
def EVSEEN_SEEN (c e t : Nat) : FldAt := ⟨(EVSEEN c e t), 0, 16⟩
def EVMRG (c e t : Nat) : Nat := 0x40201134 + c * 0x10000 + e * 0x1000 + t * 0x80
def EVMRG_MERGED (c e t : Nat) : FldAt := ⟨(EVMRG c e t), 0, 16⟩
def THWD (c e t : Nat) : Nat := 0x40201138 + c * 0x10000 + e * 0x1000 + t * 0x80
def THWD_LIMIT (c e t : Nat) : FldAt := ⟨(THWD c e t), 0, 16⟩
def THWD_REMAIN (c e t : Nat) : FldAt := ⟨(THWD c e t), 16, 16⟩
def EVSEL (c e t s : Nat) : Nat := 0x40201140 + c * 0x10000 + e * 0x1000 + t * 0x80 + s * 0x4
def EVSEL_SRC (c e t s : Nat) : FldAt := ⟨(EVSEL c e t s), 0, 8⟩
def EVSEL_INT (c e t s : Nat) : FldAt := ⟨(EVSEL c e t s), 8, 1⟩
def BCTL (c k : Nat) : Nat := 0x40208000 + c * 0x10000 + k * 0x400
def BCTL_START (c k : Nat) : FldAt := ⟨(BCTL c k), 0, 1⟩
def BCTL_STOP (c k : Nat) : FldAt := ⟨(BCTL c k), 1, 1⟩
def BCTL_SWAP (c k : Nat) : FldAt := ⟨(BCTL c k), 2, 1⟩
def BCTL_LRST (c k : Nat) : FldAt := ⟨(BCTL c k), 3, 1⟩
def BCTL_STARTPC (c k : Nat) : FldAt := ⟨(BCTL c k), 8, 5⟩
def BCTL_SWPC (c k : Nat) : FldAt := ⟨(BCTL c k), 16, 5⟩
def BSTAT (c k : Nat) : Nat := 0x40208004 + c * 0x10000 + k * 0x400
def BSTAT_STATE (c k : Nat) : FldAt := ⟨(BSTAT c k), 0, 2⟩
def BSTAT_SWPEND (c k : Nat) : FldAt := ⟨(BSTAT c k), 2, 1⟩
def BSTAT_INJPEND (c k : Nat) : FldAt := ⟨(BSTAT c k), 3, 1⟩
def BSTAT_ACTBANK (c k : Nat) : FldAt := ⟨(BSTAT c k), 4, 1⟩
def BSTAT_TXF (c k : Nat) : FldAt := ⟨(BSTAT c k), 5, 1⟩
def BSTAT_RXF (c k : Nat) : FldAt := ⟨(BSTAT c k), 6, 1⟩
def BSTAT_PC (c k : Nat) : FldAt := ⟨(BSTAT c k), 8, 5⟩
def BSTAT_ERR (c k : Nat) : FldAt := ⟨(BSTAT c k), 16, 3⟩
def BSTAT_TXOVF (c k : Nat) : FldAt := ⟨(BSTAT c k), 19, 1⟩
def BSTAT_RXUNF (c k : Nat) : FldAt := ⟨(BSTAT c k), 20, 1⟩
def BSTAT_INJLOST (c k : Nat) : FldAt := ⟨(BSTAT c k), 21, 1⟩
def BSTAT_PINERR (c k : Nat) : FldAt := ⟨(BSTAT c k), 22, 1⟩
def BDIV (c k : Nat) : Nat := 0x40208008 + c * 0x10000 + k * 0x400
def BDIV_D (c k : Nat) : FldAt := ⟨(BDIV c k), 0, 16⟩
def BDIV_PRE (c k : Nat) : FldAt := ⟨(BDIV c k), 16, 4⟩
def BCFG (c k : Nat) : Nat := 0x4020800C + c * 0x10000 + k * 0x400
def BCFG_ORD (c k : Nat) : FldAt := ⟨(BCFG c k), 0, 1⟩
def BCFG_SMPL (c k : Nat) : FldAt := ⟨(BCFG c k), 1, 1⟩
def BCFG_CPOL (c k : Nat) : FldAt := ⟨(BCFG c k), 2, 1⟩
def BCFG_APULL (c k : Nat) : FldAt := ⟨(BCFG c k), 3, 1⟩
def BCFG_APUSH (c k : Nat) : FldAt := ⟨(BCFG c k), 4, 1⟩
def BCFG_CMPW (c k : Nat) : FldAt := ⟨(BCFG c k), 5, 5⟩
def BCFG_STO (c k : Nat) : FldAt := ⟨(BCFG c k), 10, 8⟩
def BCFG_EVTXE (c k : Nat) : FldAt := ⟨(BCFG c k), 18, 1⟩
def BCFG_EVRXF (c k : Nat) : FldAt := ⟨(BCFG c k), 19, 1⟩
def BCFG_EVHLT (c k : Nat) : FldAt := ⟨(BCFG c k), 20, 1⟩
def BSLOT (c k : Nat) : Nat := 0x40208010 + c * 0x10000 + k * 0x400
def BSLOT_PIN0 (c k : Nat) : FldAt := ⟨(BSLOT c k), 0, 3⟩
def BSLOT_FN0 (c k : Nat) : FldAt := ⟨(BSLOT c k), 4, 3⟩
def BSLOT_PIN1 (c k : Nat) : FldAt := ⟨(BSLOT c k), 8, 3⟩
def BSLOT_FN1 (c k : Nat) : FldAt := ⟨(BSLOT c k), 12, 3⟩
def BSLOT_PIN2 (c k : Nat) : FldAt := ⟨(BSLOT c k), 16, 3⟩
def BSLOT_FN2 (c k : Nat) : FldAt := ⟨(BSLOT c k), 20, 3⟩
def BSLOT_PIN3 (c k : Nat) : FldAt := ⟨(BSLOT c k), 24, 3⟩
def BSLOT_FN3 (c k : Nat) : FldAt := ⟨(BSLOT c k), 28, 3⟩
def BTXD (c k : Nat) : Nat := 0x40208014 + c * 0x10000 + k * 0x400
def BTXD_W (c k : Nat) : FldAt := ⟨(BTXD c k), 0, 32⟩
def BRXD (c k : Nat) : Nat := 0x40208018 + c * 0x10000 + k * 0x400
def BRXD_W (c k : Nat) : FldAt := ⟨(BRXD c k), 0, 32⟩
def BCMP (c k : Nat) : Nat := 0x4020801C + c * 0x10000 + k * 0x400
def BCMP_W (c k : Nat) : FldAt := ⟨(BCMP c k), 0, 32⟩
def BSR (c k : Nat) : Nat := 0x40208020 + c * 0x10000 + k * 0x400
def BSR_W (c k : Nat) : FldAt := ⟨(BSR c k), 0, 32⟩
def BCNT (c k : Nat) : Nat := 0x40208024 + c * 0x10000 + k * 0x400
def BCNT_CNT0 (c k : Nat) : FldAt := ⟨(BCNT c k), 0, 16⟩
def BCNT_CNT1 (c k : Nat) : FldAt := ⟨(BCNT c k), 16, 16⟩
def BSH (c k : Nat) : Nat := 0x40208028 + c * 0x10000 + k * 0x400
def BSH_SCNT (c k : Nat) : FldAt := ⟨(BSH c k), 0, 11⟩
def BSH_BITS (c k : Nat) : FldAt := ⟨(BSH c k), 16, 6⟩
def BINJ (c k : Nat) : Nat := 0x4020802C + c * 0x10000 + k * 0x400
def BINJ_W (c k : Nat) : FldAt := ⟨(BINJ c k), 0, 32⟩
def BINJF (c k : Nat) : Nat := 0x40208030 + c * 0x10000 + k * 0x400
def BINJF_W (c k : Nat) : FldAt := ⟨(BINJF c k), 0, 32⟩
def BABSR (c k : Nat) : Nat := 0x40208034 + c * 0x10000 + k * 0x400
def BABSR_W (c k : Nat) : FldAt := ⟨(BABSR c k), 0, 32⟩
def BABSH (c k : Nat) : Nat := 0x40208038 + c * 0x10000 + k * 0x400
def BABSH_SCNT (c k : Nat) : FldAt := ⟨(BABSH c k), 0, 11⟩
def BABSH_BITS (c k : Nat) : FldAt := ⟨(BABSH c k), 16, 6⟩
def BXCNT (c k : Nat) : Nat := 0x4020803C + c * 0x10000 + k * 0x400
def BXCNT_TXCNT (c k : Nat) : FldAt := ⟨(BXCNT c k), 0, 16⟩
def BXCNT_RXCNT (c k : Nat) : FldAt := ⟨(BXCNT c k), 16, 16⟩
def BOWN (c k : Nat) : Nat := 0x40208040 + c * 0x10000 + k * 0x400
def BOWN_KEY (c k : Nat) : FldAt := ⟨(BOWN c k), 0, 8⟩
def BOWN_V (c k : Nat) : FldAt := ⟨(BOWN c k), 31, 1⟩
def BBANK (c k b w : Nat) : Nat := 0x40208100 + c * 0x10000 + k * 0x400 + b * 0x80 + w * 0x4
def BBANK_W (c k b w : Nat) : FldAt := ⟨(BBANK c k b w), 0, 32⟩
def PINOWN (c : Nat) : Nat := 0x4020A000 + c * 0x10000
def PINOWN_ENG0 (c : Nat) : FldAt := ⟨(PINOWN c), 0, 3⟩
def PINOWN_V0 (c : Nat) : FldAt := ⟨(PINOWN c), 3, 1⟩
def PINOWN_ENG1 (c : Nat) : FldAt := ⟨(PINOWN c), 4, 3⟩
def PINOWN_V1 (c : Nat) : FldAt := ⟨(PINOWN c), 7, 1⟩
def PINOWN_ENG2 (c : Nat) : FldAt := ⟨(PINOWN c), 8, 3⟩
def PINOWN_V2 (c : Nat) : FldAt := ⟨(PINOWN c), 11, 1⟩
def PINOWN_ENG3 (c : Nat) : FldAt := ⟨(PINOWN c), 12, 3⟩
def PINOWN_V3 (c : Nat) : FldAt := ⟨(PINOWN c), 15, 1⟩
def PINOWN_ENG4 (c : Nat) : FldAt := ⟨(PINOWN c), 16, 3⟩
def PINOWN_V4 (c : Nat) : FldAt := ⟨(PINOWN c), 19, 1⟩
def PINOWN_ENG5 (c : Nat) : FldAt := ⟨(PINOWN c), 20, 3⟩
def PINOWN_V5 (c : Nat) : FldAt := ⟨(PINOWN c), 23, 1⟩
def PINOWN_ENG6 (c : Nat) : FldAt := ⟨(PINOWN c), 24, 3⟩
def PINOWN_V6 (c : Nat) : FldAt := ⟨(PINOWN c), 27, 1⟩
def PINOWN_ENG7 (c : Nat) : FldAt := ⟨(PINOWN c), 28, 3⟩
def PINOWN_V7 (c : Nat) : FldAt := ⟨(PINOWN c), 31, 1⟩
def BANKCFG (c : Nat) : Nat := 0x4020A004 + c * 0x10000
def BANKCFG_V33 (c : Nat) : FldAt := ⟨(BANKCFG c), 0, 1⟩
def BANKCFG_VOK (c : Nat) : FldAt := ⟨(BANKCFG c), 1, 1⟩
def BANKCFG_MISMATCH (c : Nat) : FldAt := ⟨(BANKCFG c), 2, 1⟩
def BSYNC (c : Nat) : Nat := 0x4020A010 + c * 0x10000
def BSYNC_MASK (c : Nat) : FldAt := ⟨(BSYNC c), 0, 8⟩
def BSYNC_TRIG (c : Nat) : FldAt := ⟨(BSYNC c), 8, 2⟩
def BSYNC_MARK (c : Nat) : FldAt := ⟨(BSYNC c), 10, 6⟩
def BSYNC_OP (c : Nat) : FldAt := ⟨(BSYNC c), 16, 1⟩
def BSYNC_DRIVE (c : Nat) : FldAt := ⟨(BSYNC c), 17, 1⟩
def BSYNC_ARM (c : Nat) : FldAt := ⟨(BSYNC c), 18, 1⟩
def BSYNC_LATE (c : Nat) : FldAt := ⟨(BSYNC c), 19, 1⟩
def PAD (c p : Nat) : Nat := 0x4020A100 + c * 0x10000 + p * 0x4
def PAD_DRV (c p : Nat) : FldAt := ⟨(PAD c p), 0, 2⟩
def PAD_PULL (c p : Nat) : FldAt := ⟨(PAD c p), 2, 2⟩
def PAD_STR (c p : Nat) : FldAt := ⟨(PAD c p), 4, 2⟩
def PAD_SCHMITT (c p : Nat) : FldAt := ⟨(PAD c p), 6, 1⟩
def PAD_SAFE (c p : Nat) : FldAt := ⟨(PAD c p), 8, 2⟩
def PAD_WAKE (c p : Nat) : FldAt := ⟨(PAD c p), 10, 3⟩
def PINLVL (c : Nat) : Nat := 0x4020A200 + c * 0x10000
def PINLVL_LVL (c : Nat) : FldAt := ⟨(PINLVL c), 0, 8⟩

def table : List RegDesc :=
  [
    ⟨"CC.SPERR", 0x40200000, [(0x10000, 8)], [⟨0, 8, .rc, 0⟩, ⟨8, 8, .rc, 0⟩], 0x0, false⟩,
    ⟨"CC.ENGCTL", 0x40201000, [(0x10000, 8), (0x1000, 3)], [⟨0, 1, .wo, 0⟩, ⟨1, 1, .rw, 0⟩], 0x0, false⟩,
    ⟨"CC.ENGSTAT", 0x40201004, [(0x10000, 8), (0x1000, 3)], [⟨0, 8, .ro, 0⟩, ⟨8, 8, .ro, 0⟩, ⟨16, 1, .ro, 0⟩, ⟨17, 1, .ro, 0⟩, ⟨24, 8, .rc, 0⟩], 0x0, false⟩,
    ⟨"CC.ENGERR", 0x40201008, [(0x10000, 8), (0x1000, 3)], [⟨0, 8, .rc, 0⟩, ⟨8, 8, .rc, 0⟩, ⟨16, 8, .rc, 0⟩, ⟨24, 8, .rc, 0⟩], 0x0, false⟩,
    ⟨"CC.SWEVT", 0x4020100C, [(0x10000, 8), (0x1000, 3)], [⟨0, 8, .wo, 0⟩], 0x0, false⟩,
    ⟨"CC.THCTL", 0x40201100, [(0x10000, 8), (0x1000, 3), (0x80, 8)], [⟨0, 3, .wo, 0⟩, ⟨4, 3, .ro, 0⟩, ⟨8, 4, .ro, 0⟩, ⟨16, 16, .wo, 0⟩], 0x0, false⟩,
    ⟨"CC.THPC", 0x40201104, [(0x10000, 8), (0x1000, 3), (0x80, 8)], [⟨2, 14, .rw, 0⟩], 0x0, false⟩,
    ⟨"CC.THIMEM", 0x40201108, [(0x10000, 8), (0x1000, 3), (0x80, 8)], [⟨0, 6, .rw, 0⟩, ⟨8, 7, .rw, 0⟩], 0x0, false⟩,
    ⟨"CC.THDMEM", 0x4020110C, [(0x10000, 8), (0x1000, 3), (0x80, 8)], [⟨0, 6, .rw, 0⟩, ⟨8, 7, .rw, 0⟩], 0x0, false⟩,
    ⟨"CC.THKEY", 0x40201110, [(0x10000, 8), (0x1000, 3), (0x80, 8)], [⟨0, 8, .rw, 0⟩], 0x0, false⟩,
    ⟨"CC.THIMG", 0x40201114, [(0x10000, 8), (0x1000, 3), (0x80, 8)], [⟨0, 32, .rw, 0⟩], 0x0, false⟩,
    ⟨"CC.THCK", 0x40201118, [(0x10000, 8), (0x1000, 3), (0x80, 8)], [⟨0, 1, .rw, 0⟩, ⟨10, 22, .rw, 0⟩], 0x0, false⟩ ] ++
  [
    ⟨"CC.CKWIN", 0x4020111C, [(0x10000, 8), (0x1000, 3), (0x80, 8)], [⟨6, 11, .rw, 0⟩, ⟨24, 7, .rw, 0⟩], 0x0, false⟩,
    ⟨"CC.CKSTAT", 0x40201120, [(0x10000, 8), (0x1000, 3), (0x80, 8)], [⟨0, 1, .ro, 0⟩, ⟨1, 1, .ro, 0⟩, ⟨2, 1, .ro, 0⟩, ⟨3, 1, .w1c, 0⟩, ⟨4, 4, .ro, 0⟩, ⟨16, 16, .ro, 0⟩], 0x0, false⟩,
    ⟨"CC.THCOS", 0x40201124, [(0x10000, 8), (0x1000, 3), (0x80, 8)], [⟨0, 32, .ro, 0⟩], 0x0, false⟩,
    ⟨"CC.EVPEND", 0x40201128, [(0x10000, 8), (0x1000, 3), (0x80, 8)], [⟨0, 16, .w1c, 0⟩], 0x0, false⟩,
    ⟨"CC.EVMASK", 0x4020112C, [(0x10000, 8), (0x1000, 3), (0x80, 8)], [⟨0, 16, .rw, 0xffff⟩], 0x0, false⟩,
    ⟨"CC.EVSEEN", 0x40201130, [(0x10000, 8), (0x1000, 3), (0x80, 8)], [⟨0, 16, .ro, 0⟩], 0x0, false⟩,
    ⟨"CC.EVMRG", 0x40201134, [(0x10000, 8), (0x1000, 3), (0x80, 8)], [⟨0, 16, .rc, 0⟩], 0x0, false⟩,
    ⟨"CC.THWD", 0x40201138, [(0x10000, 8), (0x1000, 3), (0x80, 8)], [⟨0, 16, .rw, 0⟩, ⟨16, 16, .ro, 0⟩], 0x0, false⟩,
    ⟨"CC.EVSEL", 0x40201140, [(0x10000, 8), (0x1000, 3), (0x80, 8), (0x4, 16)], [⟨0, 8, .rw, 0⟩, ⟨8, 1, .rw, 0⟩], 0x0, false⟩,
    ⟨"CC.BCTL", 0x40208000, [(0x10000, 8), (0x400, 8)], [⟨0, 1, .wo, 0⟩, ⟨1, 1, .wo, 0⟩, ⟨2, 1, .wo, 0⟩, ⟨3, 1, .wo, 0⟩, ⟨8, 5, .rw, 0⟩, ⟨16, 5, .rw, 0⟩], 0x0, false⟩,
    ⟨"CC.BSTAT", 0x40208004, [(0x10000, 8), (0x400, 8)], [⟨0, 2, .ro, 0⟩, ⟨2, 1, .ro, 0⟩, ⟨3, 1, .ro, 0⟩, ⟨4, 1, .ro, 0⟩, ⟨5, 1, .ro, 0⟩, ⟨6, 1, .ro, 0⟩, ⟨8, 5, .ro, 0⟩, ⟨16, 3, .ro, 0⟩, ⟨19, 1, .w1c, 0⟩, ⟨20, 1, .w1c, 0⟩, ⟨21, 1, .w1c, 0⟩, ⟨22, 1, .ro, 0⟩], 0x0, false⟩,
    ⟨"CC.BDIV", 0x40208008, [(0x10000, 8), (0x400, 8)], [⟨0, 16, .rw, 1024⟩, ⟨16, 4, .rw, 0⟩], 0x0, false⟩ ] ++
  [
    ⟨"CC.BCFG", 0x4020800C, [(0x10000, 8), (0x400, 8)], [⟨0, 1, .rw, 0⟩, ⟨1, 1, .rw, 0⟩, ⟨2, 1, .rw, 0⟩, ⟨3, 1, .rw, 0⟩, ⟨4, 1, .rw, 0⟩, ⟨5, 5, .rw, 31⟩, ⟨10, 8, .rw, 0⟩, ⟨18, 1, .rw, 0⟩, ⟨19, 1, .rw, 0⟩, ⟨20, 1, .rw, 0⟩], 0x0, false⟩,
    ⟨"CC.BSLOT", 0x40208010, [(0x10000, 8), (0x400, 8)], [⟨0, 3, .rw, 0⟩, ⟨4, 3, .rw, 0⟩, ⟨8, 3, .rw, 0⟩, ⟨12, 3, .rw, 0⟩, ⟨16, 3, .rw, 0⟩, ⟨20, 3, .rw, 0⟩, ⟨24, 3, .rw, 0⟩, ⟨28, 3, .rw, 0⟩], 0x0, false⟩,
    ⟨"CC.BTXD", 0x40208014, [(0x10000, 8), (0x400, 8)], [⟨0, 32, .rw, 0⟩], 0x0, false⟩,
    ⟨"CC.BRXD", 0x40208018, [(0x10000, 8), (0x400, 8)], [⟨0, 32, .ro, 0⟩], 0x0, false⟩,
    ⟨"CC.BCMP", 0x4020801C, [(0x10000, 8), (0x400, 8)], [⟨0, 32, .rw, 0⟩], 0x0, false⟩,
    ⟨"CC.BSR", 0x40208020, [(0x10000, 8), (0x400, 8)], [⟨0, 32, .ro, 0⟩], 0x0, false⟩,
    ⟨"CC.BCNT", 0x40208024, [(0x10000, 8), (0x400, 8)], [⟨0, 16, .ro, 0⟩, ⟨16, 16, .ro, 0⟩], 0x0, false⟩,
    ⟨"CC.BSH", 0x40208028, [(0x10000, 8), (0x400, 8)], [⟨0, 11, .ro, 0⟩, ⟨16, 6, .ro, 0⟩], 0x0, false⟩,
    ⟨"CC.BINJ", 0x4020802C, [(0x10000, 8), (0x400, 8)], [⟨0, 32, .wo, 0⟩], 0x0, false⟩,
    ⟨"CC.BINJF", 0x40208030, [(0x10000, 8), (0x400, 8)], [⟨0, 32, .wo, 0⟩], 0x0, false⟩,
    ⟨"CC.BABSR", 0x40208034, [(0x10000, 8), (0x400, 8)], [⟨0, 32, .ro, 0⟩], 0x0, false⟩,
    ⟨"CC.BABSH", 0x40208038, [(0x10000, 8), (0x400, 8)], [⟨0, 11, .ro, 0⟩, ⟨16, 6, .ro, 0⟩], 0x0, false⟩ ] ++
  [
    ⟨"CC.BXCNT", 0x4020803C, [(0x10000, 8), (0x400, 8)], [⟨0, 16, .ro, 0⟩, ⟨16, 16, .ro, 0⟩], 0x0, false⟩,
    ⟨"CC.BOWN", 0x40208040, [(0x10000, 8), (0x400, 8)], [⟨0, 8, .rw, 0⟩, ⟨31, 1, .rw, 0⟩], 0x0, false⟩,
    ⟨"CC.BBANK", 0x40208100, [(0x10000, 8), (0x400, 8), (0x80, 2), (0x4, 32)], [⟨0, 32, .rw, 0⟩], 0x0, false⟩,
    ⟨"CC.PINOWN", 0x4020A000, [(0x10000, 8)], [⟨0, 3, .rw, 0⟩, ⟨3, 1, .rw, 0⟩, ⟨4, 3, .rw, 0⟩, ⟨7, 1, .rw, 0⟩, ⟨8, 3, .rw, 0⟩, ⟨11, 1, .rw, 0⟩, ⟨12, 3, .rw, 0⟩, ⟨15, 1, .rw, 0⟩, ⟨16, 3, .rw, 0⟩, ⟨19, 1, .rw, 0⟩, ⟨20, 3, .rw, 0⟩, ⟨23, 1, .rw, 0⟩, ⟨24, 3, .rw, 0⟩, ⟨27, 1, .rw, 0⟩, ⟨28, 3, .rw, 0⟩, ⟨31, 1, .rw, 0⟩], 0x0, false⟩,
    ⟨"CC.BANKCFG", 0x4020A004, [(0x10000, 8)], [⟨0, 1, .rw, 0⟩, ⟨1, 1, .ro, 0⟩, ⟨2, 1, .ro, 0⟩], 0x0, false⟩,
    ⟨"CC.BSYNC", 0x4020A010, [(0x10000, 8)], [⟨0, 8, .rw, 0⟩, ⟨8, 2, .rw, 0⟩, ⟨10, 6, .rw, 0⟩, ⟨16, 1, .rw, 0⟩, ⟨17, 1, .rw, 0⟩, ⟨18, 1, .w1s, 0⟩, ⟨19, 1, .w1c, 0⟩], 0x0, false⟩,
    ⟨"CC.PAD", 0x4020A100, [(0x10000, 8), (0x4, 8)], [⟨0, 2, .rw, 0⟩, ⟨2, 2, .rw, 0⟩, ⟨4, 2, .rw, 1⟩, ⟨6, 1, .rw, 1⟩, ⟨8, 2, .rw, 0⟩, ⟨10, 3, .rw, 0⟩], 0x0, false⟩,
    ⟨"CC.PINLVL", 0x4020A200, [(0x10000, 8)], [⟨0, 8, .ro, 0⟩], 0x0, false⟩ ]

end CC

namespace DM

def CTL (n : Nat) : Nat := 0x40300000 + n * 0x10000
def CTL_LRST (n : Nat) : FldAt := ⟨(CTL n), 0, 1⟩
def STAT (n : Nat) : Nat := 0x40300004 + n * 0x10000
def STAT_BUSY (n : Nat) : FldAt := ⟨(STAT n), 0, 16⟩
def STAT_ERR (n : Nat) : FldAt := ⟨(STAT n), 16, 16⟩
def CTXOP (n : Nat) : Nat := 0x40300008 + n * 0x10000
def CTXOP_KEY (n : Nat) : FldAt := ⟨(CTXOP n), 0, 8⟩
def CTXOP_OP (n : Nat) : FldAt := ⟨(CTXOP n), 8, 2⟩
def ABSCNT (n : Nat) : Nat := 0x4030000C + n * 0x10000
def ABSCNT_ABSORBED (n : Nat) : FldAt := ⟨(ABSCNT n), 0, 16⟩
def RPL (n k : Nat) : Nat := 0x40300100 + n * 0x10000 + k * 0x4
def RPL_LAST_COS (n k : Nat) : FldAt := ⟨(RPL n k), 0, 32⟩
def CHCFG (n j : Nat) : Nat := 0x40301000 + n * 0x10000 + j * 0x40
def CHCFG_EN (n j : Nat) : FldAt := ⟨(CHCFG n j), 0, 1⟩
def CHCFG_KV (n j : Nat) : FldAt := ⟨(CHCFG n j), 1, 1⟩
def CHCFG_PRI (n j : Nat) : FldAt := ⟨(CHCFG n j), 2, 1⟩
def CHCFG_BURST (n j : Nat) : FldAt := ⟨(CHCFG n j), 3, 3⟩
def CHCFG_OWNER (n j : Nat) : FldAt := ⟨(CHCFG n j), 8, 8⟩
def CHCFG_OWNKEY (n j : Nat) : FldAt := ⟨(CHCFG n j), 16, 8⟩
def CHSTART (n j : Nat) : Nat := 0x40301004 + n * 0x10000 + j * 0x40
def CHSTART_GO (n j : Nat) : FldAt := ⟨(CHSTART n j), 0, 1⟩
def CHSTART_PROG (n j : Nat) : FldAt := ⟨(CHSTART n j), 4, 28⟩
def CHCTL (n j : Nat) : Nat := 0x40301008 + n * 0x10000 + j * 0x40
def CHCTL_ABORT (n j : Nat) : FldAt := ⟨(CHCTL n j), 0, 1⟩
def CHCTL_CLR (n j : Nat) : FldAt := ⟨(CHCTL n j), 1, 1⟩
def CHSTAT (n j : Nat) : Nat := 0x4030100C + n * 0x10000 + j * 0x40
def CHSTAT_STATE (n j : Nat) : FldAt := ⟨(CHSTAT n j), 0, 3⟩
def CHSTAT_CAUSE (n j : Nat) : FldAt := ⟨(CHSTAT n j), 3, 2⟩
def CHSTAT_ERRCODE (n j : Nat) : FldAt := ⟨(CHSTAT n j), 5, 4⟩
def CHSTAT_FETCH (n j : Nat) : FldAt := ⟨(CHSTAT n j), 9, 1⟩
def CHSTAT_WPEND (n j : Nat) : FldAt := ⟨(CHSTAT n j), 10, 1⟩
def CHSTAT_STARTREJ (n j : Nat) : FldAt := ⟨(CHSTAT n j), 16, 8⟩
def CHSTAT_WMRG (n j : Nat) : FldAt := ⟨(CHSTAT n j), 24, 8⟩
def CHPC (n j : Nat) : Nat := 0x40301010 + n * 0x10000 + j * 0x40
def CHPC_PC (n j : Nat) : FldAt := ⟨(CHPC n j), 4, 28⟩
def CHERR (n j : Nat) : Nat := 0x40301014 + n * 0x10000 + j * 0x40
def CHERR_ADDR (n j : Nat) : FldAt := ⟨(CHERR n j), 0, 32⟩
def CHSIG (n j : Nat) : Nat := 0x40301018 + n * 0x10000 + j * 0x40
def CHSIG_LAST (n j : Nat) : FldAt := ⟨(CHSIG n j), 0, 16⟩
def CHSIG_SIGCNT (n j : Nat) : FldAt := ⟨(CHSIG n j), 16, 16⟩
def CHBYTES (n j : Nat) : Nat := 0x4030101C + n * 0x10000 + j * 0x40
def CHBYTES_BYTES (n j : Nat) : FldAt := ⟨(CHBYTES n j), 0, 32⟩
def CHPSRC (n j : Nat) : Nat := 0x40301020 + n * 0x10000 + j * 0x40
def CHPSRC_A (n j : Nat) : FldAt := ⟨(CHPSRC n j), 0, 32⟩
def CHPDST (n j : Nat) : Nat := 0x40301024 + n * 0x10000 + j * 0x40
def CHPDST_A (n j : Nat) : FldAt := ⟨(CHPDST n j), 0, 32⟩

def table : List RegDesc :=
  [
    ⟨"DM.CTL", 0x40300000, [(0x10000, 4)], [⟨0, 1, .wo, 0⟩], 0x0, false⟩,
    ⟨"DM.STAT", 0x40300004, [(0x10000, 4)], [⟨0, 16, .ro, 0⟩, ⟨16, 16, .ro, 0⟩], 0x0, false⟩,
    ⟨"DM.CTXOP", 0x40300008, [(0x10000, 4)], [⟨0, 8, .wo, 0⟩, ⟨8, 2, .wo, 0⟩], 0x0, false⟩,
    ⟨"DM.ABSCNT", 0x4030000C, [(0x10000, 4)], [⟨0, 16, .rc, 0⟩], 0x0, false⟩,
    ⟨"DM.RPL", 0x40300100, [(0x10000, 4), (0x4, 256)], [⟨0, 32, .ro, 0⟩], 0x0, false⟩,
    ⟨"DM.CHCFG", 0x40301000, [(0x10000, 4), (0x40, 16)], [⟨0, 1, .rw, 0⟩, ⟨1, 1, .rw, 0⟩, ⟨2, 1, .rw, 0⟩, ⟨3, 3, .rw, 7⟩, ⟨8, 8, .rw, 0⟩, ⟨16, 8, .rw, 0⟩], 0xffff3f, false⟩,
    ⟨"DM.CHSTART", 0x40301004, [(0x10000, 4), (0x40, 16)], [⟨0, 1, .wo, 0⟩, ⟨4, 28, .wo, 0⟩], 0x0, false⟩,
    ⟨"DM.CHCTL", 0x40301008, [(0x10000, 4), (0x40, 16)], [⟨0, 1, .wo, 0⟩, ⟨1, 1, .wo, 0⟩], 0x0, false⟩,
    ⟨"DM.CHSTAT", 0x4030100C, [(0x10000, 4), (0x40, 16)], [⟨0, 3, .ro, 0⟩, ⟨3, 2, .ro, 0⟩, ⟨5, 4, .ro, 0⟩, ⟨9, 1, .ro, 0⟩, ⟨10, 1, .ro, 0⟩, ⟨16, 8, .rc, 0⟩, ⟨24, 8, .rc, 0⟩], 0x0, false⟩,
    ⟨"DM.CHPC", 0x40301010, [(0x10000, 4), (0x40, 16)], [⟨4, 28, .ro, 0⟩], 0x0, false⟩,
    ⟨"DM.CHERR", 0x40301014, [(0x10000, 4), (0x40, 16)], [⟨0, 32, .ro, 0⟩], 0x0, false⟩,
    ⟨"DM.CHSIG", 0x40301018, [(0x10000, 4), (0x40, 16)], [⟨0, 16, .ro, 0⟩, ⟨16, 16, .ro, 0⟩], 0x0, false⟩ ] ++
  [
    ⟨"DM.CHBYTES", 0x4030101C, [(0x10000, 4), (0x40, 16)], [⟨0, 32, .ro, 0⟩], 0x0, false⟩,
    ⟨"DM.CHPSRC", 0x40301020, [(0x10000, 4), (0x40, 16)], [⟨0, 32, .ro, 0⟩], 0x0, false⟩,
    ⟨"DM.CHPDST", 0x40301024, [(0x10000, 4), (0x40, 16)], [⟨0, 32, .ro, 0⟩], 0x0, false⟩ ]

end DM
end Sys2Proof.Machine
end

