-- ==== Sys2Proof/Machine/RegsUnits.lean ====
section
/-! DEFINITION. The register blocks LPE (Tables 12.7-12.12), WSC (Tables 14.10-14.13), PLT (Tables 11.5-11.8, 16.5-16.7) and MBUS (Tables 13.6-13.10): addresses, fields, access types and reset values. -/
namespace Sys2Proof.Machine

namespace LPE

def CTL : Nat := 0x40050000
def CTL_EN : FldAt := ⟨CTL, 0, 1⟩
def STAT : Nat := 0x40050004
def STAT_BUSY : FldAt := ⟨STAT, 0, 4⟩
def STAT_CFGERR : FldAt := ⟨STAT, 4, 1⟩
def STAT_CLEARING : FldAt := ⟨STAT, 5, 1⟩
def STAT_CFGIDX : FldAt := ⟨STAT, 8, 9⟩
def STAT_NPEND : FldAt := ⟨STAT, 22, 10⟩
def IWADDR : Nat := 0x40050010
def IWADDR_INDEX : FldAt := ⟨IWADDR, 0, 20⟩
def IWADDR_SPACE : FldAt := ⟨IWADDR, 28, 3⟩
def IWADDR_AINC : FldAt := ⟨IWADDR, 31, 1⟩
def IWDATA : Nat := 0x40050014
def IWDATA_DATA : FldAt := ⟨IWDATA, 0, 32⟩
def PENDSET : Nat := 0x40050018
def PENDSET_SLOT : FldAt := ⟨PENDSET, 0, 9⟩
def PENDSET_KIND : FldAt := ⟨PENDSET, 9, 1⟩
def PENDSET_CLR : FldAt := ⟨PENDSET, 10, 1⟩
def SWTRIG : Nat := 0x4005001C
def SWTRIG_FIRE : FldAt := ⟨SWTRIG, 0, 1⟩
def LANESTAT (l : Nat) : Nat := 0x40050040 + l * 0x4
def LANESTAT_PEND (l : Nat) : FldAt := ⟨(LANESTAT l), 0, 10⟩
def LANESTAT_OVR (l : Nat) : FldAt := ⟨(LANESTAT l), 16, 8⟩
def LANESTAT_ABND (l : Nat) : FldAt := ⟨(LANESTAT l), 24, 8⟩
def TMRCTL (j : Nat) : Nat := 0x40050100 + j * 0x10
def TMRCTL_EN (j : Nat) : FldAt := ⟨(TMRCTL j), 0, 1⟩
def TMRPER (j : Nat) : Nat := 0x40050104 + j * 0x10
def TMRPER_PERIOD (j : Nat) : FldAt := ⟨(TMRPER j), 0, 27⟩
def TMRNS (j : Nat) : Nat := 0x40050108 + j * 0x10
def TMRNS_NS (j : Nat) : FldAt := ⟨(TMRNS j), 0, 30⟩
def TMRSEC (j : Nat) : Nat := 0x4005010C + j * 0x10
def TMRSEC_SEC (j : Nat) : FldAt := ⟨(TMRSEC j), 0, 32⟩
def TSGCFG (g : Nat) : Nat := 0x40050200 + g * 0x20
def TSGCFG_EN (g : Nat) : FldAt := ⟨(TSGCFG g), 0, 1⟩
def TSGCFG_ARM (g : Nat) : FldAt := ⟨(TSGCFG g), 1, 1⟩
def TSGCFG_TYPE (g : Nat) : FldAt := ⟨(TSGCFG g), 2, 2⟩
def TSGCFG_POINT (g : Nat) : FldAt := ⟨(TSGCFG g), 4, 2⟩
def TSGCFG_SLOT (g : Nat) : FldAt := ⟨(TSGCFG g), 6, 9⟩
def TSGCFG_ORDER (g : Nat) : FldAt := ⟨(TSGCFG g), 16, 5⟩
def TSGCFG_HOLD (g : Nat) : FldAt := ⟨(TSGCFG g), 24, 8⟩
def TSGAMP (g : Nat) : Nat := 0x40050204 + g * 0x20
def TSGAMP_V (g : Nat) : FldAt := ⟨(TSGAMP g), 0, 32⟩
def TSGOFS (g : Nat) : Nat := 0x40050208 + g * 0x20
def TSGOFS_V (g : Nat) : FldAt := ⟨(TSGOFS g), 0, 32⟩
def TSGP1 (g : Nat) : Nat := 0x4005020C + g * 0x20
def TSGP1_V (g : Nat) : FldAt := ⟨(TSGP1 g), 0, 32⟩
def TSGP2 (g : Nat) : Nat := 0x40050210 + g * 0x20
def TSGP2_V (g : Nat) : FldAt := ⟨(TSGP2 g), 0, 32⟩
def TSGLEN (g : Nat) : Nat := 0x40050214 + g * 0x20
def TSGLEN_LEN (g : Nat) : FldAt := ⟨(TSGLEN g), 0, 32⟩
def TSGSTAT (g : Nat) : Nat := 0x40050218 + g * 0x20
def TSGSTAT_RUN (g : Nat) : FldAt := ⟨(TSGSTAT g), 0, 1⟩
def TSGSTAT_DONE (g : Nat) : FldAt := ⟨(TSGSTAT g), 1, 1⟩
def TSGSTAT_STEPS (g : Nat) : FldAt := ⟨(TSGSTAT g), 8, 24⟩
def CAPCFG (c : Nat) : Nat := 0x40050400 + c * 0x20
def CAPCFG_EN (c : Nat) : FldAt := ⟨(CAPCFG c), 0, 1⟩
def CAPCFG_ARM (c : Nat) : FldAt := ⟨(CAPCFG c), 1, 1⟩
def CAPCFG_SIG (c : Nat) : FldAt := ⟨(CAPCFG c), 2, 4⟩
def CAPCFG_SLOT (c : Nat) : FldAt := ⟨(CAPCFG c), 6, 9⟩
def CAPCFG_START (c : Nat) : FldAt := ⟨(CAPCFG c), 15, 1⟩
def CAPCFG_TSG (c : Nat) : FldAt := ⟨(CAPCFG c), 16, 4⟩
def CAPCFG_DEC (c : Nat) : FldAt := ⟨(CAPCFG c), 20, 8⟩
def CAPLEN (c : Nat) : Nat := 0x40050404 + c * 0x20
def CAPLEN_LEN (c : Nat) : FldAt := ⟨(CAPLEN c), 0, 17⟩
def CAPSTAT (c : Nat) : Nat := 0x40050408 + c * 0x20
def CAPSTAT_COUNT (c : Nat) : FldAt := ⟨(CAPSTAT c), 0, 17⟩
def CAPSTAT_RUN (c : Nat) : FldAt := ⟨(CAPSTAT c), 17, 1⟩
def CAPSTAT_DONE (c : Nat) : FldAt := ⟨(CAPSTAT c), 18, 1⟩
def CAPTNS (c : Nat) : Nat := 0x4005040C + c * 0x20
def CAPTNS_NS (c : Nat) : FldAt := ⟨(CAPTNS c), 0, 30⟩
def CAPTSEC (c : Nat) : Nat := 0x40050410 + c * 0x20
def CAPTSEC_SEC (c : Nat) : FldAt := ⟨(CAPTSEC c), 0, 32⟩

def table : List RegDesc :=
  [
    ⟨"LPE.CTL", 0x40050000, [], [⟨0, 1, .rw, 0⟩], 0x1, true⟩,
    ⟨"LPE.STAT", 0x40050004, [], [⟨0, 4, .ro, 0⟩, ⟨4, 1, .w1c, 0⟩, ⟨5, 1, .ro, 0⟩, ⟨8, 9, .ro, 0⟩, ⟨22, 10, .ro, 0⟩], 0x0, false⟩,
    ⟨"LPE.IWADDR", 0x40050010, [], [⟨0, 20, .rw, 0⟩, ⟨28, 3, .rw, 0⟩, ⟨31, 1, .rw, 1⟩], 0x0, false⟩,
    ⟨"LPE.IWDATA", 0x40050014, [], [⟨0, 32, .rw, 0⟩], 0x0, false⟩,
    ⟨"LPE.PENDSET", 0x40050018, [], [⟨0, 9, .wo, 0⟩, ⟨9, 1, .wo, 0⟩, ⟨10, 1, .wo, 0⟩], 0x0, false⟩,
    ⟨"LPE.SWTRIG", 0x4005001C, [], [⟨0, 1, .wo, 0⟩], 0x0, false⟩,
    ⟨"LPE.LANESTAT", 0x40050040, [(0x4, 4)], [⟨0, 10, .ro, 0⟩, ⟨16, 8, .rc, 0⟩, ⟨24, 8, .rc, 0⟩], 0x0, false⟩,
    ⟨"LPE.TMRCTL", 0x40050100, [(0x10, 16)], [⟨0, 1, .rw, 0⟩], 0x1, true⟩,
    ⟨"LPE.TMRPER", 0x40050104, [(0x10, 16)], [⟨0, 27, .rw, 0xf4240⟩], 0x7ffffff, true⟩,
    ⟨"LPE.TMRNS", 0x40050108, [(0x10, 16)], [⟨0, 30, .rw, 0⟩], 0x3fffffff, true⟩,
    ⟨"LPE.TMRSEC", 0x4005010C, [(0x10, 16)], [⟨0, 32, .rw, 0⟩], 0xffffffff, true⟩,
    ⟨"LPE.TSGCFG", 0x40050200, [(0x20, 16)], [⟨0, 1, .rw, 0⟩, ⟨1, 1, .w1s, 0⟩, ⟨2, 2, .rw, 0⟩, ⟨4, 2, .rw, 0⟩, ⟨6, 9, .rw, 0⟩, ⟨16, 5, .rw, 31⟩, ⟨24, 8, .rw, 1⟩], 0x0, false⟩ ] ++
  [
    ⟨"LPE.TSGAMP", 0x40050204, [(0x20, 16)], [⟨0, 32, .rw, 0⟩], 0x0, false⟩,
    ⟨"LPE.TSGOFS", 0x40050208, [(0x20, 16)], [⟨0, 32, .rw, 0⟩], 0x0, false⟩,
    ⟨"LPE.TSGP1", 0x4005020C, [(0x20, 16)], [⟨0, 32, .rw, 0x48000000⟩], 0x0, false⟩,
    ⟨"LPE.TSGP2", 0x40050210, [(0x20, 16)], [⟨0, 32, .rw, 0⟩], 0x0, false⟩,
    ⟨"LPE.TSGLEN", 0x40050214, [(0x20, 16)], [⟨0, 32, .rw, 0⟩], 0x0, false⟩,
    ⟨"LPE.TSGSTAT", 0x40050218, [(0x20, 16)], [⟨0, 1, .ro, 0⟩, ⟨1, 1, .w1c, 0⟩, ⟨8, 24, .ro, 0⟩], 0x0, false⟩,
    ⟨"LPE.CAPCFG", 0x40050400, [(0x20, 4)], [⟨0, 1, .rw, 0⟩, ⟨1, 1, .w1s, 0⟩, ⟨2, 4, .rw, 0⟩, ⟨6, 9, .rw, 0⟩, ⟨15, 1, .rw, 0⟩, ⟨16, 4, .rw, 0⟩, ⟨20, 8, .rw, 0⟩], 0x0, false⟩,
    ⟨"LPE.CAPLEN", 0x40050404, [(0x20, 4)], [⟨0, 17, .rw, 0x10000⟩], 0x0, false⟩,
    ⟨"LPE.CAPSTAT", 0x40050408, [(0x20, 4)], [⟨0, 17, .ro, 0⟩, ⟨17, 1, .ro, 0⟩, ⟨18, 1, .w1c, 0⟩], 0x0, false⟩,
    ⟨"LPE.CAPTNS", 0x4005040C, [(0x20, 4)], [⟨0, 30, .ro, 0⟩], 0x0, false⟩,
    ⟨"LPE.CAPTSEC", 0x40050410, [(0x20, 4)], [⟨0, 32, .ro, 0⟩], 0x0, false⟩ ]

end LPE

namespace WSC

def CFG : Nat := 0x40060000
def CFG_RSV : FldAt := ⟨CFG, 0, 16⟩
def CFG_SPILL : FldAt := ⟨CFG, 16, 8⟩
def CFG_HPOLL : FldAt := ⟨CFG, 24, 8⟩
def STAT : Nat := 0x40060004
def STAT_FREE : FldAt := ⟨STAT, 0, 16⟩
def CNT : Nat := 0x40060008
def CNT_ABSORBED : FldAt := ⟨CNT, 0, 8⟩
def CNT_REFUSED : FldAt := ⟨CNT, 8, 8⟩
def CNT_BADDESC : FldAt := ⟨CNT, 16, 8⟩
def CNT_TPLDROP : FldAt := ⟨CNT, 24, 8⟩
def COREOP : Nat := 0x4006000C
def COREOP_CORE : FldAt := ⟨COREOP, 0, 4⟩
def COREOP_OP : FldAt := ⟨COREOP, 4, 3⟩
def SUBMIT : Nat := 0x40060010
def SUBMIT_W : FldAt := ⟨SUBMIT, 0, 32⟩
def DONE : Nat := 0x40060014
def DONE_W : FldAt := ⟨DONE, 0, 32⟩
def CUR : Nat := 0x40060018
def CUR_NEW : FldAt := ⟨CUR, 0, 1⟩
def CUR_RUN : FldAt := ⟨CUR, 1, 1⟩
def CUR_LEVEL : FldAt := ⟨CUR, 2, 2⟩
def CUR_KEY : FldAt := ⟨CUR, 8, 8⟩
def CUR_SEQ : FldAt := ⟨CUR, 16, 16⟩
def CTXOP : Nat := 0x4006001C
def CTXOP_KEY : FldAt := ⟨CTXOP, 0, 8⟩
def CTXOP_OP : FldAt := ⟨CTXOP, 8, 2⟩
def STAGE (w : Nat) : Nat := 0x40060040 + w * 0x4
def STAGE_W (w : Nat) : FldAt := ⟨(STAGE w), 0, 32⟩
def DELIV (w : Nat) : Nat := 0x40060080 + w * 0x4
def DELIV_W (w : Nat) : FldAt := ⟨(DELIV w), 0, 32⟩
def CORECFG (n : Nat) : Nat := 0x40060100 + n * 0x10
def CORECFG_EN (n : Nat) : FldAt := ⟨(CORECFG n), 0, 1⟩
def CORECFG_IEN (n : Nat) : FldAt := ⟨(CORECFG n), 1, 3⟩
def CORECFG_PMIN (n : Nat) : FldAt := ⟨(CORECFG n), 4, 4⟩
def CORECFG_MARK (n : Nat) : FldAt := ⟨(CORECFG n), 8, 6⟩
def CORECFG_WDOG (n : Nat) : FldAt := ⟨(CORECFG n), 16, 16⟩
def CORESTAT (n : Nat) : Nat := 0x40060104 + n * 0x10
def CORESTAT_STATE (n : Nat) : FldAt := ⟨(CORESTAT n), 0, 2⟩
def CORESTAT_DEPTH (n : Nat) : FldAt := ⟨(CORESTAT n), 2, 3⟩
def CORESTAT_OFFER (n : Nat) : FldAt := ⟨(CORESTAT n), 5, 1⟩
def CORESTAT_FCAUSE (n : Nat) : FldAt := ⟨(CORESTAT n), 6, 3⟩
def CORESTAT_KEYBUSY (n : Nat) : FldAt := ⟨(CORESTAT n), 9, 4⟩
def CORESTAT_MKP (n : Nat) : FldAt := ⟨(CORESTAT n), 13, 1⟩
def CORESTAT_DONEIGN (n : Nat) : FldAt := ⟨(CORESTAT n), 16, 8⟩
def CORESTAT_OPREJ (n : Nat) : FldAt := ⟨(CORESTAT n), 24, 8⟩
def LOAD (n : Nat) : Nat := 0x40060108 + n * 0x10
def LOAD_LOAD (n : Nat) : FldAt := ⟨(LOAD n), 0, 16⟩
def LOAD_ITEMS (n : Nat) : FldAt := ⟨(LOAD n), 16, 16⟩
def WAIT (n : Nat) : Nat := 0x4006010C + n * 0x10
def WAIT_WAITMAX (n : Nat) : FldAt := ⟨(WAIT n), 0, 32⟩
def QSTAT (q : Nat) : Nat := 0x40060200 + q * 0x4
def QSTAT_DEPTH (q : Nat) : FldAt := ⟨(QSTAT q), 0, 16⟩
def QSTAT_OLDEST (q : Nat) : FldAt := ⟨(QSTAT q), 16, 16⟩
def HSQCFG (f : Nat) : Nat := 0x40060300 + f * 0x10
def HSQCFG_EN (f : Nat) : FldAt := ⟨(HSQCFG f), 0, 1⟩
def HSQCFG_SZ (f : Nat) : FldAt := ⟨(HSQCFG f), 1, 4⟩
def HSQCFG_ERR (f : Nat) : FldAt := ⟨(HSQCFG f), 5, 1⟩
def HSQBASE (f : Nat) : Nat := 0x40060304 + f * 0x10
def HSQBASE_ADDR (f : Nat) : FldAt := ⟨(HSQBASE f), 6, 26⟩
def HSQIDX (f : Nat) : Nat := 0x40060308 + f * 0x10
def HSQIDX_IDX (f : Nat) : FldAt := ⟨(HSQIDX f), 0, 10⟩
def RPL (k : Nat) : Nat := 0x40060400 + k * 0x4
def RPL_LAST_COS (k : Nat) : FldAt := ⟨(RPL k), 0, 32⟩
def KCOS (k : Nat) : Nat := 0x40060800 + k * 0x4
def KCOS_COS (k : Nat) : FldAt := ⟨(KCOS k), 0, 32⟩
def TRCTL : Nat := 0x40060A00
def TRCTL_EN : FldAt := ⟨TRCTL, 0, 1⟩
def TRCTL_MODE : FldAt := ⟨TRCTL, 1, 1⟩
def TRCTL_FULL : FldAt := ⟨TRCTL, 2, 1⟩
def TRCTL_WPTR : FldAt := ⟨TRCTL, 16, 14⟩
def TRIDX : Nat := 0x40060A04
def TRIDX_IDX : FldAt := ⟨TRIDX, 0, 14⟩
def TRDATA (w : Nat) : Nat := 0x40060A10 + w * 0x4
def TRDATA_W (w : Nat) : FldAt := ⟨(TRDATA w), 0, 32⟩
def TPL (i w : Nat) : Nat := 0x40062000 + i * 0x40 + w * 0x4
def TPL_W (i w : Nat) : FldAt := ⟨(TPL i w), 0, 32⟩
def TPLCFG (i : Nat) : Nat := 0x40063400 + i * 0x4
def TPLCFG_EN (i : Nat) : FldAt := ⟨(TPLCFG i), 0, 1⟩
def TPLCFG_TRIG (i : Nat) : FldAt := ⟨(TPLCFG i), 8, 8⟩
def STGKEY (s w : Nat) : Nat := 0x40064000 + s * 0x40 + w * 0x4
def STGKEY_W (s w : Nat) : FldAt := ⟨(STGKEY s w), 0, 32⟩
def STGID (id w : Nat) : Nat := 0x40068000 + id * 0x40 + w * 0x4
def STGID_W (id w : Nat) : FldAt := ⟨(STGID id w), 0, 32⟩

def table : List RegDesc :=
  [
    ⟨"WSC.CFG", 0x40060000, [], [⟨0, 16, .rw, 1024⟩, ⟨16, 8, .rw, 50⟩, ⟨24, 8, .rw, 10⟩], 0xffffffff, false⟩,
    ⟨"WSC.STAT", 0x40060004, [], [⟨0, 16, .ro, 0x8000⟩], 0x0, false⟩,
    ⟨"WSC.CNT", 0x40060008, [], [⟨0, 8, .rc, 0⟩, ⟨8, 8, .rc, 0⟩, ⟨16, 8, .rc, 0⟩, ⟨24, 8, .rc, 0⟩], 0x0, false⟩,
    ⟨"WSC.COREOP", 0x4006000C, [], [⟨0, 4, .wo, 0⟩, ⟨4, 3, .wo, 0⟩], 0x0, false⟩,
    ⟨"WSC.SUBMIT", 0x40060010, [], [⟨0, 32, .wo, 0⟩], 0x0, false⟩,
    ⟨"WSC.DONE", 0x40060014, [], [⟨0, 32, .wo, 0⟩], 0x0, false⟩,
    ⟨"WSC.CUR", 0x40060018, [], [⟨0, 1, .ro, 0⟩, ⟨1, 1, .ro, 0⟩, ⟨2, 2, .ro, 0⟩, ⟨8, 8, .ro, 0⟩, ⟨16, 16, .ro, 0⟩], 0x0, false⟩,
    ⟨"WSC.CTXOP", 0x4006001C, [], [⟨0, 8, .wo, 0⟩, ⟨8, 2, .wo, 0⟩], 0x0, false⟩,
    ⟨"WSC.STAGE", 0x40060040, [(0x4, 12)], [⟨0, 32, .rw, 0⟩], 0x0, false⟩,
    ⟨"WSC.DELIV", 0x40060080, [(0x4, 16)], [⟨0, 32, .ro, 0⟩], 0x0, false⟩,
    ⟨"WSC.CORECFG", 0x40060100, [(0x10, 16)], [⟨0, 1, .rw, 0⟩, ⟨1, 3, .rw, 0⟩, ⟨4, 4, .rw, 0⟩, ⟨8, 6, .rw, 0⟩, ⟨16, 16, .rw, 0⟩], 0xffff3fff, false⟩,
    ⟨"WSC.CORESTAT", 0x40060104, [(0x10, 16)], [⟨0, 2, .ro, 3⟩, ⟨2, 3, .ro, 0⟩, ⟨5, 1, .ro, 0⟩, ⟨6, 3, .ro, 0⟩, ⟨9, 4, .ro, 0⟩, ⟨13, 1, .w1c, 0⟩, ⟨16, 8, .rc, 0⟩, ⟨24, 8, .rc, 0⟩], 0x0, false⟩ ] ++
  [
    ⟨"WSC.LOAD", 0x40060108, [(0x10, 16)], [⟨0, 16, .ro, 0⟩, ⟨16, 16, .ro, 0⟩], 0x0, false⟩,
    ⟨"WSC.WAIT", 0x4006010C, [(0x10, 16)], [⟨0, 32, .rc, 0⟩], 0x0, false⟩,
    ⟨"WSC.QSTAT", 0x40060200, [(0x4, 25)], [⟨0, 16, .ro, 0⟩, ⟨16, 16, .ro, 0⟩], 0x0, false⟩,
    ⟨"WSC.HSQCFG", 0x40060300, [(0x10, 2)], [⟨0, 1, .rw, 0⟩, ⟨1, 4, .rw, 4⟩, ⟨5, 1, .w1c, 0⟩], 0x1f, false⟩,
    ⟨"WSC.HSQBASE", 0x40060304, [(0x10, 2)], [⟨6, 26, .rw, 0⟩], 0xffffffc0, false⟩,
    ⟨"WSC.HSQIDX", 0x40060308, [(0x10, 2)], [⟨0, 10, .ro, 0⟩], 0x0, false⟩,
    ⟨"WSC.RPL", 0x40060400, [(0x4, 256)], [⟨0, 32, .ro, 0⟩], 0x0, false⟩,
    ⟨"WSC.KCOS", 0x40060800, [(0x4, 64)], [⟨0, 32, .ro, 0⟩], 0x0, false⟩,
    ⟨"WSC.TRCTL", 0x40060A00, [], [⟨0, 1, .rw, 0⟩, ⟨1, 1, .rw, 0⟩, ⟨2, 1, .w1c, 0⟩, ⟨16, 14, .ro, 0⟩], 0x0, false⟩,
    ⟨"WSC.TRIDX", 0x40060A04, [], [⟨0, 14, .rw, 0⟩], 0x0, false⟩,
    ⟨"WSC.TRDATA", 0x40060A10, [(0x4, 4)], [⟨0, 32, .ro, 0⟩], 0x0, false⟩,
    ⟨"WSC.TPL", 0x40062000, [(0x40, 80), (0x4, 12)], [⟨0, 32, .rw, 0⟩], 0xffffffff, false⟩ ] ++
  [
    ⟨"WSC.TPLCFG", 0x40063400, [(0x4, 80)], [⟨0, 1, .rw, 0⟩, ⟨8, 8, .rw, 0⟩], 0xff01, false⟩,
    ⟨"WSC.STGKEY", 0x40064000, [(0x40, 256), (0x4, 16)], [⟨0, 32, .ro, 0⟩], 0x0, false⟩,
    ⟨"WSC.STGID", 0x40068000, [(0x40, 64), (0x4, 16)], [⟨0, 32, .ro, 0⟩], 0x0, false⟩ ]

end WSC

namespace PLT

def CFG : Nat := 0x40070000
def CFG_UETHR : FldAt := ⟨CFG, 0, 4⟩
def CFG_SCRUB : FldAt := ⟨CFG, 8, 16⟩
def BANKOP : Nat := 0x40070004
def BANKOP_BANK : FldAt := ⟨BANKOP, 0, 7⟩
def BANKOP_OP : FldAt := ⟨BANKOP, 8, 2⟩
def BANKOP_BUSY : FldAt := ⟨BANKOP, 16, 1⟩
def BANKOP_REJ : FldAt := ⟨BANKOP, 17, 1⟩
def ERRADDR : Nat := 0x40070008
def ERRADDR_ADDR : FldAt := ⟨ERRADDR, 0, 32⟩
def ERRINFO : Nat := 0x4007000C
def ERRINFO_BANK : FldAt := ⟨ERRINFO, 0, 7⟩
def ERRINFO_SYN : FldAt := ⟨ERRINFO, 8, 8⟩
def ERRINFO_SRC : FldAt := ⟨ERRINFO, 16, 8⟩
def ROT : Nat := 0x40070010
def ROT_R : FldAt := ⟨ROT, 0, 2⟩
def SBSTAT : Nat := 0x40070020
def SBSTAT_WIPING : FldAt := ⟨SBSTAT, 0, 1⟩
def SBSTAT_TAMPER : FldAt := ⟨SBSTAT, 1, 1⟩
def SBSTAT_SEALOK : FldAt := ⟨SBSTAT, 2, 1⟩
def SBSTAT_CAUSE : FldAt := ⟨SBSTAT, 16, 4⟩
def SBSTAT_WIPES : FldAt := ⟨SBSTAT, 24, 8⟩
def SBOP : Nat := 0x40070024
def SBOP_WIPE : FldAt := ⟨SBOP, 0, 1⟩
def LCSTAT : Nat := 0x40070030
def LCSTAT_STATE : FldAt := ⟨LCSTAT, 0, 3⟩
def LCSTAT_BUSY : FldAt := ⟨LCSTAT, 3, 1⟩
def LCSTAT_REJ : FldAt := ⟨LCSTAT, 4, 1⟩
def LCSTAT_PERR : FldAt := ⟨LCSTAT, 5, 1⟩
def LCREQ : Nat := 0x40070034
def LCREQ_TARGET : FldAt := ⟨LCREQ, 0, 3⟩
def LCREQ_CONFIRM : FldAt := ⟨LCREQ, 16, 16⟩
def CLRSTAT : Nat := 0x40070040
def CLRSTAT_DONE : FldAt := ⟨CLRSTAT, 0, 1⟩
def CLRSTAT_TIME : FldAt := ⟨CLRSTAT, 16, 16⟩
def BANKSTAT (b : Nat) : Nat := 0x40070100 + b * 0x4
def BANKSTAT_STATE (b : Nat) : FldAt := ⟨(BANKSTAT b), 0, 2⟩
def BANKSTAT_TSTFAIL (b : Nat) : FldAt := ⟨(BANKSTAT b), 4, 1⟩
def BANKSTAT_CE (b : Nat) : FldAt := ⟨(BANKSTAT b), 8, 8⟩
def BANKSTAT_UE (b : Nat) : FldAt := ⟨(BANKSTAT b), 16, 8⟩
def BANKSTAT_UETOT (b : Nat) : FldAt := ⟨(BANKSTAT b), 24, 4⟩
def IMGCTXOP : Nat := 0x40073F00
def IMGCTXOP_HOLDER : FldAt := ⟨IMGCTXOP, 0, 9⟩
def IMGCTXOP_OP : FldAt := ⟨IMGCTXOP, 9, 2⟩
def LEASESTAT : Nat := 0x40073F04
def LEASESTAT_USED : FldAt := ⟨LEASESTAT, 0, 10⟩
def LEASESTAT_FULLCNT : FldAt := ⟨LEASESTAT, 16, 16⟩
def IMGCFG (i : Nat) : Nat := 0x40074000 + i * 0x40
def IMGCFG_EN (i : Nat) : FldAt := ⟨(IMGCFG i), 0, 1⟩
def IMGCFG_MIRROR (i : Nat) : FldAt := ⟨(IMGCFG i), 1, 1⟩
def IMGCFG_INIT (i : Nat) : FldAt := ⟨(IMGCFG i), 2, 2⟩
def IMGCFG_PUB (i : Nat) : FldAt := ⟨(IMGCFG i), 4, 1⟩
def IMGCFG_TT (i : Nat) : FldAt := ⟨(IMGCFG i), 5, 2⟩
def IMGCFG_MARK (i : Nat) : FldAt := ⟨(IMGCFG i), 7, 4⟩
def IMGCFG_REGION (i : Nat) : FldAt := ⟨(IMGCFG i), 11, 2⟩
def IMGCFG_WRK (i : Nat) : FldAt := ⟨(IMGCFG i), 13, 3⟩
def IMGCFG_WKEY (i : Nat) : FldAt := ⟨(IMGCFG i), 16, 8⟩
def IMGBASE (i : Nat) : Nat := 0x40074004 + i * 0x40
def IMGBASE_ADDR (i : Nat) : FldAt := ⟨(IMGBASE i), 6, 26⟩
def IMGMBASE (i : Nat) : Nat := 0x40074008 + i * 0x40
def IMGMBASE_ADDR (i : Nat) : FldAt := ⟨(IMGMBASE i), 6, 26⟩
def IMGHDR (i : Nat) : Nat := 0x4007400C + i * 0x40
def IMGHDR_ADDR (i : Nat) : FldAt := ⟨(IMGHDR i), 6, 26⟩
def IMGSIZE (i : Nat) : Nat := 0x40074010 + i * 0x40
def IMGSIZE_SIZE (i : Nat) : FldAt := ⟨(IMGSIZE i), 0, 11⟩
def IMGCTL (i : Nat) : Nat := 0x40074014 + i * 0x40
def IMGCTL_READY (i : Nat) : FldAt := ⟨(IMGCTL i), 0, 1⟩
def IMGCTL_CYC (i : Nat) : FldAt := ⟨(IMGCTL i), 16, 16⟩
def IMGSTAT (i : Nat) : Nat := 0x40074018 + i * 0x40
def IMGSTAT_PBUF (i : Nat) : FldAt := ⟨(IMGSTAT i), 0, 2⟩
def IMGSTAT_WBUF (i : Nat) : FldAt := ⟨(IMGSTAT i), 2, 2⟩
def IMGSTAT_READY (i : Nat) : FldAt := ⟨(IMGSTAT i), 4, 1⟩
def IMGSTAT_FILL (i : Nat) : FldAt := ⟨(IMGSTAT i), 5, 1⟩
def IMGSTAT_GEN (i : Nat) : FldAt := ⟨(IMGSTAT i), 16, 16⟩
def LEASE (i : Nat) : Nat := 0x4007401C + i * 0x40
def LEASE_BUF (i : Nat) : FldAt := ⟨(LEASE i), 0, 2⟩
def LEASE_OK (i : Nat) : FldAt := ⟨(LEASE i), 2, 1⟩
def LEASE_NONE (i : Nat) : FldAt := ⟨(LEASE i), 3, 1⟩
def LEASE_FULL (i : Nat) : FldAt := ⟨(LEASE i), 4, 1⟩
def LEASE_GEN (i : Nat) : FldAt := ⟨(LEASE i), 16, 16⟩
def IMGCNT (i : Nat) : Nat := 0x40074020 + i * 0x40
def IMGCNT_OVERRUN (i : Nat) : FldAt := ⟨(IMGCNT i), 0, 8⟩
def IMGCNT_SKIP (i : Nat) : FldAt := ⟨(IMGCNT i), 8, 8⟩
def IMGCNT_LATEWR (i : Nat) : FldAt := ⟨(IMGCNT i), 16, 8⟩
def IMGCNT_MIRHIT (i : Nat) : FldAt := ⟨(IMGCNT i), 24, 8⟩
def IMGLCNT (i : Nat) : Nat := 0x40074024 + i * 0x40
def IMGLCNT_B0 (i : Nat) : FldAt := ⟨(IMGLCNT i), 0, 8⟩
def IMGLCNT_B1 (i : Nat) : FldAt := ⟨(IMGLCNT i), 8, 8⟩
def IMGLCNT_B2 (i : Nat) : FldAt := ⟨(IMGLCNT i), 16, 8⟩

def table : List RegDesc :=
  [
    ⟨"PLT.CFG", 0x40070000, [], [⟨0, 4, .rw, 1⟩, ⟨8, 16, .rw, 60⟩], 0xffff0f, false⟩,
    ⟨"PLT.BANKOP", 0x40070004, [], [⟨0, 7, .wo, 0⟩, ⟨8, 2, .wo, 0⟩, ⟨16, 1, .ro, 0⟩, ⟨17, 1, .w1c, 0⟩], 0x0, false⟩,
    ⟨"PLT.ERRADDR", 0x40070008, [], [⟨0, 32, .ro, 0⟩], 0x0, false⟩,
    ⟨"PLT.ERRINFO", 0x4007000C, [], [⟨0, 7, .ro, 0⟩, ⟨8, 8, .ro, 0⟩, ⟨16, 8, .ro, 0⟩], 0x0, false⟩,
    ⟨"PLT.ROT", 0x40070010, [], [⟨0, 2, .rw, 0⟩], 0x0, false⟩,
    ⟨"PLT.SBSTAT", 0x40070020, [], [⟨0, 1, .ro, 0⟩, ⟨1, 1, .ro, 0⟩, ⟨2, 1, .ro, 0⟩, ⟨16, 4, .ro, 0⟩, ⟨24, 8, .ro, 0⟩], 0x0, false⟩,
    ⟨"PLT.SBOP", 0x40070024, [], [⟨0, 1, .wo, 0⟩], 0x0, false⟩,
    ⟨"PLT.LCSTAT", 0x40070030, [], [⟨0, 3, .ro, 0⟩, ⟨3, 1, .ro, 0⟩, ⟨4, 1, .w1c, 0⟩, ⟨5, 1, .w1c, 0⟩], 0x0, false⟩,
    ⟨"PLT.LCREQ", 0x40070034, [], [⟨0, 3, .wo, 0⟩, ⟨16, 16, .wo, 0⟩], 0x0, false⟩,
    ⟨"PLT.CLRSTAT", 0x40070040, [], [⟨0, 1, .ro, 0⟩, ⟨16, 16, .ro, 0⟩], 0x0, false⟩,
    ⟨"PLT.BANKSTAT", 0x40070100, [(0x4, 98)], [⟨0, 2, .ro, 0⟩, ⟨4, 1, .w1c, 0⟩, ⟨8, 8, .rc, 0⟩, ⟨16, 8, .rc, 0⟩, ⟨24, 4, .ro, 0⟩], 0x0, false⟩,
    ⟨"PLT.IMGCTXOP", 0x40073F00, [], [⟨0, 9, .wo, 0⟩, ⟨9, 2, .wo, 0⟩], 0x0, false⟩ ] ++
  [
    ⟨"PLT.LEASESTAT", 0x40073F04, [], [⟨0, 10, .ro, 0⟩, ⟨16, 16, .rc, 0⟩], 0x0, false⟩,
    ⟨"PLT.IMGCFG", 0x40074000, [(0x40, 256)], [⟨0, 1, .rw, 0⟩, ⟨1, 1, .rw, 0⟩, ⟨2, 2, .rw, 0⟩, ⟨4, 1, .rw, 0⟩, ⟨5, 2, .rw, 0⟩, ⟨7, 4, .rw, 0⟩, ⟨11, 2, .rw, 0⟩, ⟨13, 3, .rw, 0⟩, ⟨16, 8, .rw, 0⟩], 0xffffff, false⟩,
    ⟨"PLT.IMGBASE", 0x40074004, [(0x40, 256)], [⟨6, 26, .rw, 0⟩], 0xffffffc0, false⟩,
    ⟨"PLT.IMGMBASE", 0x40074008, [(0x40, 256)], [⟨6, 26, .rw, 0⟩], 0xffffffc0, false⟩,
    ⟨"PLT.IMGHDR", 0x4007400C, [(0x40, 256)], [⟨6, 26, .rw, 0⟩], 0xffffffc0, false⟩,
    ⟨"PLT.IMGSIZE", 0x40074010, [(0x40, 256)], [⟨0, 11, .rw, 1⟩], 0x7ff, false⟩,
    ⟨"PLT.IMGCTL", 0x40074014, [(0x40, 256)], [⟨0, 1, .wo, 0⟩, ⟨16, 16, .wo, 0⟩], 0x0, false⟩,
    ⟨"PLT.IMGSTAT", 0x40074018, [(0x40, 256)], [⟨0, 2, .ro, 0⟩, ⟨2, 2, .ro, 1⟩, ⟨4, 1, .ro, 0⟩, ⟨5, 1, .ro, 0⟩, ⟨16, 16, .ro, 0⟩], 0x0, false⟩,
    ⟨"PLT.LEASE", 0x4007401C, [(0x40, 256)], [⟨0, 2, .ro, 0⟩, ⟨2, 1, .ro, 0⟩, ⟨3, 1, .ro, 0⟩, ⟨4, 1, .ro, 0⟩, ⟨16, 16, .ro, 0⟩], 0x0, false⟩,
    ⟨"PLT.IMGCNT", 0x40074020, [(0x40, 256)], [⟨0, 8, .rc, 0⟩, ⟨8, 8, .rc, 0⟩, ⟨16, 8, .rc, 0⟩, ⟨24, 8, .rc, 0⟩], 0x0, false⟩,
    ⟨"PLT.IMGLCNT", 0x40074024, [(0x40, 256)], [⟨0, 8, .ro, 0⟩, ⟨8, 8, .ro, 0⟩, ⟨16, 8, .ro, 0⟩], 0x0, false⟩ ]

end PLT

namespace MBUS

def CTL (n : Nat) : Nat := 0x400B0000 + n * 0x1000
def CTL_EN (n : Nat) : FldAt := ⟨(CTL n), 0, 1⟩
def CTL_FD (n : Nat) : FldAt := ⟨(CTL n), 1, 1⟩
def CTL_PXE (n : Nat) : FldAt := ⟨(CTL n), 2, 1⟩
def CTL_ONESHOT (n : Nat) : FldAt := ⟨(CTL n), 3, 1⟩
def CTL_ROM (n : Nat) : FldAt := ⟨(CTL n), 4, 1⟩
def CTL_MON (n : Nat) : FldAt := ⟨(CTL n), 5, 1⟩
def CTL_TXSEL (n : Nat) : FldAt := ⟨(CTL n), 6, 1⟩
def CTL_BOREC (n : Nat) : FldAt := ⟨(CTL n), 7, 1⟩
def STAT (n : Nat) : Nat := 0x400B0004 + n * 0x1000
def STAT_STATE (n : Nat) : FldAt := ⟨(STAT n), 0, 3⟩
def STAT_CFGERR (n : Nat) : FldAt := ⟨(STAT n), 3, 1⟩
def STAT_TDCV (n : Nat) : FldAt := ⟨(STAT n), 8, 8⟩
def NBT (n : Nat) : Nat := 0x400B0008 + n * 0x1000
def NBT_BRP (n : Nat) : FldAt := ⟨(NBT n), 0, 8⟩
def NBT_TSEG1 (n : Nat) : FldAt := ⟨(NBT n), 8, 8⟩
def NBT_TSEG2 (n : Nat) : FldAt := ⟨(NBT n), 16, 7⟩
def NBT_SJW (n : Nat) : FldAt := ⟨(NBT n), 23, 7⟩
def DBT (n : Nat) : Nat := 0x400B000C + n * 0x1000
def DBT_BRP (n : Nat) : FldAt := ⟨(DBT n), 0, 5⟩
def DBT_TSEG1 (n : Nat) : FldAt := ⟨(DBT n), 5, 5⟩
def DBT_TSEG2 (n : Nat) : FldAt := ⟨(DBT n), 10, 4⟩
def DBT_SJW (n : Nat) : FldAt := ⟨(DBT n), 14, 4⟩
def DBT_TDC (n : Nat) : FldAt := ⟨(DBT n), 18, 1⟩
def DBT_TDCO (n : Nat) : FldAt := ⟨(DBT n), 19, 7⟩
def ERRC (n : Nat) : Nat := 0x400B0010 + n * 0x1000
def ERRC_TEC (n : Nat) : FldAt := ⟨(ERRC n), 0, 8⟩
def ERRC_REC (n : Nat) : FldAt := ⟨(ERRC n), 8, 7⟩
def ERRC_RP (n : Nat) : FldAt := ⟨(ERRC n), 15, 1⟩
def ERRC_LEC (n : Nat) : FldAt := ⟨(ERRC n), 16, 3⟩
def ERRC_PXCNT (n : Nat) : FldAt := ⟨(ERRC n), 24, 8⟩
def IE (n : Nat) : Nat := 0x400B0014 + n * 0x1000
def IE_RXNE (n : Nat) : FldAt := ⟨(IE n), 0, 1⟩
def IE_TXDONE (n : Nat) : FldAt := ⟨(IE n), 1, 1⟩
def IE_RXOVF (n : Nat) : FldAt := ⟨(IE n), 2, 1⟩
def IE_ESTATE (n : Nat) : FldAt := ⟨(IE n), 3, 1⟩
def IE_WARN (n : Nat) : FldAt := ⟨(IE n), 4, 1⟩
def EVT (n : Nat) : Nat := 0x400B0018 + n * 0x1000
def EVT_RXNE (n : Nat) : FldAt := ⟨(EVT n), 0, 1⟩
def EVT_TXDONE (n : Nat) : FldAt := ⟨(EVT n), 1, 1⟩
def EVT_RXOVF (n : Nat) : FldAt := ⟨(EVT n), 2, 1⟩
def EVT_ESTATE (n : Nat) : FldAt := ⟨(EVT n), 3, 1⟩
def EVT_WARN (n : Nat) : FldAt := ⟨(EVT n), 4, 1⟩
def CNT (n : Nat) : Nat := 0x400B001C + n * 0x1000
def CNT_CNT (n : Nat) : FldAt := ⟨(CNT n), 0, 32⟩
def RXCTL (n : Nat) : Nat := 0x400B0020 + n * 0x1000
def RXCTL_AUTOPOP (n : Nat) : FldAt := ⟨(RXCTL n), 0, 1⟩
def RXSTAT (n : Nat) : Nat := 0x400B0024 + n * 0x1000
def RXSTAT_LEVEL (n : Nat) : FldAt := ⟨(RXSTAT n), 0, 7⟩
def RXSTAT_OVF (n : Nat) : FldAt := ⟨(RXSTAT n), 8, 8⟩
def RXSTAT_POPCNT (n : Nat) : FldAt := ⟨(RXSTAT n), 16, 16⟩
def OP (n : Nat) : Nat := 0x400B0028 + n * 0x1000
def OP_POP (n : Nat) : FldAt := ⟨(OP n), 0, 1⟩
def OP_RECOVER (n : Nat) : FldAt := ⟨(OP n), 1, 1⟩
def OP_LRST (n : Nat) : FldAt := ⟨(OP n), 2, 1⟩
def FILT (n f : Nat) : Nat := 0x400B0040 + n * 0x1000 + f * 0x8
def FILT_ID (n f : Nat) : FldAt := ⟨(FILT n f), 0, 29⟩
def FILT_IDE (n f : Nat) : FldAt := ⟨(FILT n f), 29, 1⟩
def FILT_EN (n f : Nat) : FldAt := ⟨(FILT n f), 31, 1⟩
def FMSK (n f : Nat) : Nat := 0x400B0044 + n * 0x1000 + f * 0x8
def FMSK_MSK (n f : Nat) : FldAt := ⟨(FMSK n f), 0, 29⟩
def TXID (n b : Nat) : Nat := 0x400B0100 + n * 0x1000 + b * 0x80
def TXID_ID (n b : Nat) : FldAt := ⟨(TXID n b), 0, 29⟩
def TXID_IDE (n b : Nat) : FldAt := ⟨(TXID n b), 29, 1⟩
def TXID_RTR (n b : Nat) : FldAt := ⟨(TXID n b), 30, 1⟩
def TXID_FDF (n b : Nat) : FldAt := ⟨(TXID n b), 31, 1⟩
def TXFMT (n b : Nat) : Nat := 0x400B0104 + n * 0x1000 + b * 0x80
def TXFMT_DLC (n b : Nat) : FldAt := ⟨(TXFMT n b), 0, 4⟩
def TXFMT_BRS (n b : Nat) : FldAt := ⟨(TXFMT n b), 4, 1⟩
def TXCTL (n b : Nat) : Nat := 0x400B0108 + n * 0x1000 + b * 0x80
def TXCTL_REQ (n b : Nat) : FldAt := ⟨(TXCTL n b), 0, 1⟩
def TXCTL_ABORT (n b : Nat) : FldAt := ⟨(TXCTL n b), 1, 1⟩
def TXSTAT (n b : Nat) : Nat := 0x400B010C + n * 0x1000 + b * 0x80
def TXSTAT_STATE (n b : Nat) : FldAt := ⟨(TXSTAT n b), 0, 2⟩
def TXSTAT_CAUSE (n b : Nat) : FldAt := ⟨(TXSTAT n b), 2, 3⟩
def TXSTAT_REQIGN (n b : Nat) : FldAt := ⟨(TXSTAT n b), 8, 8⟩
def TXSTAT_TXCNT (n b : Nat) : FldAt := ⟨(TXSTAT n b), 16, 16⟩
def TXSTAMP (n b : Nat) : Nat := 0x400B0110 + n * 0x1000 + b * 0x80
def TXSTAMP_T (n b : Nat) : FldAt := ⟨(TXSTAMP n b), 0, 32⟩
def TXD (n b w : Nat) : Nat := 0x400B0120 + n * 0x1000 + b * 0x80 + w * 0x4
def TXD_W (n b w : Nat) : FldAt := ⟨(TXD n b w), 0, 32⟩
def RXID (n : Nat) : Nat := 0x400B0300 + n * 0x1000
def RXID_ID (n : Nat) : FldAt := ⟨(RXID n), 0, 29⟩
def RXID_IDE (n : Nat) : FldAt := ⟨(RXID n), 29, 1⟩
def RXID_RTR (n : Nat) : FldAt := ⟨(RXID n), 30, 1⟩
def RXID_FDF (n : Nat) : FldAt := ⟨(RXID n), 31, 1⟩
def RXFMT (n : Nat) : Nat := 0x400B0304 + n * 0x1000
def RXFMT_DLC (n : Nat) : FldAt := ⟨(RXFMT n), 0, 4⟩
def RXFMT_BRS (n : Nat) : FldAt := ⟨(RXFMT n), 4, 1⟩
def RXFMT_ESI (n : Nat) : FldAt := ⟨(RXFMT n), 5, 1⟩
def RXFMT_FILT (n : Nat) : FldAt := ⟨(RXFMT n), 8, 4⟩
def RXFMT_LEN (n : Nat) : FldAt := ⟨(RXFMT n), 16, 7⟩
def RXSTAMP (n : Nat) : Nat := 0x400B0308 + n * 0x1000
def RXSTAMP_T (n : Nat) : FldAt := ⟨(RXSTAMP n), 0, 32⟩
def RXD (n w : Nat) : Nat := 0x400B0310 + n * 0x1000 + w * 0x4
def RXD_W (n w : Nat) : FldAt := ⟨(RXD n w), 0, 32⟩

def table : List RegDesc :=
  [
    ⟨"MBUS.CTL", 0x400B0000, [(0x1000, 8)], [⟨0, 1, .rw, 0⟩, ⟨1, 1, .rw, 0⟩, ⟨2, 1, .rw, 0⟩, ⟨3, 1, .rw, 0⟩, ⟨4, 1, .rw, 0⟩, ⟨5, 1, .rw, 0⟩, ⟨6, 1, .rw, 0⟩, ⟨7, 1, .rw, 0⟩], 0xff, true⟩,
    ⟨"MBUS.STAT", 0x400B0004, [(0x1000, 8)], [⟨0, 3, .ro, 0⟩, ⟨3, 1, .w1c, 0⟩, ⟨8, 8, .ro, 0⟩], 0x0, false⟩,
    ⟨"MBUS.NBT", 0x400B0008, [(0x1000, 8)], [⟨0, 8, .rw, 9⟩, ⟨8, 8, .rw, 78⟩, ⟨16, 7, .rw, 19⟩, ⟨23, 7, .rw, 19⟩], 0x3fffffff, true⟩,
    ⟨"MBUS.DBT", 0x400B000C, [(0x1000, 8)], [⟨0, 5, .rw, 19⟩, ⟨5, 5, .rw, 18⟩, ⟨10, 4, .rw, 4⟩, ⟨14, 4, .rw, 4⟩, ⟨18, 1, .rw, 0⟩, ⟨19, 7, .rw, 0⟩], 0x3ffffff, true⟩,
    ⟨"MBUS.ERRC", 0x400B0010, [(0x1000, 8)], [⟨0, 8, .ro, 0⟩, ⟨8, 7, .ro, 0⟩, ⟨15, 1, .ro, 0⟩, ⟨16, 3, .ro, 0⟩, ⟨24, 8, .rc, 0⟩], 0x0, false⟩,
    ⟨"MBUS.IE", 0x400B0014, [(0x1000, 8)], [⟨0, 1, .rw, 0⟩, ⟨1, 1, .rw, 0⟩, ⟨2, 1, .rw, 0⟩, ⟨3, 1, .rw, 0⟩, ⟨4, 1, .rw, 0⟩], 0x0, false⟩,
    ⟨"MBUS.EVT", 0x400B0018, [(0x1000, 8)], [⟨0, 1, .w1c, 0⟩, ⟨1, 1, .w1c, 0⟩, ⟨2, 1, .w1c, 0⟩, ⟨3, 1, .w1c, 0⟩, ⟨4, 1, .w1c, 0⟩], 0x0, false⟩,
    ⟨"MBUS.CNT", 0x400B001C, [(0x1000, 8)], [⟨0, 32, .ro, 0⟩], 0x0, false⟩,
    ⟨"MBUS.RXCTL", 0x400B0020, [(0x1000, 8)], [⟨0, 1, .rw, 0⟩], 0x0, false⟩,
    ⟨"MBUS.RXSTAT", 0x400B0024, [(0x1000, 8)], [⟨0, 7, .ro, 0⟩, ⟨8, 8, .rc, 0⟩, ⟨16, 16, .ro, 0⟩], 0x0, false⟩,
    ⟨"MBUS.OP", 0x400B0028, [(0x1000, 8)], [⟨0, 1, .wo, 0⟩, ⟨1, 1, .wo, 0⟩, ⟨2, 1, .wo, 0⟩], 0x0, false⟩,
    ⟨"MBUS.FILT", 0x400B0040, [(0x1000, 8), (0x8, 16)], [⟨0, 29, .rw, 0⟩, ⟨29, 1, .rw, 0⟩, ⟨31, 1, .rw, 0⟩], 0xbfffffff, true⟩ ] ++
  [
    ⟨"MBUS.FMSK", 0x400B0044, [(0x1000, 8), (0x8, 16)], [⟨0, 29, .rw, 0⟩], 0x1fffffff, true⟩,
    ⟨"MBUS.TXID", 0x400B0100, [(0x1000, 8), (0x80, 3)], [⟨0, 29, .rw, 0⟩, ⟨29, 1, .rw, 0⟩, ⟨30, 1, .rw, 0⟩, ⟨31, 1, .rw, 0⟩], 0x0, false⟩,
    ⟨"MBUS.TXFMT", 0x400B0104, [(0x1000, 8), (0x80, 3)], [⟨0, 4, .rw, 0⟩, ⟨4, 1, .rw, 0⟩], 0x0, false⟩,
    ⟨"MBUS.TXCTL", 0x400B0108, [(0x1000, 8), (0x80, 3)], [⟨0, 1, .wo, 0⟩, ⟨1, 1, .wo, 0⟩], 0x0, false⟩,
    ⟨"MBUS.TXSTAT", 0x400B010C, [(0x1000, 8), (0x80, 3)], [⟨0, 2, .ro, 0⟩, ⟨2, 3, .ro, 0⟩, ⟨8, 8, .rc, 0⟩, ⟨16, 16, .ro, 0⟩], 0x0, false⟩,
    ⟨"MBUS.TXSTAMP", 0x400B0110, [(0x1000, 8), (0x80, 3)], [⟨0, 32, .ro, 0⟩], 0x0, false⟩,
    ⟨"MBUS.TXD", 0x400B0120, [(0x1000, 8), (0x80, 3), (0x4, 16)], [⟨0, 32, .rw, 0⟩], 0x0, false⟩,
    ⟨"MBUS.RXID", 0x400B0300, [(0x1000, 8)], [⟨0, 29, .ro, 0⟩, ⟨29, 1, .ro, 0⟩, ⟨30, 1, .ro, 0⟩, ⟨31, 1, .ro, 0⟩], 0x0, false⟩,
    ⟨"MBUS.RXFMT", 0x400B0304, [(0x1000, 8)], [⟨0, 4, .ro, 0⟩, ⟨4, 1, .ro, 0⟩, ⟨5, 1, .ro, 0⟩, ⟨8, 4, .ro, 0⟩, ⟨16, 7, .ro, 0⟩], 0x0, false⟩,
    ⟨"MBUS.RXSTAMP", 0x400B0308, [(0x1000, 8)], [⟨0, 32, .ro, 0⟩], 0x0, false⟩,
    ⟨"MBUS.RXD", 0x400B0310, [(0x1000, 8), (0x4, 16)], [⟨0, 32, .ro, 0⟩], 0x0, false⟩ ]

end MBUS
end Sys2Proof.Machine
end

