-- ==== Sys2Proof/Machine/RegMap.lean ====
section
/-! DEFINITION. The register block at an internal address (Table 1.16) and the reset value of every register word. -/
namespace Sys2Proof.Machine

/-- The register table of the block that holds the 64 KiB slot of address `a` (R39). -/
def blockTable (a : Nat) : Option (List RegDesc) :=
  let b := a / 0x10000
  if b = 0x4000 then some SYS.table
  else if b = 0x4001 then some MBX.table
  else if b = 0x4002 then some SW.table
  else if b = 0x4003 then some TMU.table
  else if b = 0x4004 then some RUL.table
  else if b = 0x4005 then some LPE.table
  else if b = 0x4006 then some WSC.table
  else if b = 0x4007 then some PLT.table
  else if b = 0x4008 then some FLT.table
  else if b = 0x4009 then some OBS.table
  else if b = 0x400A then some PCI.table
  else if b = 0x400B then some MBUS.table
  else if b = 0x400C then some NMG.table
  else if 0x4010 ≤ b ∧ b < 0x4020 then some PORT.table
  else if 0x4020 ≤ b ∧ b < 0x4028 then some CC.table
  else if 0x4030 ≤ b ∧ b < 0x4034 then some DM.table
  else if b = 0x4040 then some (WAKE.table ++ BRN.table ++ PHYA.table)
  else none

/-- The register at word address `a`; none for an unassigned offset (R11). -/
def regAt (a : Nat) : Option RegDesc :=
  match blockTable a with
  | none => none
  | some t => findReg t a

/-- Reset values that depend on the copy: PORT.HDX.SEED (Table 7.11), SW.REDPr with r = 15 and SW.PCFGp.LEARN
(Tables 8.9, 8.10), RUL.DALn (Table 10.9), CC.THKEY (Table 5.18: the thread key), MBX.CHCFG rows have none. -/
def resetByCopy (a : Nat) : Option Nat :=
  let b := a / 0x10000
  if 0x4010 ≤ b ∧ b < 0x4020 ∧ a % 0x10000 = 0xC then some (0x5A00 + (b - 0x4010))
  else if a = SW.REDP0 15 then some 0
  else if SW.PCFG 0 ≤ a ∧ a < SW.PCFG 22 ∧ (a - SW.PCFG 0) % 0x10 = 0 then
    some (if (a - SW.PCFG 0) / 0x10 ≤ 15 then 0x18001 else 0x10001)
  else if RUL.DAL 0 ≤ a ∧ a < RUL.DAL 4 ∧ (a - RUL.DAL 0) % 0x100 = 0 then
    some (0x5A510000 + (a - RUL.DAL 0) / 0x100)
  else if 0x4020 ≤ b ∧ b < 0x4028 ∧ 0x1110 ≤ a % 0x10000 ∧ a % 0x10000 < 0x4000 ∧ a % 0x80 = 0x10
      ∧ 0x100 ≤ a % 0x1000 ∧ a % 0x1000 < 0x500 then
    some (((b - 0x4020) * 3 + (a % 0x10000 / 0x1000 - 1)) * 8 + (a % 0x1000 - 0x100) / 0x80)
  else none

/-- Bits that are RO in single copies of a register: LEARN and PAIR of SW.PCFGp (Table 8.10). -/
def copyRo (a : Nat) : Nat :=
  if SW.PCFG 0 ≤ a ∧ a < SW.PCFG 22 ∧ (a - SW.PCFG 0) % 0x10 = 0 then
    let p := (a - SW.PCFG 0) / 0x10
    (if 16 ≤ p then 0x8000 else 0) + (if [0, 2, 4, 6, 12, 14].contains p then 0 else 0x60000)
  else 0

/-- What a write of `v` makes of the word `old` at `a` with fields `fs`. -/
def wordWrite (a : Nat) (fs : List Fld) (old v : Nat) : Nat :=
  let ro := copyRo a
  fldsWrite fs old (v - (v &&& ro) + (old &&& ro))

/-- Reset value of the register word at `a`; 0 at an unassigned offset (R11). -/
def resetWord (a : Nat) : Word :=
  match resetByCopy a with
  | some v => BitVec.ofNat 32 v
  | none =>
    match regAt a with
    | some d => BitVec.ofNat 32 (fldsReset d.flds)
    | none => 0

end Sys2Proof.Machine
end

