-- ==== Sys2Proof/Machine/State.lean ====
section
/-! DEFINITION. The state of the block as plain data, the reasons a step can stop, and the state after reset.
Registers live in `regs`, one word per address; what is no register has a field or a record of its own. -/
namespace Sys2Proof.Machine

/-- Why a command stops with a fault. -/
inductive Fault where
  /-- Raised by no command: the type has to have a name in it, and every operand ranges over what the part has. What the spec
  calls an error is a response, a record of the fault hub or an exception, and the block goes on. Safe. -/
  | noSuchUnit
deriving DecidableEq, Repr

/-- Why a command is refused. -/
inductive Refusal where
  /-- Raised by no command: every row of the table has its meaning. Safe. -/
  | notModelled (mnemonic : String)
deriving DecidableEq, Repr

/-- A posted store without a response (R124): the address of its first byte, its bytes, what hardware attached. -/
structure Posted where
  addr : Nat
  data : List Byte
  rq : Rq
deriving DecidableEq, Repr

/-- The architectural state of one hardware thread or core (Table 4.1): g1–g15 (unlisted reads 0), PC, the
special registers, the tick of its clock that its CYC count started at, posted stores (oldest first), imprecise Bus Error found and not
taken (address, code; oldest first), between a REP and its first iteration (R130), waiting in WFE, stopped by a Double Fault (R134). -/
structure Core where
  g : List (Nat × Word)
  pc : Word
  rc : Word
  sl : Word
  ectl : Word
  estat : Word
  eaddr : Word
  evb : Word
  cpcfg : Word
  cpoly : List (Nat × Word)
  fcsr : Word
  kwin : Word
  cyc0 : Nat
  cychi : Word
  mpu : List (Nat × Word)
  posted : List Posted
  imp : List (Nat × Nat)
  repFresh : Bool
  wfe : Bool
  dead : Bool
deriving DecidableEq, Repr

/-- An operation at an engine's checkpoint unit (R161, R162, R166): thread, RESTORE or CKPT, whether a CKPT has captured; the PEND value
written with a RESTORE; of a CKPT the tag, and what its capture latched: half written, header bytes, slots that were pending or have fired since;
tick of issue. -/
structure CkOp where
  th : Nat
  restore : Bool
  cap : Bool
  pend : Nat
  tag : Nat
  half : Nat
  hdr : List Byte
  seen : Nat
  at_ : Nat
deriving DecidableEq, Repr

/-- A credit pool (R31, R34): credits held by the producer and the lowest number since LOW was read. -/
structure Credit where
  avail : Nat
  low : Nat
deriving DecidableEq, Repr

/-- The lanes of the die link (R465): the failed lane that the spare is being trained for, and the errors of the last WIN ms, each with its lane and
tick. -/
structure LaneSt where
  spare : Option Nat
  errs : List (Nat × Nat)
deriving DecidableEq, Repr

/-- One direction of the die link (R28): the sequence number the receiver accepts next, whether a replay from it has been asked for, and the
sender's retry buffer: the flits sent from that number on, oldest first. -/
structure LinkDir where
  rxSeq : Nat
  replay : Bool
  buf : List (List Byte)
deriving DecidableEq, Repr

/-- A pending release of a mailbox slot (R86, R89): held until the checkpoint of `key`, or released. -/
structure SlotRel where
  held : Bool
  key : Nat
deriving DecidableEq, Repr

/-- A notice of the fault hub (R453): unit, code, class (0 Contained, 1 Recoverable, 2 Reported, 3 Fatal). -/
structure Notice where
  unit : Nat
  code : Nat
  cls : Nat
deriving DecidableEq, Repr

/-- The response of a request: code of Table 1.17 and read data. -/
structure Resp where
  code : Nat
  data : List Byte
deriving DecidableEq, Repr

/-- A Feholt event that waits to be posted (R68): opcode, tag, status, payload. -/
structure FEvent where
  opcode : Nat
  tag : Nat
  status : Nat
  payload : List Byte
deriving DecidableEq, Repr

/-- A message that waits for a slot of its reply channel (R67): opcode, tag, sequence number, status, detail, payload. -/
structure FMsg where
  opcode : Nat
  tag : Nat
  seq : Nat
  status : Nat
  detail : Nat
  payload : List Byte
deriving DecidableEq, Repr

/-- A Feholt session (R61, R66–R68, R71, R73–R75, R79): open, minor version, command credits, keepalive interval in ms,
event mask, next command sequence, next reply sequence, sender epoch recorded at SESSION_OPEN, queued events, dropped events, messages
that wait for a slot. -/
structure Session where
  isOpen : Bool
  minor : Nat
  credits : Nat
  keepalive : Nat
  mask : Nat
  cmdSeq : Nat
  repSeq : Nat
  epoch : Nat
  events : List FEvent
  dropped : Nat
  waiting : List FMsg
deriving DecidableEq, Repr

/-- The time unit (R263–R272): seconds (48 bits), the part below a second and the remaining phase in units of 2⁻⁴⁸ ns,
magnitude of the value last written to PHASE, latches of seconds and fraction by master identity (R265), capture
queues by pin, oldest first, as (nanoseconds, seconds) (R284). -/
structure TimeUnit where
  sec : Nat
  sub : Nat
  rem : Int
  lastPhase : Nat
  latch : List (Nat × Nat × Nat)
  cap : List (Nat × List (Nat × Nat))
deriving DecidableEq, Repr

/-- R266. -/
def TimeUnit.reset : TimeUnit := ⟨0, 0, 0, 0, [], []⟩

/-- Status of a PCIe completion (Table 1.17). -/
inductive CplStatus where
  | successful
  | unsupportedRequest
  | completerAbort
deriving DecidableEq, Repr

/-- What leaves the block. -/
inductive Output where
  /-- MSI-X message of vector `v` of function `f` (R55, R58). -/
  | msix (f v : Nat)
  /-- Frame sent on an external port, bytes from the destination address to the FCS. -/
  | frame (port : Nat) (bytes : List Byte)
  /-- Jam of a collision on an external port: 32 bits (R208). -/
  | jam (port : Nat)
  /-- BEACON of a PLCA coordinator (R211). -/
  | beacon (port : Nat)
  /-- Die-link flits replayed from a sequence number (R28). -/
  | replay (dir seq : Nat)
  /-- PCIe completion of function `f` (R41, R49): Successful Completion, Unsupported Request or Completer Abort; poisoned; data. -/
  | completion (f : Nat) (status : CplStatus) (poisoned : Bool) (bytes : List Byte)
  /-- Value a request of identity `id` is answered with, when several meet (R44). -/
  | answer (id value : Nat)
  /-- Response of one of several requests that meet (R44): attached identity, code, bytes. -/
  | response (id code : Nat) (bytes : List Byte)
  /-- Frame sent by message-bus controller `k`: TXID word, TXFMT word with ESI in bit 5, data, stuff count field (0 in a classical frame), CRC
  (R365). -/
  | canFrame (k id fmt : Nat) (data : List Byte) (stuff crc : Nat)
  /-- Acknowledge bit that message-bus controller `k` sends in a frame it receives (R373). -/
  | canAck (k : Nat)
  /-- Level of an output pin. -/
  | pin (name : String) (level : Nat)
deriving DecidableEq, Repr

/-- A stretch of a Burin bit clock with one divisor (R175): tick and `acc` at its start, divisor (at least 0x400),
prescaler, lead ticks up to and with its start. -/
structure BClk where
  t : Nat
  acc : Nat
  d : Nat
  pre : Nat
  leads : Nat
deriving DecidableEq, Repr

/-- What a Burin engine holds beside its registers (R174–R192): the shift running (0 none, 1 out, 2 in, 3 both), whether it ends early on
a match, an automatic PUSH and a PULL at a bit's end that are due, whether the bit matched; how far the bit period is (0 before its sample
point, 1 sampled, 2 ended but for refills), the number of the lead tick that starts it, whether a stall has begun in it, the number of the
lead tick at which a data stall began; a shift that runs in an engine else halted (R191), the wait of the sequencer (1 none, 2, 3 data
stall), last data-out level, GPIO-out levels by slot, pins undriven since a local reset, STOP pending, the lead tick a WAITT started at, the
injected word pending and the lead tick its wait started at, pin levels at the last halt with an error (R186), the bit clock (newest
first). -/
structure Burin where
  kind : Nat
  early : Bool
  held : Bool
  want : Bool
  matched : Bool
  phase : Nat
  due : Nat
  late : Bool
  stall : Option Nat
  alone : Bool
  seq : Nat
  dout : Bool
  gpio : Nat
  undriven : Bool
  stop : Bool
  waitFrom : Option Nat
  inj : Option Word
  injWait : Option Nat
  safe : Nat
  clk : List BClk
deriving DecidableEq, Repr

/-- A Burin engine after reset. DESIGN CHOICE: a data-out pin is low before the first bit and a GPIO-out pin before the first SET, since R176 names
no level (log 30). -/
def Burin.reset : Burin :=
  { kind := 0, early := false, held := false, want := false, matched := false, phase := 0, due := 0, late := false, stall := none,
    alone := false, seq := 1, dout := false, gpio := 0, undriven := false, stop := false, waitFrom := none, inj := none,
    injWait := none, safe := 0, clk := [⟨0, 0, 0x400, 0, 0⟩] }

/-- What the synchronisers of a cluster's pins hold (R177): the BCLK edge at which CC.PINLVL was told, and for the last three edges, newest first,
the pins that the block drove into the edge, as a mask, and their levels. -/
structure PinSync where
  told : Option Nat
  hist : List (Nat × Nat)
deriving DecidableEq, Repr

/-- A Stipple monitor (R515): MIN, MAX, SUM, COUNT, bins by index (unlisted 0). -/
structure Mon where
  mn : Nat
  mx : Nat
  sum : Nat
  cnt : Nat
  bins : List (Nat × Nat)
deriving DecidableEq, Repr

/-- A monitor without a sample (R516). -/
def Mon.empty : Mon := ⟨0xFFFFFFFF, 0, 0, 0, []⟩

/-- The impression being written after a boundary (R509, R511): epoch number, start and end (ns, seconds), cycle number,
flags, counters, monitors with the configuration in force. -/
structure Shadow where
  epoch : Nat
  startNs : Nat
  startSec : Nat
  endNs : Nat
  endSec : Nat
  cycle : Nat
  flags : Nat
  cnt : List (Nat × Nat)
  mon : List (Nat × Mon)
  cfg : List (Nat × Nat × Nat)
deriving DecidableEq, Repr

/-- The impression and epoch state (R508–R516): live counters, carried remainders of coarse counters, live monitors, monitor
configuration in force (STPCFG, STPLO), flags of the current epoch, network time it started at, the shadow while its slot
is written, a boundary that waits for that, the impressions held by slot. -/
structure Obs where
  cnt : List (Nat × Nat)
  part : List (Nat × Nat)
  mon : List (Nat × Mon)
  cfg : List (Nat × Nat × Nat)
  flags : Nat
  startNs : Nat
  startSec : Nat
  shadow : Option Shadow
  deferred : Bool
  imp : List (Nat × Shadow)
deriving DecidableEq, Repr

/-- The impression state after reset. -/
def Obs.reset : Obs := ⟨[], [], [], [], 0, 0, 0, none, false, []⟩

/-- An armed trigger (R285): mode 2 or 3, start in ns of network time, period, width, at its active level. -/
structure Trig where
  mode : Nat
  start : Nat
  period : Nat
  width : Nat
  active : Bool
deriving DecidableEq, Repr

/-- A process image beside its registers (R320–R336): GEN, overruns since EN was set, network time READY was set at (R515),
network time of the last IMAGE_OVERRUN event. -/
structure ImgSt where
  gen : Nat
  overruns : Nat
  readyAt : Nat
  told : Option Nat
deriving DecidableEq, Repr

/-- A lease (R330): image, holder (replay key, or 0x100 + identity), buffer. -/
structure Lease where
  img : Nat
  holder : Nat
  buf : Nat
  who : Nat
deriving DecidableEq, Repr

/-- A frame in the switch, or a copy of it: bytes from the destination address to the last byte before the FCS; length L with
FCS (R234); ingress switch port; ingress time in 2⁻¹⁶ ns; RXST; outer VLAN tag present on ingress; VID, PCP, colour (0 green,
1 yellow, 2 red); stream index; transmit record (empty on a received frame); launch time and reference time in ns; cut-through
copy; marked bad at its end, cut by a guardian, to be ended with a forced bad FCS; steps of the network time before its ingress
(Table 9.3); colours of the segments of a large send (R217); next segment of a large send; cells held; leaves tagged; HSR tag (1) or PRP trailer
(2) to add with its sequence number, and that the pair edit strips a tag. -/
structure Frame where
  bytes : List Byte
  len : Nat
  port : Nat
  at_ : Nat
  rxst : Nat
  tagIn : Bool
  vid : Nat
  pcp : Nat
  colour : Nat
  stream : Option Nat
  txrec : List Byte
  launch : Option Nat
  tref : Nat
  ct : Bool
  bad : Bool
  cut : Bool
  epoch : Nat
  cols : List Nat
  seg : Nat
  cells : Nat
  tagOut : Bool
  pairTag : Nat
  pairSeq : Nat
deriving DecidableEq, Repr

/-- Duplicate state of R246: valid, recovered sequence number, history, ms of the last acceptance. -/
structure Dup where
  valid : Bool
  rsn : Nat
  hist : Nat
  last : Nat
deriving DecidableEq, Repr

/-- An entry of the node table (R249): source MAC, pair, duplicate state towards the other switch ports, of the even and of the
odd pair port, ms of the last frame. -/
structure NodeEnt where
  mac : Nat
  pair : Nat
  dup : Dup
  sentEven : Dup
  sentOdd : Dup
  seen : Nat
deriving DecidableEq, Repr

/-- A port beside its registers: LFSR value and the tick it was taken at (R209), collisions of the frame in transmission,
back-off slots it waits, frames received and waiting for the pipeline, the class and copy handed to the MAC, the
time-stamp queue as (tag, ns, seconds), oldest first; a change of EN or MODE that waits (R202); the egress time fixed for the copy (R277),
whether the medium delayed it and whether it counted as late (R282), whether it began in a PLCA transmit opportunity (R212); Ruling frames
that wait for the frame in transmission (R295); PLCA: the node whose opportunity began at a tick, frames left in a burst (R211). A frame in
transmission of class 8 is a Ruling frame. -/
structure PortSt where
  lfsr : Nat
  lfsrAt : Nat
  tries : Nat
  backoff : Option Nat
  rx : List Frame
  tx : Option (Nat × Frame)
  tsq : List (Nat × Nat × Nat)
  chg : Bool
  egress : Nat
  delayed : Bool
  lateSent : Bool
  plcaTx : Bool
  rulq : List Frame
  plcaId : Nat
  plcaAt : Nat
  burst : Nat
deriving DecidableEq, Repr

/-- A port after reset. -/
def PortSt.reset : PortSt :=
  { lfsr := 0, lfsrAt := 0, tries := 0, backoff := none, rx := [], tx := none, tsq := [], chg := false, egress := 0, delayed := false,
    lateSent := false, plcaTx := false, rulq := [], plcaId := 0, plcaAt := 0, burst := 0 }

/-- A meter (R239): tokens in 10⁻⁶ bytes and ns of the last update. -/
structure Meter where
  tc : Nat
  tp : Nat
  last : Nat
deriving DecidableEq, Repr

/-- What the guardian watches on a branch (R312): silent for a whole cycle since, a frame in this cycle, cycles without a
violation since. -/
structure GdSt where
  silent : Bool
  sent : Bool
  ok : Nat
deriving DecidableEq, Repr

/-- An entry of a message-bus receive FIFO (R376): RXID, RXFMT, RXSTAMP, data. -/
structure MbEntry where
  id : Nat
  fmt : Nat
  stamp : Nat
  data : List Byte
deriving DecidableEq, Repr

/-- A Ruling instance beside its registers (R291–R317): the checks of R291 passed, network time RUN was set and a claim was sent,
copies claimed this cycle (channel × 8 + frame × 2 + REP), a frame heard this cycle, cycles in a row without, master to follow from the
next cycle start, areas launched this cycle and the time (channel × 4 + frame), window bytes used for a claimed frame, copies returned
((channel × 4 + frame) × 4 + REP × 2 + DIR: good, CLAIM, area), repair pairs launched, channels on which a copy with LOOP came back in
this cycle, cycles without one by channel, channels in loopback, pairs that wait for both ports (channel, frame, REP), frames whose return
deadline has passed (channel × 4 + frame), the cycle start at which the armed activation took the words of the instance: boundary B of R359. -/
structure RulSt where
  ok : Bool
  runAt : Nat
  claimAt : Nat
  claims : List Nat
  heard : Bool
  quiet : Nat
  next : Option Nat
  launched : List (Nat × Nat × List Byte)
  used : List (Nat × List (Nat × List Byte))
  back : List (Nat × Bool × Nat × List Byte)
  repaired : List Nat
  loopSeen : List Nat
  loopFree : List (Nat × Nat)
  looped : List Nat
  wait : List (Nat × Nat × Nat)
  judged : List Nat
  bound : Option Nat
deriving DecidableEq, Repr

def RulSt.reset : RulSt := ⟨false, 0, 0, [], false, 0, none, [], [], [], [], [], [], [], [], [], none⟩
/-- A step pending on a lane (R341): slot, the words of its parameter record and RC record when it became pending, number and time (ns
field, seconds) of its trigger, network time of its batch. -/
structure LpEntry where
  slot : Nat
  par : List Nat
  rc : List Nat
  trig : Nat
  ns : Nat
  sec : Nat
  batch : Nat
deriving DecidableEq, Repr

/-- An output write of a lane without a response (Table 12.2): slot, image, address, bytes. -/
structure LpOut where
  slot : Nat
  img : Nat
  addr : Nat
  data : List Byte
deriving DecidableEq, Repr

/-- A test-signal generator (R354–R356): number of the last trigger before ARM, running, its step k, LFSR and current bit, phase and
increment. -/
structure TsgSt where
  armed : Option Nat
  run : Bool
  k : Nat
  lfsr : Nat
  bit : Bool
  ph : Nat
  finc : Nat
deriving DecidableEq, Repr

def TsgSt.reset : TsgSt := ⟨none, false, 0, 0, false, 0, 0⟩

/-- A capture channel (R357): number of the last trigger before ARM, recording, steps since it began. -/
structure CapSt where
  armed : Option Nat
  run : Bool
  steps : Nat
deriving DecidableEq, Repr

def CapSt.reset : CapSt := ⟨none, false, 0⟩

/-- A work item in flight (R393, R399): order of acceptance (SEQ is its low 32 bits), descriptor bytes 0–47, SRC, template, REPLAY, tick and
ns field of its acceptance, ns field of its latest take, where it is (0 waiting, 1 offered, 2 running or pre-empted, 3 frozen) with core and
level, item key (0 before the first take), starting and current COS, eligible on any core by SPILL. -/
structure Item where
  ord : Nat
  desc : List Byte
  src : Nat
  tpl : Option Nat
  replay : Bool
  tick : Nat
  tacc : Nat
  tdel : Nat
  st : Nat
  core : Nat
  level : Nat
  key : Nat
  cos0 : Nat
  cos : Nat
  spilled : Bool
deriving DecidableEq, Repr

/-- What the scheduler keeps of a core's time (R410): tick up to which holding time is counted, ticks held and items completed in the
current 10 ms. -/
structure CoreLoad where
  upTo : Nat
  busy : Nat
  items : Nat
deriving DecidableEq, Repr

/-- The four words of a Pantograph instruction (R418). -/
structure PIns where
  w0 : Nat
  w1 : Nat
  w2 : Nat
  w3 : Nat
deriving DecidableEq, Repr

/-- A transfer that has had a turn and is not complete (R427): the instruction as it was fetched, next source and destination address, bytes still to
read and to write of the range or list entry under way, bytes in the channel's segment, next list entry and entries left. -/
structure PXfer where
  ins : PIns
  src : Nat
  dst : Nat
  rd : Nat
  wr : Nat
  hold : List Byte
  la : Nat
  ents : Nat
deriving DecidableEq, Repr

/-- A Pantograph channel beside its registers (R418–R427): armed WAIT source, open loops (address of the first body instruction, runs left;
innermost first), last host address written since the last SIGNAL, timeout of the WAIT that waits in µs (0 none), transfer under way. -/
structure Panto where
  armed : Option Nat
  loops : List (Nat × Nat)
  host : Option Nat
  tmo : Nat
  xfer : Option PXfer
deriving DecidableEq, Repr

def Panto.reset : Panto := ⟨none, [], none, 0, none⟩

/-- A neighbour of the topology table (R524): source (0 LLDP, else 1 + CPF), port or context key, partner address; Seal, RUNEPOCH and
bytes 16–25 of its Zengeiq TLV where it has one; TTL in s; ms it entered and was last renewed. -/
structure Neigh where
  src : Nat
  via : Nat
  addr : List Byte
  tlv : Option (Nat × Nat × Nat)
  ttl : Nat
  since : Nat
  seen : Nat
deriving DecidableEq, Repr

/-- A long Feholt command that runs (R69, R72): session, tag, opcode, the command. -/
structure Long where
  sess : Nat
  tag : Nat
  opcode : Nat
  cmd : Instr
deriving DecidableEq, Repr

/-- A loaded personality (R169): its threads, their standby threads, the claimed resources that are its alone. -/
structure Pers where
  threads : List Nat
  standbys : List Nat
  claims : List Nat
deriving DecidableEq, Repr


/-- The state. -/
structure State where
  /-- Register words by internal address, canonical against `resetWord` (Table 1.16 and the register tables). -/
  regs : List (Nat × Word)
  /-- Memories by internal address, canonical against 0 (R445): Plate, sealed bank, engine windows (the scratchpad in the window of the cluster's
  first engine), L2. IL1/DL1 of A n stand at 0x1_0000_0000 + n × 0x2_0000, the Keyblock private RAM at 0x1_0100_0000. -/
  mem : List Host.Cell
  /-- Host memory by PCIe bus address, as the device sees it. -/
  hostMem : List Host.Cell
  /-- 64-bit words of memory that hold an ECC error, by address / 8: 1 correctable, 2 uncorrectable. Slot words of the mailbox unit stand at
  0x1_0200_0000 + channel × 0x400. -/
  ecc : List (Nat × Nat)
  /-- TCLK edges since power-on. -/
  ticks : Nat
  /-- The time unit's counter and latches (R263–R272). -/
  time : TimeUnit
  /-- Hardware threads and cores that differ from their reset state. -/
  cores : List (Nat × Core)
  /-- Queue of the checkpoint unit of each engine (R162). -/
  ckq : List (Nat × List CkOp)
  /-- Credit pools, keyed queue × 8 + class × 2 + direction (R34). -/
  credits : List (Nat × Credit)
  /-- Rotating pointers of serialising points (R44). -/
  ptrs : List (Nat × Nat)
  /-- Die link, 0 core die to port die, 1 the other way (R28). -/
  dieLink : List (Nat × LinkDir)
  /-- Words of mailbox slots, keyed channel × 256 + slot × 16 + word, canonical against 0 (R86). -/
  slots : List (Nat × Word)
  /-- Pending releases, keyed channel × 16 + slot (R86). -/
  slotRel : List (Nat × SlotRel)
  /-- MSI-X table words of BAR4, keyed function × 256 + word, canonical against the masked vector (R46). -/
  msix : List (Nat × Word)
  /-- Pending MSI-X messages, keyed function × 64 + vector (R55, R58). -/
  pba : List (Nat × Nat)
  /-- Configuration space words, keyed function × 1024 + word (R45). -/
  pciCfg : List (Nat × Word)
  /-- Functions in FLR, hot reset or D3hot (Table 3.3). -/
  fnReset : List (Nat × Nat)
  /-- Feholt sessions 0–3. -/
  sess : List (Nat × Session)
  /-- Notice queue of the fault hub, oldest first (R453). -/
  notices : List Notice
  /-- XOR of the Seal with the reset Seal (R517, R518). -/
  sealDiff : Nat
  /-- A debug port is attached (R544). -/
  dbgAttached : Bool
  /-- Response of the last request. -/
  resp : Resp
  /-- What has left the block, oldest first. -/
  out : List Output
  /-- The model's own counter of free values taken. -/
  freeIx : Nat
  /-- Unit index whose Recoverable fault opened the open recovery (R455, R456). -/
  openUnit : Nat
  /-- Draft copies that were written, by word address; an unlisted draft copy equals the running value (R519). -/
  draft : List (Nat × Word)
  /-- Burin engines that differ from their reset state (R174). -/
  burin : List (Nat × Burin)
  /-- Clusters whose Burin sync trigger has come and whose sync edge has not (R187). -/
  syncDue : List Nat
  /-- Supply of the Burin banks: absent (unlisted), 1 the 1.8 V class, 2 the 3.3 V class (R196, R530). -/
  vddio : List (Nat × Nat)
  /-- Impressions and Stipple monitors (R508–R516). -/
  obs : Obs
  /-- Network time in ns at which a slot was committed, keyed channel × 16 + slot (Table 19.7a, SRC 7). -/
  slotAt : List (Nat × Nat)
  /-- Armed triggers of the TIO pins (R285). -/
  trig : List (Nat × Trig)
  /-- Capture pins for which TIO_CONFIG asked for TIME_CAPTURE (R284). -/
  tioAsk : List Nat
  /-- Tick of the last local reset of message-bus controller k; its counter counts 16-tick steps from there (R288). -/
  mbBase : List (Nat × Nat)
  /-- Tick of the last device reset (R288). -/
  devTick : Nat
  /-- Process images (R320). -/
  imgs : List (Nat × ImgSt)
  /-- Lease table, oldest first (R330). -/
  leases : List Lease
  /-- Window staging areas, keyed instance × 256 + window (R302). -/
  winStage : List (Nat × List Byte)
  /-- Rotation of each requester slot (R439): replay key, or 0x100 + identity. -/
  rot : List (Nat × Nat)
  /-- Life-cycle state being programmed (R447). -/
  lcTarget : Option Nat
  /-- A tamper qualified in Hold: the wipe runs at exit (R444). -/
  holdWipe : Bool
  /-- Tick the power-up clear started at (R445). -/
  clearAt : Nat
  /-- Frames of the current cycle that are delivered or past their RDL, keyed instance × 8 + channel × 4 + frame: 1 past, 2 delivered (R305, R321). -/
  rulDone : List (Nat × Nat)
  /-- The device is in Off: only the wake domain is powered (R491). -/
  powerOff : Bool
  /-- Ports beside their registers; 16–21 the internal ports. -/
  ports : List (Nat × PortSt)
  /-- Copies in the switch queues, head first; queue 8 × port + class (R234). -/
  queues : List (Nat × List Frame)
  /-- Entries of the switch tables as 128-bit numbers, keyed table × 0x10000 + index, canonical against 0 (Table 8.15). -/
  tbl : List (Nat × Nat)
  /-- Tick a learned FDB entry was last renewed at (R232). -/
  tblSeen : List (Nat × Nat)
  /-- Duplicate state of stream entries (R246). -/
  dups : List (Nat × Dup)
  /-- Node table (R249), by index. -/
  nodes : List NodeEnt
  /-- Meters (R239). -/
  meters : List (Nat × Meter)
  /-- RED averages of queues with 8 fraction bits (R240). -/
  redAvg : List (Nat × Nat)
  /-- The switch's LFSR (R240). -/
  redLfsr : Nat
  /-- Sequence counter of each HSR or PRP pair, by its even port (R248). -/
  pairSeq : List (Nat × Nat)
  /-- Gate state in force at each switch port; unlisted 0xFF (R242). -/
  gates : List (Nat × Nat)
  /-- Ports marked for a Stencil change-over (R244). -/
  stMark : List Nat
  /-- Instant from which a pending Stencil change-over may take place, in ns, and EN before the activation, by port (R244). -/
  stFrom : List (Nat × Nat × Bool)
  /-- Key of the pending release of a receive ring, keyed region × 16 + ring (R258). -/
  ringRel : List (Nat × Nat)
  /-- Switch port pipelines whose clock is stopped (R261). -/
  clkStop : List Nat
  /-- Guardian watch of each branch port (R312). -/
  gd : List (Nat × GdSt)
  /-- Valid replay entries of the switch (key), the work scheduler (0x100 + key) and Pantograph block n (0x200 + 0x100n + key) (R256, R395, R416). -/
  rplOk : List Nat
  /-- Receive FIFOs of the message-bus controllers, oldest first (R376). -/
  mbRx : List (Nat × List MbEntry)
  /-- Active transmit buffers with an ABORT pending, 4k + b (R372). -/
  mbAbort : List Nat
  /-- Controllers in bus-off recovery (R368). -/
  mbRecov : List Nat
  /-- Activated words of a controller that wait for a bus-idle point (R369). -/
  mbPend : List (Nat × Word)
  /-- Expired channels: 1 waits for REQ, 2 for the KICK after it (R390). -/
  fsExp : List (Nat × Nat)
  /-- Tick of the last restart of a channel's fail-safe timer (R390). -/
  fsKick : List (Nat × Nat)
  /-- Ruling instances beside their registers. -/
  rul : List (Nat × RulSt)
  /-- Direct writes of sealed RUL words that wait for the instance's next cycle start (R297). -/
  rulPend : List (Nat × Word)
  /-- Instant T of the armed activation in ns (R520). -/
  actAt : Nat
  /-- Words of the loop engine's records, pool and capture memory, keyed space × 0x100000 + index (Table 12.7), canonical against `lpReset`. -/
  lp : List (Nat × Word)
  /-- Loop records marked pending: slot, or 0x200 + RC record (R359). -/
  lpMarks : List Nat
  /-- Triggers that wait for their batch, oldest first: tick, nanoseconds field, seconds, trigger code (R341). -/
  lpDue : List (Nat × Nat × Nat × Nat)
  /-- Number of trigger edges so far. -/
  lpTrig : Nat
  /-- Pending list of each lane (R341). -/
  lpLane : List (Nat × List LpEntry)
  /-- Output writes of each lane without a response. -/
  lpOut : List (Nat × List LpOut)
  /-- Slots that have finished a step since the last publication of the image they write, keyed image × 512 + slot (R344). -/
  lpDone : List Nat
  /-- Ring clears running: slot, first sample, length (R353). -/
  lpClr : List (Nat × Nat × Nat)
  /-- Test-signal generators. -/
  tsg : List (Nat × TsgSt)
  /-- Capture channels. -/
  cap : List (Nat × CapSt)
  /-- Work items in flight, in order of acceptance (R399). -/
  items : List Item
  /-- Items accepted so far; SEQ counts modulo 2³² (R396). -/
  itemOrd : Nat
  /-- Affinity table {FLOW, last core}, most recently used first (R400). -/
  affin : List (Nat × Nat)
  /-- Rotating pointer over the cores (R400). -/
  schedPtr : Nat
  /-- Load accounting of the cores (R410). -/
  coreLoad : List (Nat × CoreLoad)
  /-- Tracing entries, keyed 4 × index + word (R411). -/
  trace : List (Nat × Word)
  /-- Entries the Tracing RAM holds. -/
  traceN : Nat
  /-- Loop batches with a step that has not ended: number, trigger codes (R398). -/
  lpBatches : List (Nat × List Nat)
  /-- Pantograph channels, keyed 16 × instance + channel. -/
  panto : List (Nat × Panto)
  /-- Source occurrences on their way to a Pantograph instance (instance, code), oldest first (R426). -/
  pantoDue : List (Nat × Nat)
  /-- Threads and cores that stop at the next boundary once their posted stores are answered: 1 STOP, 2 halt (R147, R544). -/
  halting : List (Nat × Nat)
  /-- Tick of the last reload of a thread's watchdog (R172). -/
  thWd : List (Nat × Nat)
  /-- BRN.TICK of the last restarts of the Keyblock, newest first (R469). -/
  brnAt : List Nat
  /-- The Keyblock was restarted and its ROM recovery has not ended (R467). -/
  romDue : Bool
  /-- The Keyblock was reset and its ROM has not yet written MBX.DBMASK08 (Table 3.3). -/
  kbOff : Bool
  /-- Unit index of the second fault that led to DEGRADED (R456, R472). -/
  secondUnit : Nat
  /-- Topology table of the Keyblock, in order of entry (R524). -/
  neigh : List Neigh
  /-- New neighbours that found the table full. -/
  neighLost : Nat
  /-- Expected Seal and epoch per partner chassis ID (R525). -/
  expected : List (List Byte × Nat × Nat)
  /-- Session whose draft is open (R522). -/
  draftOwner : Option Nat
  /-- Long Feholt commands that run (R69). -/
  longs : List Long
  /-- Session whose installation is open (R505). -/
  install : Option Nat
  /-- Status the last installation ended with. -/
  installEnd : Nat
  /-- Reference a switch or return of the PLLs moves to: 0 REFCLK_A, 1 REFCLK_B (R22, R23). -/
  clkTo : Option Nat
  /-- Die-link lane that the spare is being trained for, and the late errors of the lanes (R465). -/
  sparing : LaneSt
  /-- Power-good has failed and both dies are held in reset (R532). -/
  lostPower : Bool
  /-- A wake in Off waits for power-good (R492). -/
  offWoken : Bool
  /-- Development (low 256 bits) and production key digests in the fuses (R499). -/
  keyDigests : Nat
  /-- Boot flash by offset (Table 18.13), canonical against the erased byte 0xFF. -/
  flash : List Host.Cell
  /-- Personalities loaded, in order of loading (R169, R170). -/
  pers : List Pers
  /-- REFCLK_A runs at its pin (R25). -/
  refA : Bool
  /-- REFCLK_B runs at its pin (R25). -/
  refB : Bool
  /-- A start found neither reference: the PLLs wait and both dies are held in reset (R25). -/
  noRef : Bool
  /-- Doorbell events of engines and cores that a mask suppressed, keyed identity × 32 + bit (R93). -/
  dbHeld : List Nat
  /-- Channel that each Pantograph instance serves next in rotating order, by instance (R427; unlisted 0). -/
  dmPtr : List (Nat × Nat)
  /-- TCLK periods in which a clock stood still: of cluster 0–7 (R197), of the cores of region k − 8, of the Keyblock (12) (R107); unlisted 0. -/
  bIdle : List (Nat × Nat)
  /-- Synchronisers of the pins, by cluster (R177); unlisted ⟨none, []⟩. -/
  pinSync : List (Nat × PinSync)
  /-- Tick of the last restart of the update timer of the time unit (R268). -/
  updAt : Nat
  /-- TCLK periods since the device reset in which TCLK stood still (R266, R288). -/
  tOff : Nat
  /-- A correlation waits for the next counter-increment edge (R289). -/
  corrDue : Bool
  /-- Steps of the network time since the device reset (Table 9.3). -/
  stepNo : Nat
  /-- Running times of the consent rings by the run tick they started at: 3r the ring timer, 3r + 1 the time to the owner’s own message, 3r + 2 the
  wait timer (R384). -/
  ringAt : List (Nat × Nat)
  /-- Millisecond of the last DONE; the wait for a partner's epoch starts there at the earliest (R525). -/
  doneAt : Nat
  /-- Correctable errors that the loop engine corrected in its memories (R362). -/
  lpCe : Nat
  /-- Commands that wait, first in, first out. -/
  pending : List Instr
deriving DecidableEq, Repr

/-- The state after reset: every register word at the value of its table (nothing listed), every memory 0, every
unit as its chapter gives it. -/
def State.reset : State where
  regs := []
  mem := []
  hostMem := []
  ecc := []
  ticks := 0
  time := TimeUnit.reset
  cores := []
  ckq := []
  credits := []
  ptrs := []
  dieLink := []
  slots := []
  slotRel := []
  msix := []
  pba := []
  pciCfg := []
  fnReset := []
  sess := []
  notices := []
  sealDiff := 0
  dbgAttached := false
  resp := ⟨0, []⟩
  out := []
  freeIx := 0
  openUnit := 0
  draft := []
  burin := []
  syncDue := []
  vddio := []
  obs := Obs.reset
  slotAt := []
  trig := []
  tioAsk := []
  mbBase := []
  devTick := 0
  imgs := []
  leases := []
  winStage := []
  rot := []
  lcTarget := none
  holdWipe := false
  clearAt := 0
  rulDone := []
  powerOff := false
  ports := []
  queues := []
  tbl := []
  tblSeen := []
  dups := []
  nodes := []
  meters := []
  redAvg := []
  redLfsr := 1
  pairSeq := []
  gates := []
  stMark := []
  stFrom := []
  ringRel := []
  clkStop := []
  gd := []
  rplOk := []
  mbRx := []
  mbAbort := []
  mbRecov := []
  mbPend := []
  fsExp := []
  fsKick := []
  rul := []
  rulPend := []
  actAt := 0
  lp := []
  lpMarks := []
  lpDue := []
  lpTrig := 0
  lpLane := []
  lpOut := []
  lpDone := []
  lpClr := []
  tsg := []
  cap := []
  items := []
  itemOrd := 0
  affin := []
  schedPtr := 0
  coreLoad := []
  trace := []
  traceN := 0
  lpBatches := []
  panto := []
  pantoDue := []
  halting := []
  thWd := []
  brnAt := []
  romDue := false
  kbOff := false
  secondUnit := 0
  neigh := []
  neighLost := 0
  expected := []
  draftOwner := none
  longs := []
  install := none
  installEnd := 0
  clkTo := none
  sparing := ⟨none, []⟩
  lostPower := false
  offWoken := false
  keyDigests := 0
  flash := []
  pers := []
  refA := true
  refB := true
  noRef := false
  dbHeld := []
  dmPtr := []
  bIdle := []
  pinSync := []
  updAt := 0
  tOff := 0
  corrDue := false
  stepNo := 0
  ringAt := []
  doneAt := 0
  lpCe := 0
  pending := []

end Sys2Proof.Machine
end

