-- ==== Sys2Proof/Machine/Ops.lean ====
section
/-! DEFINITION. The named operations every unit shares: register words and fields with the Seal (R9, R517, R518), bytes of
memory, network time, doorbells and event sources (R33, R93, R153), Feholt posting (R62–R68), the fault hub's record of
a fault (R452–R458, R470). -/
namespace Sys2Proof.Machine

abbrev Out := Host.Outcome State Fault Refusal

/-! ## Registers -/

/-- The register word at address `a`. -/
def State.rd (s : State) (a : Nat) : Nat := (tabGet s.regs (resetWord a) a).toNat

/-- The running value of the register word at `a`: an activated word that its controller takes later counts from its boundary on (R369, R520). -/
def State.running (s : State) (a : Nat) : Nat := (tabGet s.mbPend (BitVec.ofNat 32 (s.rd a)) a).toNat

/-- Where a word contributes to the Seal, and under which mask (Table 19.11): words of a Stencil bank contribute while
the bank is operative, at the address of bank 0. -/
def sealPlace (opbank : Nat → Nat) (a : Nat) : Option (Nat × Nat) :=
  let o := a - SW.STH_CYCLE 0 0
  let e := a - SW.STE 0 0 0
  if SW.STH_CYCLE 0 0 ≤ a ∧ o < 22 * 0x20 then
    if o % 0x20 / 0x10 = opbank (o / 0x20) then
      some (a - o % 0x20 / 0x10 * 0x10, if o % 0x10 = 0xC then 0x1FF else if o % 0x10 = 8 then 0xFFFFFFFF else 0x3FFFFFFF)
    else none
  else if SW.STE 0 0 0 ≤ a ∧ e < 22 * 0x800 then
    if e % 0x800 / 0x400 = opbank (e / 0x800) then some (a - e % 0x800 / 0x400 * 0x400, 0xFFFFFFFF) else none
  else
    match regAt a with
    | some d => if d.smask = 0 then none else some (a, d.smask)
    | none => none

/-- H(A, V) of R517. -/
def sealH (a v : Nat) : Nat := crc64 (leBytes 4 a ++ leBytes 4 v)

/-- What a change of the word at `a` from `old` to `new` does to the Seal (R518). -/
def sealChange (opbank : Nat → Nat) (a old new : Nat) : Nat :=
  match sealPlace opbank a with
  | some (p, m) => if old &&& m = new &&& m then 0 else sealH p (old &&& m) ^^^ sealH p (new &&& m)
  | none => 0

/-- The operative Stencil bank of port `p` (SW.STCFGp.OPBANK). -/
def State.opbank (s : State) (p : Nat) : Nat := bitsOf (s.rd (SW.STCFG p)) 2 1

/-- Sets the register word at address `a`; a sealed word moves the Seal (R518). -/
def State.wr (s : State) (a v : Nat) : State :=
  { s with
    regs := cellPut s.regs (resetWord a) a (BitVec.ofNat 32 v)
    sealDiff := s.sealDiff ^^^ sealChange s.opbank a (s.rd a) (v % 2 ^ 32) }

/-- A field of a register. -/
def State.f (s : State) (x : FldAt) : Nat := bitsOf (s.rd x.addr) x.lo x.w

/-- Is a one-bit field 1? -/
def State.on (s : State) (x : FldAt) : Bool := s.f x == 1

/-- Sets a field of a register, the other bits kept. -/
def State.setF (s : State) (x : FldAt) (v : Nat) : State := s.wr x.addr (setBits (s.rd x.addr) x.lo x.w v)

/-- Adds `k` to a counter field, saturating at all ones. -/
def State.bump (s : State) (x : FldAt) (k : Nat := 1) : State := s.setF x (satAdd (s.f x) k (2 ^ x.w - 1))

/-- ORs bits into a field. -/
def State.orF (s : State) (x : FldAt) (v : Nat) : State := s.setF x (s.f x ||| v)

/-- Sets several fields in turn. -/
def State.setFs (s : State) (l : List (FldAt × Nat)) : State := l.foldl (fun s p => s.setF p.1 p.2) s

/-- Register words whose address satisfies `p` return to their reset values; the Seal follows. -/
def State.resetWords (s : State) (p : Nat → Bool) : State :=
  s.regs.foldl (fun t e => if p e.1 then t.wr e.1 (resetWord e.1).toNat else t) s

/-- A register's write as its access types say (R9, R10); an unassigned offset takes no effect (R11). A WL field that
is set locks only itself; the other fields of a write are the block's to guard. -/
def State.wrReg (s : State) (a v : Nat) : State :=
  match regAt a with
  | some d => s.wr a (wordWrite a d.flds (s.rd a) v)
  | none => s

/-- A register's read as its access types say: the word, and RC fields cleared. -/
def State.rdReg (s : State) (a : Nat) : Nat × State :=
  match regAt a with
  | some d => let w := s.rd a; let w' := fldsAfterRead d.flds w; (w, if w' = w then s else s.wr a w')
  | none => (0, s)

/-! ## Memory -/

/-- A byte of the block's memories. -/
def State.byte (s : State) (a : Nat) : Byte := tabGet s.mem 0 a

/-- Bytes `a … a + n − 1`. -/
def State.bytes (s : State) (a n : Nat) : List Byte := (List.range n).map (fun i => s.byte (a + i))

/-- Sets consecutive cells of a memory whose unlisted bytes read 0. -/
def putBytes (m : List Host.Cell) (a : Nat) (bs : List Byte) : List Host.Cell :=
  match bs with
  | [] => m
  | b :: t => putBytes (cellPut m 0 a b) (a + 1) t

/-- Marks of ECC errors in the 64-bit words that `n` bytes from `a` cover. -/
def State.eccIn (s : State) (a n : Nat) (kind : Nat) : Bool :=
  s.ecc.any (fun e => decide (a / 8 ≤ e.1) && decide (e.1 ≤ (a + n - 1) / 8) && decide (0 < n) && e.2 == kind)

/-- How many of the words covered carry a mark of one kind. -/
def State.eccNum (s : State) (a n : Nat) (kind : Nat) : Nat :=
  (s.ecc.filter (fun e => decide (a / 8 ≤ e.1) && decide (e.1 ≤ (a + n - 1) / 8) && decide (0 < n) && e.2 == kind)).length

/-- Drops marks of one kind from the words covered. -/
def State.eccDrop (s : State) (a n : Nat) (kind : Nat) : State :=
  { s with ecc := s.ecc.filter (fun e => !(decide (a / 8 ≤ e.1) && decide (e.1 ≤ (a + n - 1) / 8) && decide (0 < n) && e.2 == kind)) }

/-- Drops every mark of the 64-bit words that are wholly rewritten. -/
def State.eccFresh (s : State) (a n : Nat) : State :=
  { s with ecc := s.ecc.filter (fun e => !(decide (a ≤ e.1 * 8) && decide (e.1 * 8 + 8 ≤ a + n))) }

/-- Writes bytes; words wholly rewritten carry good ECC. -/
def State.putMem (s : State) (a : Nat) (bs : List Byte) : State :=
  ({ s with mem := putBytes s.mem a bs }).eccFresh a bs.length

/-- A little-endian word of memory. -/
def State.memWord (s : State) (a : Nat) : Nat := leNat (s.bytes a 4)

/-- Clears every memory byte whose address satisfies `p`, with its ECC marks. -/
def State.clearMem (s : State) (p : Nat → Bool) : State :=
  { s with mem := s.mem.filter (fun c => !p c.1), ecc := s.ecc.filter (fun e => !p (e.1 * 8)) }

/-- Sends something out of the block. -/
def State.emit (s : State) (o : Output) : State := { s with out := s.out ++ [o] }

/-- The request interface of queue `q` with its reset credit counts (R14). -/
def State.freshCredits (s : State) (q : Nat) : State := { s with credits := s.credits.filter (fun e => e.1 / 8 != q) }

/-- The next free value. -/
def State.free (s : State) : Word × State := (Config.free s.freeIx, { s with freeIx := s.freeIx + 1 })

/-- Do MODE and LOOP of a PHYA.TESTp word `v` select a test or a loopback (Table 20.13)? Values not listed act as 0. -/
def phyTest (p v : Nat) : Bool :=
  (decide (1 ≤ v % 16) && decide (v % 16 ≤ if 8 ≤ p ∧ p < 12 then 3 else 4)) || v / 16 % 4 == 1 || v / 16 % 4 == 2

/-! ## Network time -/

/-- Sub-units of a nanosecond (R264). -/
def nsUnit : Nat := 2 ^ 48

/-- Nanoseconds field of the network time (Table 9.1). -/
def State.nowNs (s : State) : Nat := s.time.sub / nsUnit

/-- Seconds field. -/
def State.nowSec (s : State) : Nat := s.time.sec

/-- Fraction in 2⁻¹⁶ ns. -/
def State.nowFrac (s : State) : Nat := s.time.sub / 2 ^ 32 % 2 ^ 16

/-- Network time in ns, seconds included. -/
def State.now (s : State) : Nat := s.time.sec * 1000000000 + s.nowNs

/-- A time given by a nanoseconds field and the low 32 bits of seconds, the upper 16 bits those of the current network
time (Table 8.11, R520), in ns. -/
def State.fullTime (s : State) (ns secl : Nat) : Nat :=
  (s.time.sec / 2 ^ 32 * 2 ^ 32 + secl) * 1000000000 + ns

/-! ## Threads, engines, identities -/

/-- A per-thread register or field, by thread key 8n + t (R142, R173). -/
def ofTh {α : Type} (r : Nat → Nat → Nat → α) (th : Nat) : α := r (th / 24) (th / 8 % 3) (th % 8)

/-- A per-engine register or field, by engine number. -/
def ofCe {α : Type} (r : Nat → Nat → α) (n : Nat) : α := r (n / 3) (n % 3)

/-- Thread state codes of Table 5.1. -/
def State.thState (s : State) (th : Nat) : Nat := s.f (ofTh CC.THCTL_STATE th)

/-- Sets a thread's state, with RUNMASK and FAILMASK of its engine (Table 5.15). -/
def State.setTh (s : State) (th st : Nat) : State :=
  let s := s.setF (ofTh CC.THCTL_STATE th) st
  let n := th / 8
  let run := setBits (s.f (ofCe CC.ENGSTAT_RUNMASK n)) (th % 8) 1 (b2n (st == 1 || st == 2))
  let s := s.setF (ofCe CC.ENGSTAT_RUNMASK n) run
  let s := s.setF (ofCe CC.ENGSTAT_FAILMASK n) (setBits (s.f (ofCe CC.ENGSTAT_FAILMASK n)) (th % 8) 1 (b2n (st == 7)))
  if st == 7 then s else s.setF (ofTh CC.THCTL_FCAUSE th) 0

/-- Master identities of Table 1.14. -/
def idListed (i : Nat) : Bool :=
  i == 1 || i == 2 || i == 8 || i == 9 || (0x10 ≤ i && i ≤ 0x27) || (0x30 ≤ i && i ≤ 0x3F) || i == 0x40 || i == 0x50

def idKeyblock : Nat := 0x08
def idDebug : Nat := 0x50

/-- The Keyblock or the debug port. -/
def isKbDbg (i : Nat) : Bool := i == 0x08 || i == 0x50

/-- The identity a requester acts as at the mailbox unit: ACTING of the lowest valid stand-in entry whose THREAD is its
requester key, else its own (R101). -/
def State.actingFrom (s : State) (rkey : Nat) (own : Nat) (n : Nat) : Nat :=
  match n with
  | 0 => own
  | k + 1 =>
    let i := 31 - k
    if s.on (MBX.STANDIN_V i) && s.f (MBX.STANDIN_THREAD i) == rkey then s.f (MBX.STANDIN_ACTING i)
    else s.actingFrom rkey own k

/-- R101 for a request. -/
def State.acting (s : State) (rq : Rq) : Nat :=
  match rq.rkey with
  | some k => s.actingFrom k.toNat rq.id.toNat 32
  | none => rq.id.toNat

/-- The identity thread `th` acts as. -/
def State.thActs (s : State) (th : Nat) : Nat := s.actingFrom th (0x10 + th / 8) 32

/-! ## Counters and monitors (R509, R512, R515, R516) -/

/-- Adds `k` to impression counter `i`, saturating; saturation sets the SATURATED flag. -/
def State.count (s : State) (i : Nat) (k : Nat := 1) : State :=
  let v := tabGet s.obs.cnt 0 i + k
  { s with obs := { s.obs with
      cnt := tabPut s.obs.cnt i (min v 0xFFFFFFFF)
      flags := if v > 0xFFFFFFFF then s.obs.flags ||| 16 else s.obs.flags } }

/-- Adds `k` events to a counter kept in units of `u`, the remainder carried (R512). -/
def State.countPart (s : State) (i u k : Nat) : State :=
  let v := tabGet s.obs.part 0 i + k
  ({ s with obs := { s.obs with part := tabPut s.obs.part i (v % u) } }).count i (v / u)

/-- Global counter g of Table 19.5. -/
def State.countG (s : State) (g : Nat) (k : Nat := 1) : State := s.count (0x804 + g) k

/-- The bin of R516. -/
def stippleBin (log : Bool) (shift lo v : Nat) : Nat :=
  let d := if v < lo then 0 else (v - lo) / 2 ^ shift
  if !log then min 63 d
  else if d < 2 then d
  else
    let k := Nat.log2 d
    2 * k + d / 2 ^ (k - 1) % 2

/-- One sample of a monitor with configuration `cfg`, `lo`. -/
def Mon.take (m : Mon) (cfg lo v : Nat) : Mon :=
  let v := min v 0xFFFFFFFF
  let b := stippleBin (bitOf cfg 1) (bitsOf cfg 8 5) lo v
  { mn := min m.mn v, mx := max m.mx v, sum := min (m.sum + v) (2 ^ 64 - 1), cnt := min (m.cnt + 1) 0xFFFFFFFF
    bins := tabPut m.bins b (min (tabGet m.bins 0 b + 1) 0xFFFFFFFF) }

/-- Source `src` with selector `sel` gives the sample `v` to every monitor whose configuration in force selects it (R515). -/
def State.sample (s : State) (src sel v : Nat) : State :=
  s.obs.cfg.foldl (fun s e =>
    let cfg := e.2.1
    if bitOf cfg 0 && bitsOf cfg 4 4 == src && bitsOf cfg 16 8 == sel then
      { s with obs := { s.obs with mon := tabPut s.obs.mon e.1 ((tabGet s.obs.mon Mon.empty e.1).take cfg e.2.2 v) } }
    else s) s

/-! ## Event sources -/

/-- The thread and slot whose EVSEL register stands at `a`. -/
def evselAt (a : Nat) : Option (Nat × Nat) :=
  let b := a / 0x10000
  let o := a % 0x10000
  let q := o % 0x1000
  let r := (q - 0x100) % 0x80
  if 0x4020 ≤ b ∧ b < 0x4028 ∧ 0x1000 ≤ o ∧ o < 0x4000 ∧ 0x100 ≤ q ∧ q < 0x500 ∧ 0x40 ≤ r then
    some (((b - 0x4020) * 3 + (o / 0x1000 - 1)) * 8 + (q - 0x100) / 0x80, (r - 0x40) / 4)
  else none

/-- A source occurrence at slot `i` of thread `th`: EVPEND is set, or the occurrence is merged (R153); EVSEEN and the
captures in progress remember it (R164). -/
def State.evSlot (s : State) (th i : Nat) : State :=
  let s := if bitOf (s.f (ofTh CC.EVPEND_PEND th)) i then s.bump (ofTh CC.EVMRG_MERGED th)
    else s.orF (ofTh CC.EVPEND_PEND th) (2 ^ i)
  let s := s.orF (ofTh CC.EVSEEN_SEEN th) (2 ^ i)
  { s with ckq := s.ckq.map (fun e => (e.1, e.2.map (fun o => if o.th = th ∧ o.cap then { o with seen := o.seen ||| 2 ^ i } else o))) }

/-- Source `code` fires for the threads that `who` admits: every slot that selects it takes the occurrence (R153). -/
def State.fireFor (s : State) (who : Nat → Bool) (code : Nat) : State :=
  s.regs.foldl (fun t e =>
    match evselAt e.1 with
    | some (th, i) => if who th && e.2.toNat % 256 == code && code != 0 then t.evSlot th i else t
    | none => t) s

/-- Source codes a Pantograph WAIT takes from outside its instance (R426). -/
def waitCode (c : Nat) : Bool := (decide (1 ≤ c) && decide (c ≤ 0x46)) || (decide (0x98 ≤ c) && decide (c ≤ 0x9F))

/-- An occurrence of `code` sets out for Pantograph instance `n` when a channel of it has the source armed. -/
def State.toPanto (s : State) (code n : Nat) : State :=
  if s.panto.any (fun e => e.1 / 16 == n && e.2.armed == some code) then { s with pantoDue := s.pantoDue ++ [(n, code)] } else s

/-- Counts an event to region `r` that is discarded because the region is off or in reset (R486). -/
def State.evDrop (s : State) (r : Nat) : State := if s.f (SYS.RGCTL_STATE r) = 0 then s else s.bump (SYS.RGCTL_EVDROP r)

/-- Source `code` fires for every thread, and for the channels that wait for it. -/
def State.fire (s : State) (code : Nat) : State :=
  let s := [0, 1, 2, 3].foldl State.evDrop (s.fireFor (fun _ => true) code)
  if waitCode code then [0, 1, 2, 3].foldl (fun s n => s.toPanto code n) s else s

/-- MSI-X vector mask (table word 4v + 3, bit 0); a vector is masked at reset (PCIe). -/
def State.vecMasked (s : State) (f v : Nat) : Bool :=
  (tabGet s.msix 1 (f * 256 + v * 4 + 3)).toNat % 2 == 1

/-- Reset value of the changeable bits of a word of configuration space. -/
def cfgReset (w : Nat) : Word := match w with | 30 => 0x2000 | 40 => 3 | 67 => 0x00462010 | 69 => 0x2000 | _ => 0

/-- The changeable bits of a word of configuration space. -/
def State.cfgHeld (s : State) (f w : Nat) : Nat := (tabGet s.pciCfg (cfgReset w) (f * 1024 + w)).toNat

/-- Bus Master Enable of a function (configuration word 1, bit 2). -/
def State.busMaster (s : State) (f : Nat) : Bool := bitOf (s.cfgHeld f 1) 2

/-- May function `f` send MSI-X messages: MSI-X Enable 1, Function Mask 0, Bus Master Enable 1 (R45; PRESUMED: PCI Express Base Specification,
log 71)? -/
def State.msixOn (s : State) (f : Nat) : Bool := bitOf (s.cfgHeld f 20) 31 && !bitOf (s.cfgHeld f 20) 30 && s.busMaster f

/-- Is vector `v` held back, by its own mask or by its function? -/
def State.vecHeld (s : State) (f v : Nat) : Bool := s.vecMasked f v || !s.msixOn f

/-- Sends the message of a vector, or leaves it pending while it is held back (R55). -/
def State.msixFire (s : State) (f v : Nat) : State :=
  if s.vecHeld f v then { s with pba := tabPut s.pba (f * 64 + v) 1 }
  else ({ s with pba := tabDel s.pba (f * 64 + v) }).emit (.msix f v)

/-- The function and vector index whose MSIXSRC register stands at `a`. -/
def msixsrcAt (a : Nat) : Option (Nat × Nat) :=
  let o := a - PCI.MSIXSRC 0 0
  if PCI.MSIXSRC 0 0 ≤ a ∧ o < 0x100 then some (o / 0x80, o % 0x80 / 4) else none

/-- A direct event source (R58): one message per occurrence; those that come while the vector is held back are merged into
one pending message and counted. -/
def State.msixDirect (s : State) (code : Nat) : State :=
  s.regs.foldl (fun t e =>
    match msixsrcAt e.1 with
    | some (f, i) =>
      if e.2.toNat % 256 == code && bitOf e.2.toNat 8 then
        let v := 32 + i
        let t := if t.vecHeld f v then (t.bump (PCI.MSIXMRG_MERGED f)).countG 40 else t
        t.msixFire f v
      else t
    | none => t) s

/-- An occurrence that both the engines (Table 5.4) and the direct MSI-X sources (Table 2.5) select. -/
def State.fireBoth (s : State) (code : Nat) : State := (s.fire code).msixDirect code

/-- Sets bits of FLT.KEVT (R454; bits 0 and 1 are levels and are computed when read). -/
def State.kevt (s : State) (bit : Nat) : State := s.orF FLT.KEVT_BITS (2 ^ (bit - 2))

/-- Rings doorbell `bit` of identity `id` (R93, R55): the bit is set; unless masked the event follows: an MSI-X message
for a PCIe function when the bit was 0, source 0x48 + bit in the threads that act as the identity. A repeat is merged: in an engine the event slot
counts it (R153), at an application core nothing does (DESIGN CHOICE, log 68: no counter is named). -/
def State.ringDoorbell (s : State) (id bit : Nat) : State :=
  let was := bitOf (s.f (MBX.DB_BELL id)) bit
  let masked := bitOf (s.f (MBX.DBMASK_MASK id)) bit
  let s := s.orF (MBX.DB_BELL id) (2 ^ bit)
  if id == 1 || id == 2 then
    if was then s
    else if masked then { s with pba := tabPut s.pba ((id - 1) * 64 + bit) 1 }
    else s.msixFire (id - 1) bit
  else if masked then { s with dbHeld := if s.dbHeld.contains (id * 32 + bit) then s.dbHeld else s.dbHeld ++ [id * 32 + bit] }
  else
    let s := if 0x10 ≤ id ∧ id ≤ 0x27 then s.evDrop ((id - 0x10) / 6) else if 0x30 ≤ id ∧ id ≤ 0x3F then s.evDrop ((id - 0x30) / 4) else s
    s.fireFor (fun th => s.thActs th == id) (0x48 + bit)

/-! ## Faults -/

/-- A fault as it is recorded (Table 17.17): unit index, CODE, class (0 Contained, 1 Recoverable, 2 Reported, 3 Fatal),
DETAIL, ADDR, identity and context key involved. -/
structure FaultRec where
  unit : Nat
  code : Nat
  cls : Nat
  detail : Nat := 0
  addr : Nat := 0
  ident : Nat := 0
  key : Option Nat := none
deriving DecidableEq, Repr

/-- Writes the words of unit `r.unit`'s record (R452). -/
def State.putRecord (s : State) (r : FaultRec) (seq : Nat) : State :=
  let u := r.unit
  let valid := s.on (FLT.REC0_V u)
  let count := if valid then satAdd (s.f (FLT.REC0_COUNT u)) 1 0xFFFF else 1
  let fresh := !valid || (r.cls == 3 && !s.on (FLT.REC0_FATAL u))
  let s :=
    if fresh then
      s.setFs [(FLT.REC0_CONT u, b2n (r.cls == 0)), (FLT.REC0_FATAL u, b2n (r.cls == 3)), (FLT.REC0_CODE u, r.code),
        (FLT.REC_DETAIL_DETAIL u, r.detail), (FLT.REC_ADDR_ADDR u, r.addr), (FLT.REC_TNS_TNS u, s.nowNs),
        (FLT.REC_TSEC_TSEC u, s.nowSec), (FLT.REC_ID_IDENT u, r.ident), (FLT.REC_ID_KEY u, r.key.getD 0),
        (FLT.REC_ID_KV u, b2n r.key.isSome), (FLT.REC_SEQ_SEQ u, seq)]
    else if u < 24 && 1 ≤ r.code && r.code ≤ 4 then
      s.orF (FLT.REC_DETAIL_DETAIL u) (r.detail % 256)
    else s
  s.setFs [(FLT.REC0_V u, 1), (FLT.REC0_OVF u, b2n valid), (FLT.REC0_COUNT u, count)]

/-- Contained and Reported notices. -/
def Notice.low (n : Notice) : Bool := n.cls == 0 || n.cls == 2

/-- Drops the oldest Contained or Reported notice. -/
def dropLow (l : List Notice) : List Notice :=
  match l with
  | [] => []
  | n :: t => if n.low then t else n :: dropLow t

/-- Pushes a notice (R453). -/
def State.pushNotice (s : State) (n : Notice) : State :=
  let lows := (s.notices.filter Notice.low).length
  if n.low then
    if s.notices.length < 64 ∧ lows < 56 then { s with notices := s.notices ++ [n] } else (s.bump FLT.NQSTAT_LOST).countG 39
  else if s.notices.length < 64 then { s with notices := s.notices ++ [n] }
  else if lows = 0 then (s.bump FLT.NQSTAT_LOST).countG 39
  else (({ s with notices := dropLow s.notices ++ [n] }).bump FLT.NQSTAT_LOST).countG 39

/-- FAULT_N is asserted, low, or not (R458). -/
def State.setFaultN (s : State) (v : Bool) : State :=
  if s.on FLT.STAT_FAULTN = v then s else (s.setF FLT.STAT_FAULTN (b2n v)).emit (.pin "FAULT_N" (1 - b2n v))

/-- Entry to DEGRADED (R456, R458, R467): FAULT_N is asserted; FATAL stays. -/
def State.degraded (s : State) : State :=
  let s := s.setFaultN true
  if s.f FLT.STAT_STATE = 3 then s else s.setF FLT.STAT_STATE 2

/-- A second fault, of unit `u` (R456). -/
def State.degrade (s : State) (u : Nat) : State :=
  ((if s.on FLT.STAT_SECOND then s else { s with secondUnit := u }).setF FLT.STAT_SECOND 1).degraded

/-- SILENT is set while FSIL = 1 and INBOUND is 0, never at the master; `clear` is a cycle start (R296). -/
def State.refreshSilent (s : State) (n : Nat) (clear : Bool) : State :=
  let due := s.on (RUL.CTL_FSIL n) && !s.on TMU.STAT_INBOUND && s.f (RUL.STAT_STATE n) != 3
  if due then s.setF (RUL.STAT_SILENT n) 1
  else if clear || s.f (RUL.STAT_STATE n) == 3 then s.setF (RUL.STAT_SILENT n) 0 else s

/-- FSTOP stops Ruling instance `n` at once (Table 17.11). -/
def State.fstopRul (s : State) (n : Nat) : State :=
  let was := s.f (RUL.STAT_STATE n)
  let s := s.setFs [(RUL.CTL_RUN n, 0), (RUL.STAT_STATE n, 0)]
  if was = 0 then s else (s.kevt 7).refreshSilent n false

/-- Entry to FATAL (R470, Table 17.11). -/
def State.fatal (s : State) (u : Nat) : State :=
  let s := if s.on FLT.FIRST_V then s else s.setFs [(FLT.FIRST_UNIT, u), (FLT.FIRST_V, 1)]
  let s := (s.setF FLT.STAT_STATE 3).setFaultN true
  if s.on FLT.CFG_FSTOP then [0, 1, 2, 3].foldl State.fstopRul s else s

/-- With FSTOP = 1 a Fatal fault stops what leaves the device (Table 17.11). -/
def State.stopped (s : State) : Bool := s.f FLT.STAT_STATE == 3 && s.on FLT.CFG_FSTOP

/-- Takes a fault into the hub (R452, R453, R455, R456, R470): record, SEQ, notice, recovery, DEGRADED, FATAL. -/
def State.record (s : State) (r : FaultRec) : State :=
  let seq := s.f FLT.SEQ_SEQ
  let s := (s.putRecord r seq).setF FLT.SEQ_SEQ ((seq + 1) % 2 ^ 32)
  let s := (s.pushNotice ⟨r.unit, r.code, r.cls⟩).msixDirect 0x47
  let s :=
    if r.cls = 1 then
      if s.on FLT.STAT_OPEN then
        if r.unit = s.openUnit ∨ r.unit = 0xB3 then s else s.degrade r.unit
      else
        let s := { s with openUnit := r.unit }
        let s := s.setFs [(FLT.STAT_OPEN, 1), (FLT.OPENSEQ_SEQ, seq)]
        if s.f FLT.STAT_STATE = 0 then s.setF FLT.STAT_STATE 1 else s
    else s
  let s := if r.unit = 0xB8 then s.degrade r.unit else s
  if r.cls = 3 then s.fatal r.unit else s

/-! ## Mailbox slots and Feholt posting -/

/-- Word `w` of slot `i` of channel `c`. -/
def State.slotWord (s : State) (c i w : Nat) : Nat := (tabGet s.slots 0 (c * 256 + i * 16 + w)).toNat

/-- Sets a word of a slot. -/
def State.setSlotWord (s : State) (c i w v : Nat) : State :=
  { s with slots := cellPut s.slots 0 (c * 256 + i * 16 + w) (BitVec.ofNat 32 v) }

/-- Clears a slot to 0 (R86). -/
def State.clearSlot (s : State) (c i : Nat) : State :=
  { s with
    slots := s.slots.filter (fun e => !(e.1 / 16 == c * 16 + i))
    ecc := s.ecc.filter (fun e => !(e.1 / 8 == (0x102000000 + c * 0x400 + i * 64) / 64)) }

/-- Writes the words of a slot from `w` on. -/
def State.setSlotWords (s : State) (c i w : Nat) (vs : List Nat) : State :=
  match vs with
  | [] => s
  | v :: t => (s.setSlotWord c i w v).setSlotWords c i (w + 1) t

/-- Order 5 of Table 3.1: byte 5 takes the low byte of SENDER_EPOCH, WIDX advances, the doorbell rings. -/
def State.commitOpen (s : State) (c : Nat) : State :=
  let i := s.f (MBX.CHSTAT_WIDX c)
  let s := { s.countG 25 with slotAt := tabPut s.slotAt (c * 16 + i) s.now }
  let s := s.setSlotWord c i 1 (setBits (s.slotWord c i 1) 8 8 (s.f (MBX.CHEPOCH_SENDER_EPOCH c)))
  let s := s.setFs [(MBX.CHSTAT_WIDX c, (i + 1) % 16), (MBX.CHSTAT_USED c, s.f (MBX.CHSTAT_USED c) + 1)]
  s.ringDoorbell (s.f (MBX.CHCFG_RECEIVER c)) (s.f (MBX.CHCFG_DBBIT c))

/-- Groups bytes into little-endian words. -/
def wordsOf (n : Nat) (bs : List Byte) : List Nat :=
  match n with
  | 0 => []
  | n + 1 => leNat (bs.take 4) :: wordsOf n (bs.drop 4)

/-- The words of a Feholt message (Table 2.8). -/
def feholtMsg (opcode tag flags seq status detail : Nat) (payload : List Byte) : List Nat :=
  let p := payload.take 48
  [opcode + tag * 0x10000, flags + p.length * 0x10000, seq % 2 ^ 32, status + detail % 0x10000 * 0x10000]
    ++ wordsOf 12 (p ++ List.replicate (48 - p.length) 0)

def Session.closed : Session := ⟨false, 0, 0, 0, 0, 0, 0, 0, [], 0, []⟩

/-- Session `n`. -/
def State.session (s : State) (n : Nat) : Session := tabGet s.sess Session.closed n

def State.setSession (s : State) (n : Nat) (x : Session) : State := { s with sess := tabPut s.sess n x }

/-- ECC place of a slot (see `State.ecc`). -/
def slotPlace (c i : Nat) : Nat := 0x102000000 + c * 0x400 + i * 64

/-- The first read of a slot with an uncorrectable error turns it into a LOST message, which is counted and recorded by `take` (R90). DESIGN CHOICE:
DETAIL of the record is the channel and IDENT its sender, since Table 17.4 names neither (log 82). -/
def State.checkSlotBy (s : State) (take : State → FaultRec → State) (c i : Nat) : State :=
  let a := slotPlace c i
  if s.eccIn a 64 2 then
    let keep (w : Nat) : Bool := !s.eccIn (a + 4 * w / 8 * 8) 8 2
    let w0 := if keep 0 then s.slotWord c i 0 else 0
    let w1 := if keep 1 then s.slotWord c i 1 else 0
    let w2 := if keep 2 then s.slotWord c i 2 else 0
    let s := (s.eccDrop a 64 2).setSlotWords c i 0 ([w0, w1, w2, 0x0070] ++ List.replicate 12 0)
    let s := (s.bump (MBX.CHCNT_LOST c)).countG 27
    take s { unit := 0xB0, code := 2, cls := 2, detail := c, ident := s.f (MBX.CHCFG_SENDER c) }
  else s.eccDrop a 64 1

/-- An event enters the queue of session `n`, or is counted as dropped (R68). -/
def State.queueEvent (s : State) (n : Nat) (e : FEvent) : State :=
  let x := s.session n
  if x.events.length < 512 then s.setSession n { x with events := x.events ++ [e] } else s.setSession n { x with dropped := x.dropped + 1 }

/-- Sessions a class of events reaches (R79). -/
def Session.wants (x : Session) (opcode : Nat) : Bool :=
  let k := opcode / 256 % 128
  x.isOpen && (k == 1 || bitOf x.mask k)

/-- A fault that the Keyblock meets while it posts a message: its FAULT event waits in the queues (DESIGN CHOICE, log 66). -/
def State.faultQueued (s : State) (r : FaultRec) : State :=
  [0, 1, 2, 3].foldl (fun t n =>
    if (t.session n).wants 0x8F80 then t.queueEvent n ⟨0x8F80, 0xFFFF, 0, Config.payload 0x8F80 [r.unit, r.code, r.cls, s.f FLT.SEQ_SEQ]⟩ else t)
    (s.record r)

/-- Does the reply channel of session `n` take a message: a slot is free (R67), the function's domain is up (Table 3.1, order 3)? -/
def State.replyOpen (s : State) (n : Nat) : Bool :=
  decide (s.f (MBX.CHSTAT_USED (2 * n + 1)) < 16) && tabGet s.fnReset 0 (n / 2) == 0

/-- Writes message `m` into the open slot of session `n`'s reply channel and commits it (R62, R88, R90). -/
def State.putMsg (s : State) (n : Nat) (m : FMsg) : State :=
  let c := 2 * n + 1
  let i := s.f (MBX.CHSTAT_WIDX c)
  let s := s.setSlotWords c i 0 (feholtMsg m.opcode m.tag 0 m.seq m.status m.detail m.payload)
  (s.checkSlotBy State.faultQueued c i).commitOpen c

/-- Posts waiting messages of session `n`, oldest first, while its reply channel takes them (R67). -/
def State.postWaiting (s : State) (n fuel : Nat) : State :=
  match fuel with
  | 0 => s
  | k + 1 =>
    match (s.session n).waiting with
    | [] => s
    | m :: t => if s.replyOpen n then ((s.setSession n { s.session n with waiting := t }).putMsg n m).postWaiting n k else s

/-- Posts a Feholt message as Keyblock into the reply channel of session `n` (Table 2.7), with the session's next sequence number (R65);
it waits, behind those that wait already, until the channel takes it (R67, R83, Table 3.1). -/
def State.postMsg (s : State) (n opcode tag status detail : Nat) (payload : List Byte) : State :=
  let x := s.session n
  let w := x.waiting ++ [⟨opcode, tag, x.repSeq, status, detail, payload⟩]
  (s.setSession n { x with repSeq := (x.repSeq + 1) % 2 ^ 32, waiting := w }).postWaiting n w.length

/-- The slots of channel `c` that hold committed messages, from RIDX on (R86). -/
def State.unread (s : State) (c : Nat) : List Nat :=
  let r := s.f (MBX.CHSTAT_RIDX c)
  let n := (s.f (MBX.CHSTAT_WIDX c) + 16 - r) % 16
  let n := if n = 0 ∧ s.f (MBX.CHSTAT_USED c) = 16 ∧ s.f (MBX.CHSTAT_FIDX c) = r then 16 else n
  (List.range n).map (fun i => (r + i) % 16)

/-- How many of them hold events (opcode bit 15), and how many replies. -/
def State.eventsHeld (s : State) (c : Nat) : Nat := ((s.unread c).filter (fun i => bitOf (s.slotWord c i 0) 15)).length
def State.repliesHeld (s : State) (c : Nat) : Nat := ((s.unread c).filter (fun i => !bitOf (s.slotWord c i 0) 15)).length

/-- May an event be posted to session `n` now (R67)? Not while a reply waits for a slot. -/
def State.canPost (s : State) (n : Nat) : Bool :=
  decide (s.eventsHeld (2 * n + 1) < 16 - (s.session n).credits) && s.replyOpen n && (s.session n).waiting.isEmpty

/-- Posts or queues an event of session `n` (R67, R68). -/
def State.eventTo (s : State) (n opcode tag status : Nat) (payload : List Byte) : State :=
  if (s.session n).events.isEmpty && s.canPost n then s.postMsg n opcode tag status 0 payload
  else s.queueEvent n ⟨opcode, tag, status, payload⟩

/-- The Keyblock is in service: it runs, and the Burnisher is not restarting it nor has given up. -/
def State.kbUp (s : State) : Bool :=
  decide (s.f BRN.STAT_STATE < 2) && !(tabHas s.cores 208 && (s.cores.any (fun e => e.1 == 208 && e.2.dead)))

/-- The Keyblock posts an event with these payload bytes to every open session that subscribed its class (R79). -/
def State.postBytes (s : State) (opcode : Nat) (bytes : List Byte) : State :=
  if s.kbUp then
    [0, 1, 2, 3].foldl (fun s n => if (s.session n).wants opcode then s.eventTo n opcode 0xFFFF 0 bytes else s) s
  else s

/-- The Keyblock posts an event whose payload layout is in the Puset command reference (R77). -/
def State.postEvent (s : State) (opcode : Nat) (vals : List Nat) : State := s.postBytes opcode (Config.payload opcode vals)

/-- RING_STATE for the instances that a Fatal fault has just stopped: those that ran in `was` (R317, Table 17.11). -/
def State.ringStops (s was : State) : State :=
  [0, 1, 2, 3].foldl (fun s n =>
    if was.f (RUL.STAT_STATE n) ≠ 0 ∧ s.f (RUL.STAT_STATE n) = 0 then s.postEvent 0x8680 [n, 0, s.f (RUL.STAT_MASTER n)] else s) s

/-- A fault recorded, with the FAULT event of sessions that subscribed class 0x0F. -/
def State.fault (s : State) (r : FaultRec) : State :=
  ((s.record r).ringStops s).postEvent 0x8F80 [r.unit, r.code, r.cls, s.f FLT.SEQ_SEQ]

/-- Keyblock interrupt sources pending (R454): bit 0 the notice queue, bit 1 the Keyblock's doorbells, bits 2–15 as set. -/
def State.kevtNow (s : State) : Nat :=
  b2n (!s.notices.isEmpty) + 2 * b2n (s.f (MBX.DB_BELL 8) &&& (0xFFFFFFFF - s.f (MBX.DBMASK_MASK 8)) != 0)
    + 4 * s.f FLT.KEVT_BITS

end Sys2Proof.Machine
end

