-- ==== Sys2Proof/Machine/Operands.lean ====
section
/-! DEFINITION. The operand forms of Tilouzu (Tables 4.3–4.9): registers of a core, immediates, shifts, bit fields, CRC steps,
special registers, and what hardware attaches to a core's requests. -/
namespace Sys2Proof.Machine

/-- Core profiles (Table 4.20). -/
inductive Prof where
  | e | a | k
deriving DecidableEq, Repr

/-- Profile of core `c`. -/
def prof (c : Nat) : Prof := if c < 192 then .e else if c < 208 then .a else .k

/-- Reset stack pointer (Table 4.20). -/
def resetSp (c : Nat) : Nat := if c < 208 then 0x20000 else 0x18000

/-- Registers as R140 gives them; CYC counts from tick `t` of its own clock. -/
def coreReset (c t : Nat) : Core where
  g := [(15, BitVec.ofNat 32 (resetSp c))]
  pc := 0
  rc := 0
  sl := 0
  ectl := if c < 208 then 0 else 4
  estat := 0
  eaddr := 0
  evb := 0
  cpcfg := 0xFFFFFF
  cpoly := []
  fcsr := 0
  kwin := 1
  cyc0 := t
  cychi := 0
  mpu := []
  posted := []
  imp := []
  repFresh := false
  wfe := false
  dead := false

/-- Core `c`. -/
def State.core (s : State) (c : Nat) : Core := tabGet s.cores (coreReset c s.devTick) c

def State.setCore (s : State) (c : Nat) (x : Core) : State := { s with cores := tabPut s.cores c x }

/-- A general register: g0 reads 0 (R106). -/
def Core.gr (x : Core) (i : BitVec 4) : Nat := if i = 0 then 0 else (tabGet x.g 0 i.toNat).toNat

/-- Writes a general register; g0 discards (R106). -/
def Core.setG (x : Core) (i : BitVec 4) (v : Nat) : Core :=
  if i = 0 then x else { x with g := tabPut x.g i.toNat (BitVec.ofNat 32 v) }

def State.gr (s : State) (c : Nat) (i : BitVec 4) : Nat := (s.core c).gr i

def State.setG (s : State) (c : Nat) (i : BitVec 4) (v : Nat) : State := s.setCore c ((s.core c).setG i v)

/-- The stack pointer g15. -/
def State.sp (s : State) (c : Nat) : Nat := s.gr c 15

/-- Sign extension of an `n`-bit field to 32 bits. -/
def sext (n x : Nat) : Nat := ofSigned 32 (toSigned n x)

/-- 32-bit wrap. -/
def w32 (x : Nat) : Nat := x % 2 ^ 32

def sub32 (a b : Nat) : Nat := (a + (2 ^ 32 - b % 2 ^ 32)) % 2 ^ 32

/-- ECTL bits (Table 4.2). -/
def Core.ie (x : Core) : Bool := bitOf x.ectl.toNat 0
def Core.user (x : Core) : Bool := bitOf x.ectl.toNat 1
def Core.sec (x : Core) : Bool := bitOf x.ectl.toNat 2
def Core.dzt (x : Core) : Bool := bitOf x.ectl.toNat 3
def Core.repa (x : Core) : Bool := bitOf x.ectl.toNat 5

/-- Sets an ECTL bit. -/
def Core.setEctl (x : Core) (i : Nat) (b : Bool) : Core :=
  { x with ectl := BitVec.ofNat 32 (setBits x.ectl.toNat i 1 (b2n b)) }

/-- Shifts and rotate by the full amount (Table 4.8). -/
def shl32 (a n : Nat) : Nat := if n ≥ 32 then 0 else w32 (a * 2 ^ n)
def shr32 (a n : Nat) : Nat := if n ≥ 32 then 0 else a / 2 ^ n
def sar32 (a n : Nat) : Nat := ofSigned 32 (toSigned 32 a / (2 ^ (min n 31) : Nat))
def ror32 (a n : Nat) : Nat := let k := n % 32; w32 (a / 2 ^ k + a * 2 ^ (32 - k))

/-- Quotient toward zero and remainder with the sign of the dividend; by 0 the results of Table 4.8 (R116). -/
def divS (a b : Nat) : Nat := if b = 0 then 0xFFFFFFFF else ofSigned 32 (Int.tdiv (toSigned 32 a) (toSigned 32 b))
def remS (a b : Nat) : Nat := if b = 0 then a else ofSigned 32 (Int.tmod (toSigned 32 a) (toSigned 32 b))
def divU (a b : Nat) : Nat := if b = 0 then 0xFFFFFFFF else a / b
def remU (a b : Nat) : Nat := if b = 0 then a else a % b

/-- Ones in the low `n` bits. -/
def popCount (n x : Nat) : Nat := (List.range n).foldl (fun k i => k + b2n (bitOf x i)) 0

/-- Leading zeros of a word. -/
def clz32 (x : Nat) : Nat := if x = 0 then 32 else 31 - Nat.log2 x

/-- The low `n` bits of `x` in reverse order. -/
def revBits (n x : Nat) : Nat := (List.range n).foldl (fun r i => r + b2n (bitOf x i) * 2 ^ (n - 1 - i)) 0

/-- BREV (R119). -/
def brev (v x : Nat) : Nat :=
  if v = 0 then (List.range 4).foldl (fun r i => r + revBits 8 (bitsOf x (8 * i) 8) * 2 ^ (8 * i)) 0
  else if v = 1 then (List.range 2).foldl (fun r i => r + revBits 16 (bitsOf x (16 * i) 16) * 2 ^ (16 * i)) 0
  else revBits 32 x

/-- PARITY (R119). -/
def parity (v x : Nat) : Nat :=
  if v = 0 then (List.range 4).foldl (fun r i => r + popCount 8 (bitsOf x (8 * i) 8) % 2 * 2 ^ i) 0
  else if v = 1 then (List.range 2).foldl (fun r i => r + popCount 16 (bitsOf x (16 * i) 16) % 2 * 2 ^ i) 0
  else popCount 32 x % 2

/-- Width, polynomial and reflection that `v` selects (Table 4.9). -/
def crcSel (x : Core) (v : Nat) : Nat × Nat × Bool :=
  match v with
  | 0 => (32, 0x04C11DB7, true)
  | 1 => (32, 0x1EDC6F41, true)
  | 2 => (16, 0x1021, false)
  | 3 => (16, 0x8005, true)
  | v =>
    let k := v - 4
    (bitsOf x.cpcfg.toNat (6 * k) 5 + 1, (tabGet x.cpoly 0x04C11DB7 k).toNat, bitOf x.cpcfg.toNat (6 * k + 5))

/-- One bit of a CRC step (R121). -/
def crcBit (w p : Nat) (refl : Bool) (byte c b : Nat) : Nat :=
  if refl then
    let fb := bitOf c 0 != bitOf byte b
    let c := c / 2
    if fb then c ^^^ revBits w p else c
  else
    let fb := bitOf c (w - 1) != bitOf byte (7 - b)
    let c := c * 2 % 2 ^ w
    if fb then c ^^^ p else c

/-- The CRC step of R121 over `n` bytes of `data`; a width below 3 gives 0 (R122), and bits of the polynomial at and
above the width are ignored. -/
def crcStep (sel : Nat × Nat × Bool) (c data n : Nat) : Nat :=
  let w := sel.1
  let p := sel.2.1 % 2 ^ w
  if w < 3 then 0
  else (List.range n).foldl (fun c i =>
    (List.range 8).foldl (fun c b => crcBit w p sel.2.2 (bitsOf data (8 * i) 8) c b) c) (c % 2 ^ w)

/-! ## Special registers (Table 4.1) -/

/-- The clock that core `c` runs on: that of a cluster (0–7), of the cores of a region (8–11), of the Keyblock (12). -/
def clkOf (c : Nat) : Nat := match prof c with | .e => c / 24 | .a => 8 + (c - 192) / 4 | .k => 12

/-- Ticks in which the clock of core `c` has run. -/
def State.coreTick (s : State) (c : Nat) : Nat := s.ticks - tabGet s.bIdle 0 (clkOf c)

/-- CYC of a core: ECLK counts 2 and ACLK 3 per TCLK edge (Table 1.3) in which its clock runs (R107). -/
def State.cyc (s : State) (c : Nat) : Nat :=
  (s.coreTick c - (s.core c).cyc0) * (if c < 192 then 2 else 3) % 2 ^ 64

/-- FEAT0–FEAT3 (Tables 4.16–4.19). -/
def feat (c i : Nat) : Nat :=
  match i, prof c with
  | 0, .e => 1 + 0x10 + 2 ^ 10 + 2 ^ 14 + 2 ^ 15 + 3 * 2 ^ 16
  | 0, .a => 2 + 0x10 + 2 ^ 8 + 2 ^ 9 + 2 ^ 11 + 2 ^ 14 + 2 ^ 15
  | 0, .k => 3 + 0x10 + 2 ^ 12 + 2 ^ 13 + 2 ^ 14 + 2 ^ 15
  | 1, .e => 16 + 16 * 2 ^ 8
  | 1, .a => 16 + 16 * 2 ^ 8 + 8 * 2 ^ 16
  | 1, .k => 8 + 64 * 2 ^ 8
  | 2, .e => c / 8 + c / 24 * 2 ^ 8 + c / 48 * 2 ^ 12 + c % 8 * 2 ^ 14 + (0x10 + c / 8) * 2 ^ 24
  | 2, .a => (c - 192) + (c - 192) / 4 * 2 ^ 8 + (c - 192) / 4 * 2 ^ 12 + (0x30 + (c - 192)) * 2 ^ 24
  | 2, .k => 0x08 * 2 ^ 24
  | _, _ => 0x7240 + Config.stepping.toNat * 2 ^ 16

/-- The word that the JTAG instruction IDCODE shifts out (R536). -/
def jtagIdcode : Word := Config.stepping ++ (0x7240 : BitVec 16) ++ Config.jepCode ++ (1 : BitVec 1)

/-- Reads special register `n`: none where the profile lacks it (R107); a read of CYCLO latches CYCHI. -/
def State.mfs (s : State) (c n : Nat) : Option (Nat × State) :=
  let x := s.core c
  let p := prof c
  match n with
  | 1 => some (x.rc.toNat, s)
  | 2 => some (x.sl.toNat, s)
  | 3 => some (x.ectl.toNat, s)
  | 4 => some (x.estat.toNat, s)
  | 5 => some (x.eaddr.toNat, s)
  | 6 => some (if p = .k then 0 else x.evb.toNat, s)
  | 7 => some (x.cpcfg.toNat, s)
  | 12 => if p = .a then some (x.fcsr.toNat, s) else none
  | 13 => if p = .k then some (x.kwin.toNat, s) else none
  | 16 => some (w32 (s.cyc c), s.setCore c { x with cychi := BitVec.ofNat 32 (s.cyc c / 2 ^ 32) })
  | 17 => some (x.cychi.toNat, s)
  | n =>
    if 8 ≤ n ∧ n ≤ 11 then some ((tabGet x.cpoly 0x04C11DB7 (n - 8)).toNat, s)
    else if 0x18 ≤ n ∧ n ≤ 0x1B then some (feat c (n - 0x18), s)
    else if 0x40 ≤ n ∧ n ≤ 0x5F ∧ p = .a then some ((tabGet x.mpu 0 (n - 0x40)).toNat, s)
    else none

/-- Bits of an MPU register that are RW (Table 14.9). -/
def mpuMask (i : Nat) : Nat :=
  if i % 4 = 0 then 0xFFFFFFC1 else if i % 4 = 1 then 0xFFFFFFC0 else if i % 4 = 2 then 0x7F else 0

/-- Writes special register `n` (R107, R108): none where the number is not listed, the profile lacks it or it is RO. -/
def Core.mts (x : Core) (c n v : Nat) : Option Core :=
  let p := prof c
  match n with
  | 1 => some { x with rc := BitVec.ofNat 32 v }
  | 2 => some { x with sl := BitVec.ofNat 32 (v / 4 * 4) }
  | 3 =>
    let o := x.ectl.toNat
    let u := if p = .a then bitsOf v 1 1 else bitsOf o 1 1
    let sec := if p = .k then bitsOf o 2 1 * bitsOf v 2 1 else bitsOf o 2 1
    let e := bitsOf v 0 1 + u * 2 + sec * 4 + bitsOf v 3 1 * 8 + bitsOf v 4 1 * 16 + bitsOf o 5 1 * 32
    some { x with ectl := BitVec.ofNat 32 e }
  | 6 => if p = .k then none else some { x with evb := BitVec.ofNat 32 (v / 256 * 256) }
  | 7 => some { x with cpcfg := BitVec.ofNat 32 (v % 2 ^ 24) }
  | 12 => if p = .a then some { x with fcsr := BitVec.ofNat 32 (v % 2 ^ 9) } else none
  | 13 => if p = .k then some { x with kwin := BitVec.ofNat 32 (v % 8) } else none
  | n =>
    if 8 ≤ n ∧ n ≤ 11 then some { x with cpoly := tabPut x.cpoly (n - 8) (BitVec.ofNat 32 v) }
    else if 0x40 ≤ n ∧ n ≤ 0x5F ∧ p = .a then
      some { x with mpu := tabPut x.mpu (n - 0x40) (BitVec.ofNat 32 (v &&& mpuMask (n - 0x40))) }
    else none

end Sys2Proof.Machine
end

