-- ==== Sys2Proof/Machine/Mailbox.lean ====
section
/-! DEFINITION. The mailbox unit (chapter 3): slots, commits and releases (R86–R92), doorbells (R93, R94), resets of an identity
(R95–R97), replay fences (R98–R101), claim registers (R102–R104). -/
namespace Sys2Proof.Machine

/-- Answers the request. -/
def State.answer (s : State) (code : Nat) (data : List Byte := []) : State := { s with resp := ⟨code, data⟩ }

/-- Is region `r` off, in reset or in Hold (SYS.RGCTLn.STATE, SYS.PWRSTAT)? -/
def State.regionDown (s : State) (r : Nat) : Bool := s.f (SYS.RGCTL_STATE r) != 0 || s.f SYS.PWRSTAT_STATE == 4

/-- Does the device take requests: is it neither in Hold nor in the exit from it (R487, R489)? -/
def State.awake (s : State) : Bool := s.f SYS.PWRSTAT_STATE != 4 && s.f SYS.PWRSTAT_STATE != 2

/-- Do the clocks of communication cluster `c` run: region on, no Hold, no Doze (R197, R484)? -/
def State.clusterLives (s : State) (c : Nat) : Bool :=
  !s.regionDown (c / 2) && s.f SYS.PWRSTAT_STATE != 2 && s.f (SYS.DOZE_STATE c) != 2

/-- Does clock `k` run: of cluster 0–7, of the cores of region k − 8, of the Keyblock (12)? Doze and Hold stop clocks, a region that is off or in reset
has none (R484, Tables 18.1 and 18.5), and without a reference none runs (R25). -/
def State.clkLives (s : State) (k : Nat) : Bool :=
  !(s.powerOff || s.lostPower || s.noRef) &&
    (if k < 8 then s.clusterLives k
     else if k < 12 then !s.regionDown (k - 8) && s.f SYS.PWRSTAT_STATE != 2 && s.f (SYS.DOZE_STATE k) != 2
     else s.awake)

/-- A request for cluster `c` in Doze wakes it and completes (R42, R482, R484). -/
def State.wakeCluster (s : State) (c : Nat) : State :=
  if s.f (SYS.DOZE_STATE c) = 2 then (s.setF (SYS.DOZE_STATE c) 0).bump (SYS.DOZE_WAKES c) else s

/-- A register access in CC `c`: DOMAIN_OFF where its region is down (R41), else it wakes the cluster and is made (R42). -/
def State.atCluster (s : State) (c : Nat) (g : State → Host.Outcome State Fault Refusal) : Host.Outcome State Fault Refusal :=
  if s.regionDown (c / 2) then .next (s.answer 3) else g (s.wakeCluster c)

/-- Is the domain of a receiver identity off or in reset (Table 3.3)? -/
def State.idDown (s : State) (id : Nat) : Bool :=
  if id = 1 ∨ id = 2 then tabGet s.fnReset 0 (id - 1) != 0
  else if id = 8 then s.kbOff
  else if 0x10 ≤ id ∧ id ≤ 0x27 then
    s.on (ofCe CC.ENGSTAT_CLEARING (id - 0x10)) || s.regionDown ((id - 0x10) / 6)
  else if 0x30 ≤ id ∧ id ≤ 0x3F then s.regionDown ((id - 0x30) / 4)
  else false

/-- Identities that may be bound (R92). -/
def bindable (i : Nat) : Bool := i == 1 || i == 2 || i == 8 || (0x10 ≤ i && i ≤ 0x27) || (0x30 ≤ i && i ≤ 0x3F)

/-- Is channel `c` usable: enabled, both ends bindable (R92)? -/
def State.chOk (s : State) (c : Nat) : Bool :=
  s.on (MBX.CHCFG_EN c) && bindable (s.f (MBX.CHCFG_SENDER c)) && bindable (s.f (MBX.CHCFG_RECEIVER c))

def State.isSender (s : State) (c id : Nat) : Bool := s.chOk c && s.f (MBX.CHCFG_SENDER c) == id
def State.isReceiver (s : State) (c id : Nat) : Bool := s.chOk c && s.f (MBX.CHCFG_RECEIVER c) == id

/-- Pending releases of a channel: from FIDX up to RIDX, all 16 when every slot in use is pending (R86). -/
def State.pendingCount (s : State) (c : Nat) : Nat :=
  let d := (s.f (MBX.CHSTAT_RIDX c) + 16 - s.f (MBX.CHSTAT_FIDX c)) % 16
  if d = 0 ∧ s.f (MBX.CHSTAT_USED c) = 16 ∧ tabHas s.slotRel (c * 16 + s.f (MBX.CHSTAT_FIDX c)) then 16 else d

/-- Committed slots of a channel (R86). -/
def State.committedCount (s : State) (c : Nat) : Nat := s.f (MBX.CHSTAT_USED c) - s.pendingCount c

/-- Is slot `i` of channel `c` committed? -/
def State.isCommitted (s : State) (c i : Nat) : Bool :=
  decide ((i + 16 - s.f (MBX.CHSTAT_RIDX c)) % 16 < s.committedCount c)

/-- The ECC check at a read of a slot (R90). -/
def State.checkSlot (s : State) (c i : Nat) : State := s.checkSlotBy State.fault c i

/-- Is a commit stale (R98)? -/
def State.staleAt (s : State) (valid : Nat → Bool) (last : Nat → Nat) (key : Option (BitVec 8)) (cos : Nat) : Bool :=
  match key with
  | none => false
  | some k =>
    let d := sub32 cos (last k.toNat)
    valid k.toNat && (d == 0 || decide (2 ^ 31 ≤ d))

/-- Valid bit and LAST_COS of a key at the mailbox unit. -/
def State.mbxValid (s : State) (k : Nat) : Bool := bitOf (s.f (MBX.RPLVALID_BITS (k / 32))) (k % 32)

def State.mbxStale (s : State) (rq : Rq) : Bool :=
  s.staleAt s.mbxValid (fun k => s.f (MBX.RPL_LAST_COS k)) rq.key rq.cos.toNat

/-- Records LAST_COS of an accepted commit (R98). -/
def State.mbxRecord (s : State) (rq : Rq) : State :=
  match rq.key with
  | none => s
  | some k =>
    (s.setF (MBX.RPL_LAST_COS k.toNat) rq.cos.toNat).orF (MBX.RPLVALID_BITS (k.toNat / 32)) (2 ^ (k.toNat % 32))

/-- A commit (R88, Table 3.1): response code and state. What its ECC check finds in a message of the Keyblock's own is announced behind that
message (log 66). -/
def State.commit (s : State) (rq : Rq) (c : Nat) : Nat × State :=
  let used := s.f (MBX.CHSTAT_USED c)
  if !s.isSender c (s.acting rq) then (2, s)
  else if s.mbxStale rq then
    let s := (s.bump (MBX.CHCNT_ABSORBED c)).countG 26
    (0, if used < 16 then s.clearSlot c (s.f (MBX.CHSTAT_WIDX c)) else s)
  else if s.idDown (s.f (MBX.CHCFG_RECEIVER c)) then (3, s)
  else if used = 16 then (2, s.bump (MBX.CHCNT_REFUSED c))
  else
    let take := if s.acting rq = idKeyblock then State.faultQueued else State.fault
    (0, ((s.checkSlotBy take c (s.f (MBX.CHSTAT_WIDX c))).mbxRecord rq).commitOpen c)

/-- FIDX advances over released slots and stops at the first held one (R89); each slot passed is cleared and free. -/
def State.freeSlots (s : State) (c n : Nat) : State :=
  match n with
  | 0 => s
  | n + 1 =>
    let i := s.f (MBX.CHSTAT_FIDX c)
    match s.slotRel.find? (fun e => e.1 == c * 16 + i) with
    | none => s
    | some (_, r) =>
      if r.held then s
      else
        let s := { s.clearSlot c i with slotRel := tabDel s.slotRel (c * 16 + i) }
        (s.setFs [(MBX.CHSTAT_FIDX c, (i + 1) % 16), (MBX.CHSTAT_USED c, s.f (MBX.CHSTAT_USED c) - 1)]).freeSlots c n

/-! ## Feholt commands in their slots (R61–R71, R77) -/

/-- Is the device without power or in reset: Off, power-good lost, or no reference to start on (R25)? -/
def State.offline (s : State) : Bool := s.powerOff || s.lostPower || s.noRef

/-- Are the masters of the core die held: without power, in reset, or until the clear at power-up is done (R445)? -/
def State.held (s : State) : Bool := s.offline || !s.on PLT.CLRSTAT_DONE

/-- Is master `id` held: as `held`, or, other than the Keyblock, while the ROM clears Plate after a warm reset (R496)? -/
def State.heldFor (s : State) (id : Nat) : Bool :=
  s.held || (id != idKeyblock && s.on SYS.PCLR_BUSY && decide (s.f SYS.BOOTSTAT_STAGE < 2))

/-- The Keyblock serves sessions: it runs its firmware, or its ROM in recovery, and the device is in Run (R76, R498, R503). -/
def State.serves (s : State) : Bool :=
  s.kbUp && !s.romDue && !s.held && s.f SYS.PWRSTAT_STATE == 0 && (s.f SYS.BOOTSTAT_STAGE == 4 || s.f SYS.BOOTSTAT_STAGE == 5)

/-- Was the command committed before a reset of its sender (R82)? In an open session the epoch recorded at SESSION_OPEN decides, in a closed
one the channel's present epoch (DEDUCED, log 41). -/
def State.epochOld (s : State) (h : FHdr) : Bool :=
  let x := s.session h.sess
  h.epoch.toNat != (if x.isOpen then x.epoch else s.f (MBX.CHEPOCH_SENDER_EPOCH (2 * h.sess)) % 256)

/-- Discards a command without reply and counts it (R82). -/
def State.discard (s : State) (h : FHdr) : State := if h.sess.val < 2 then s.bump FLT.FLRDISC_F0 else s.bump FLT.FLRDISC_F1

/-- Is a reply or completion a message with this opcode? Events that answer no command have a low byte from 0x80 on (Table 2.8). -/
def answersCommand (opcode : Nat) : Bool := decide (opcode % 256 < 0x80)

/-- Does a command with the tag of `h` still await its reply or completion (R71)? -/
def State.tagUsed (s : State) (h : FHdr) : Bool :=
  let x := s.session h.sess
  s.longs.any (fun l => l.sess == h.sess.val && l.tag == h.tag.toNat)
    || x.events.any (fun e => answersCommand e.opcode && e.tag == h.tag.toNat)
    || x.waiting.any (fun m => answersCommand m.opcode && m.tag == h.tag.toNat)

/-- Replies of session `n` that the host has not consumed: in the reply channel, or waiting for a slot of it. -/
def State.unconsumed (s : State) (n : Nat) : Nat :=
  s.repliesHeld (2 * n + 1) + ((s.session n).waiting.filter (fun m => answersCommand m.opcode)).length

/-- Is a command of session `n` beyond its credits (R67)? As many commands as credits have a reply that the host has not consumed. A reply counts
as received when its slot is released (DEDUCED, log 5). -/
def State.beyondCredit (s : State) (n : Nat) : Bool :=
  (s.session n).isOpen && decide ((s.session n).credits ≤ s.unconsumed n)

/-- What refuses a command first: status and detail, status 0 when nothing does (R61, R66, R67). In a closed session no sequence number is expected,
so SESSION_PING is executed whatever its number (DESIGN CHOICE, log 70). -/
def State.firstCheck (s : State) (h : FHdr) (op : Nat) : Nat × Nat :=
  let x := s.session h.sess
  if !x.isOpen then (if op = 0x0103 then 0 else 0x20, 0)
  else if s.beyondCredit h.sess then (0x22, 0)
  else if h.seq.toNat ≠ x.cmdSeq then (0x14, x.cmdSeq % 2 ^ 16)
  else (0, 0)

/-- A command in sequence advances the expected number of an open session (R65, R66; log 21). -/
def State.stepSeq (s : State) (h : FHdr) : State :=
  let x := s.session h.sess
  if x.isOpen ∧ h.seq.toNat = x.cmdSeq then s.setSession h.sess { x with cmdSeq := (x.cmdSeq + 1) % 2 ^ 32 } else s

/-- Commands of Table 2.14. -/
def feholtListed (op : Nat) : Bool :=
  let lo := op % 256
  let n := match op / 256 with
    | 0x01 => 5 | 0x02 => 5 | 0x03 => 3 | 0x04 => 4 | 0x05 => 4 | 0x06 => 4 | 0x07 => 2 | 0x08 => 4 | 0x09 => 2 | 0x0A => 3 | 0x0B => 2
    | 0x0C => 3 | 0x0D => 5 | 0x0E => 2 | 0x0F => 3 | 0x10 => 2 | 0x11 => 4 | _ => 0
  decide (1 ≤ lo) && decide (lo ≤ n)

/-- The opcode and header that slot `i` of session `n`'s command channel spells (Tables 2.8 to 2.10). -/
def State.slotCmd (s : State) (n : Fin 4) (i : Nat) : Nat × FHdr :=
  let w (k : Nat) : Nat := s.slotWord (2 * n) i k
  let bulk : Option Bulk :=
    if bitOf (w 1) 0 then some ⟨BitVec.ofNat 64 (w 4 + w 5 * 2 ^ 32), BitVec.ofNat 32 (w 6), BitVec.ofNat 32 (w 7), false⟩ else none
  (w 0 % 2 ^ 16, ⟨n, BitVec.ofNat 16 (w 0 / 2 ^ 16), BitVec.ofNat 8 (w 1), BitVec.ofNat 8 (w 1 / 2 ^ 8), BitVec.ofNat 16 (w 1 / 2 ^ 16),
    BitVec.ofNat 32 (w 2), bulk⟩)

/-- The command in slot `i`, if its opcode is not listed: judged as every command is, then answered BAD_OPCODE (R77). A listed one is its own row. -/
def State.answerUnlisted (s : State) (n : Fin 4) (i : Nat) : State :=
  let r := s.slotCmd n i
  let h := r.2
  let c := s.firstCheck h r.1
  if feholtListed r.1 || !s.serves then s
  else if s.epochOld h then s.discard h
  else if c.1 ≠ 0 then (s.stepSeq h).postMsg n r.1 h.tag.toNat c.1 c.2 []
  else (s.stepSeq h).postMsg n r.1 h.tag.toNat (if s.tagUsed h then 0x15 else 0x10) 0 []

/-- The Keyblock reads a command before it releases its slot, with the ECC check of every read (R90); what it answers to an unlisted one. -/
def State.readCmd (s : State) (rq : Rq) (c i : Nat) : State :=
  if rq.id.toNat = idKeyblock ∧ c < 8 ∧ c % 2 = 0 then (s.checkSlot c i).answerUnlisted (Fin.ofNat 4 (c / 2)) i else s

/-- The slot at RIDX is marked released, or held under the replay key of the release, RIDX advances, and FIDX over what is free (R89). -/
def State.releaseSlot (s : State) (rq : Rq) (c : Nat) : State :=
  let i := s.f (MBX.CHSTAT_RIDX c)
  let r : SlotRel := match rq.key with | some k => ⟨true, k.toNat⟩ | none => ⟨false, 0⟩
  let s := s.sample 7 c (s.now - tabGet s.slotAt s.now (c * 16 + i))
  let s := { s with slotRel := tabPut s.slotRel (c * 16 + i) r }
  (s.setF (MBX.CHSTAT_RIDX c) ((i + 1) % 16)).freeSlots c 16

/-- A release (R89). One while no slot is committed is answered OK (DESIGN CHOICE, log 67: the rule gives its effect and no code). -/
def State.release (s : State) (rq : Rq) (c : Nat) : Nat × State :=
  if !s.isReceiver c (s.acting rq) then (2, s)
  else if s.committedCount c = 0 then (0, s.bump (MBX.CHCNT_REFUSED c))
  else (0, (s.readCmd rq c (s.f (MBX.CHSTAT_RIDX c))).releaseSlot rq c)

/-- A write of MBX.CHOPc: commit, then release; the first response other than OK (R89). One that asks for neither needs one of the two rights
(R105). -/
def State.chop (s : State) (rq : Rq) (c v : Nat) : Nat × State :=
  if !s.chOk c then (2, s)
  else if v % 4 = 0 then (if s.isSender c (s.acting rq) || s.isReceiver c (s.acting rq) then 0 else 2, s)
  else
    let p := if bitOf v 0 then s.commit rq c else (0, s)
    let q := if bitOf v 1 then p.2.release rq c else (0, p.2)
    (if p.1 ≠ 0 then p.1 else q.1, q.2)

/-- Reads a slot word (R87, R90): the sender its open slot, the receiver a committed slot. -/
def State.slotRead (s : State) (rq : Rq) (c i w : Nat) : Nat × Nat × State :=
  let id := s.acting rq
  if s.isReceiver c id && s.isCommitted c i then
    let s := s.checkSlot c i
    (0, s.slotWord c i w, s)
  else if s.isSender c id && i == s.f (MBX.CHSTAT_WIDX c) && decide (s.f (MBX.CHSTAT_USED c) < 16) then
    let s := s.checkSlot c i
    (0, s.slotWord c i w, s)
  else (2, 0, s)

/-- Writes a slot word: only the sender, only the open slot (R87). -/
def State.slotWrite (s : State) (rq : Rq) (c i w v : Nat) : Nat × State :=
  if s.isSender c (s.acting rq) && i == s.f (MBX.CHSTAT_WIDX c) && decide (s.f (MBX.CHSTAT_USED c) < 16) then
    (0, s.setSlotWord c i w v)
  else (2, s)

/-- Has the mask of bit `b` of identity `id` suppressed an event or a message that has not followed (R93, R55)? -/
def State.bellHeld (s : State) (id b : Nat) : Bool :=
  if id == 1 || id == 2 then tabHas s.pba ((id - 1) * 64 + b) else s.dbHeld.contains (id * 32 + b)

/-- The mask of bit `b` of identity `id` has cleared: what it suppressed follows while the bell is still set (R93, R55). -/
def State.bellFollows (s : State) (id b : Nat) : State :=
  let was := s.bellHeld id b && bitOf (s.f (MBX.DB_BELL id)) b
  let s : State := { s with dbHeld := s.dbHeld.filter (fun k => k != id * 32 + b) }
  if !was then s
  else if id == 1 || id == 2 then s.msixFire (id - 1) b
  else s.fireFor (fun th => s.thActs th == id) (0x48 + b)

/-- A write of a doorbell mask (R93): for every bit that clears, what it suppressed follows. -/
def State.maskWrite (s : State) (id v : Nat) : State :=
  let old := s.f (MBX.DBMASK_MASK id)
  (List.range 32).foldl (fun s b => if bitOf old b && !bitOf v b then s.bellFollows id b else s) (s.setF (MBX.DBMASK_MASK id) v)

/-- A write of a doorbell mask by `rq`. The Keyblock's receiver side is up again once its ROM image writes its own mask (Table 3.3). -/
def State.maskBy (s : State) (rq : Rq) (id v : Nat) : State :=
  { s.maskWrite id v with kbOff := s.kbOff && !(id == 8 && rq.id.toNat == 8) }

/-- May `rq` write the doorbell registers of `id` (R94)? -/
def State.ownsBell (s : State) (rq : Rq) (id : Nat) : Bool := s.acting rq == id || s.acting rq == idDebug

/-- Reset of identity `id` as receiver of channel `c` (R96); `flushNote` records a flush. -/
def State.rxReset (s : State) (id c : Nat) : State :=
  if s.f (MBX.CHCFG_RECEIVER c) = id then
    let s0 := s.bump (MBX.CHEPOCH_RX_RESETS c)
    if s.on (MBX.CHCFG_FLUSH_ON_RX_RESET c) then
      let n := s.f (MBX.CHSTAT_USED c)
      let w := s.f (MBX.CHSTAT_WIDX c)
      let t := (List.range n).foldl (fun t k =>
        let i := (s.f (MBX.CHSTAT_FIDX c) + k) % 16
        { t.clearSlot c i with slotRel := tabDel t.slotRel (c * 16 + i) }) s0
      let t := t.setFs [(MBX.CHSTAT_RIDX c, w), (MBX.CHSTAT_FIDX c, w), (MBX.CHSTAT_USED c, 0)]
      if n = 0 then t
      else ((t.bump (MBX.CHCNT_FLUSHED c) n).countG 28 n).kevt 3
    else
      let t := (List.range 16).foldl (fun t i => { t with slotRel := tabDel t.slotRel (c * 16 + i) }) s0
      t.setF (MBX.CHSTAT_RIDX c) (s.f (MBX.CHSTAT_FIDX c))
  else s

/-- Reset of identity `id` as sender of channel `c` (R97). -/
def State.txReset (s : State) (id c : Nat) : State :=
  if s.f (MBX.CHCFG_SENDER c) = id then
    let s := if s.f (MBX.CHSTAT_USED c) < 16 then s.clearSlot c (s.f (MBX.CHSTAT_WIDX c)) else s
    s.setF (MBX.CHEPOCH_SENDER_EPOCH c) ((s.f (MBX.CHEPOCH_SENDER_EPOCH c) + 1) % 2 ^ 16)
  else s

/-- Claims an identity owns are released and counted (R104). -/
def State.dropClaims (s : State) (id : Nat) : State :=
  (List.range 256).foldl (fun s k =>
    if s.f (MBX.CLM_OWNER k) = id then (s.setF (MBX.CLM_OWNER k) 0).bump MBX.CLMERR_RESET_REL else s) s

/-- Does a reset of `id` discard messages of channel `c` (R96)? -/
def State.flushes (s : State) (id c : Nat) : Bool :=
  s.f (MBX.CHCFG_RECEIVER c) == id && s.on (MBX.CHCFG_FLUSH_ON_RX_RESET c) && s.f (MBX.CHSTAT_USED c) != 0

/-- The record of a flush of channel `c` (R96). DESIGN CHOICE: DETAIL is the channel and IDENT the receiver, since Table 17.4 names neither
(log 82). -/
def State.flushNote (s : State) (id c : Nat) : State := s.fault { unit := 0xB0, code := 1, cls := 2, detail := c, ident := id }

/-- One identity is reset in its roles at the mailbox unit (R95–R97, R104). A Burnisher restart of the Keyblock is no device reset: bindings and
lock stay (R91). -/
def State.resetRoles (s : State) (id : Nat) : State :=
  let s := (List.range 64).foldl (fun s c => (s.rxReset id c).txReset id c) s
  (s.setF (MBX.DBMASK_MASK id) 0xFFFFFFFF).dropClaims id

/-- One event resets the identities `ids`: the flushes it makes are recorded once all of them are made. -/
def State.resetIdentities (s : State) (ids : List Nat) : State :=
  (ids.flatMap (fun id => ((List.range 64).filter (s.flushes id)).map (fun c => (id, c)))).foldl (fun t e => t.flushNote e.1 e.2)
    (ids.foldl State.resetRoles s)

def State.resetIdentity (s : State) (id : Nat) : State := s.resetIdentities [id]

/-- A context's checkpoint completed: its held slots are released (R99). -/
def State.mbxCheckpoint (s : State) (key : Nat) : State :=
  let s := { s with slotRel := s.slotRel.map (fun e => if e.2.held ∧ e.2.key = key then (e.1, ⟨false, key⟩) else e) }
  (List.range 64).foldl (fun s c => s.freeSlots c 16) s

/-- MBX.CTXOP OP 2: RIDX := FIDX on every channel with pending releases of the key (R100). -/
def State.mbxRevert (s : State) (key : Nat) : State :=
  (List.range 64).foldl (fun t c =>
    if s.slotRel.any (fun e => e.1 / 16 == c && e.2.held && e.2.key == key) then
      let t := { t with slotRel := t.slotRel.filter (fun e => !(e.1 / 16 == c)) }
      t.setF (MBX.CHSTAT_RIDX c) (t.f (MBX.CHSTAT_FIDX c))
    else t) s

/-- MBX.CTXOP OP 1: the key's replay entry is cleared (R100). -/
def State.mbxClearKey (s : State) (key : Nat) : State :=
  let v := setBits (s.f (MBX.RPLVALID_BITS (key / 32))) (key % 32) 1 0
  (s.setF (MBX.RPLVALID_BITS (key / 32)) v).setF (MBX.RPL_LAST_COS key) 0

/-- A claim read (R102): the value returned and the state. -/
def State.claimRead (s : State) (rq : Rq) (k : Nat) : Nat × State :=
  let o := s.f (MBX.CLM_OWNER k)
  if o = 0 then (0, s.setF (MBX.CLM_OWNER k) (s.acting rq)) else (o, s)

/-- A claim write (R102, R103). -/
def State.claimWrite (s : State) (rq : Rq) (k v : Nat) : State :=
  let o := s.f (MBX.CLM_OWNER k)
  if o ≠ 0 ∧ s.acting rq = o ∧ v % 2 ^ 32 = o then s.setF (MBX.CLM_OWNER k) 0 else s.bump MBX.CLMERR_IGNORED

/-- Inserts a request in the order of R44 from pointer `p`: by distance of the identity above the pointer, equal
identities in delivery order. -/
def rotInsert {α : Type} (p : Nat) (idOf : α → Nat) (x : α) (l : List α) : List α :=
  match l with
  | [] => [x]
  | y :: t =>
    if (idOf x + 256 - p) % 256 < (idOf y + 256 - p) % 256 then x :: y :: t else y :: rotInsert p idOf x t

/-- Requests that meet, in the order of R44. -/
def rotOrder {α : Type} (p : Nat) (idOf : α → Nat) (l : List α) : List α :=
  l.foldl (fun acc x => rotInsert p idOf x acc) []

/-- After a meeting the pointer stands one above the identity served first (R44). -/
def rotNext {α : Type} (p : Nat) (idOf : α → Nat) (ordered : List α) : Nat :=
  match ordered with
  | x :: _ :: _ => (idOf x + 1) % 256
  | _ => p

/-- The serialising point of the mailbox unit (R44). -/
def ptMailbox : Nat := 0x40010000

/-! ## Meanings -/

/-- SLOT_WRITE (R87, R92). -/
def execSlotWrite (rq : Rq) (c : Fin 64) (slot w : Fin 16) (val : Word) (s : State) : Out :=
  let r := s.slotWrite rq c slot w val.toNat
  .next (r.2.answer r.1)

/-- SLOT_READ (R87, R90). -/
def execSlotRead (rq : Rq) (c : Fin 64) (slot w : Fin 16) (s : State) : Out :=
  let r := s.slotRead rq c slot w
  .next (r.2.2.answer r.1 (leBytes 4 r.2.1))

/-- COMMIT (R88, R98, R93). -/
def execCommit (rq : Rq) (c : Fin 64) (s : State) : Out :=
  let r := s.chop rq c 1
  .next (r.2.answer r.1)

/-- RELEASE (R89). -/
def execRelease (rq : Rq) (c : Fin 64) (s : State) : Out :=
  let r := s.chop rq c 2
  .next (r.2.answer r.1)

/-- DOORBELL_MASK_WRITE (R93, R94); an identity outside R92 has no register, and a write of it has no effect (R105). -/
def execDoorbellMaskWrite (rq : Rq) (id : Fin 64) (val : Word) (s : State) : Out :=
  if !bindable id then .next (s.answer 0)
  else if s.ownsBell rq id then .next ((s.maskBy rq id val.toNat).answer 0)
  else .next (s.answer 2)

/-- DOORBELL_SET: MBX.DBSET by the Keyblock (R94). -/
def execDoorbellSet (rq : Rq) (id : BitVec 8) (bit : Fin 32) (s : State) : Out :=
  if s.acting rq ≠ idKeyblock then .next (s.answer 2)
  else if bindable id.toNat then .next ((s.ringDoorbell id.toNat bit).answer 0)
  else .next (s.answer 0)

/-- BIND_LOCK (R91). -/
def execBindLock (rq : Rq) (s : State) : Out :=
  if isKbDbg (s.acting rq) then .next ((s.setF MBX.LOCK_BIND_LOCK 1).answer 0) else .next (s.answer 2)

/-- MBX_CTXOP_CLEAR (R100). -/
def execMbxCtxopClear (rq : Rq) (key : BitVec 8) (s : State) : Out :=
  if isKbDbg (s.acting rq) then .next ((s.mbxClearKey key.toNat).answer 0) else .next (s.answer 2)

/-- MBX_CTXOP_REVERT (R100). -/
def execMbxCtxopRevert (rq : Rq) (key : BitVec 8) (s : State) : Out :=
  if isKbDbg (s.acting rq) then .next ((s.mbxRevert key.toNat).answer 0) else .next (s.answer 2)

/-- CLAIM_READ (R102, R103): the reads that meet are served in the order of R44; the response is the last one served, the
values of all are told in that order by `out` of their requests. -/
def execClaimRead (k : Fin 256) (rqs : List Rq) (s : State) : Out :=
  let p := tabGet s.ptrs 0 ptMailbox
  let ord := rotOrder p (fun r : Rq => r.id.toNat) rqs
  let s := { s with ptrs := tabPut s.ptrs ptMailbox (rotNext p (fun r : Rq => r.id.toNat) ord) }
  .next (ord.foldl (fun s rq =>
    let r := s.claimRead rq k
    (r.2.answer 0 (leBytes 4 r.1)).emit (.answer rq.id.toNat r.1)) s)

/-- CLAIM_RELEASE_WRITE (R102). -/
def execClaimReleaseWrite (rq : Rq) (k : Fin 256) (val : Word) (s : State) : Out :=
  .next ((s.claimWrite rq k val.toNat).answer 0)

/-- CLAIM_FORCE_RELEASE (R102, Table 3.4): MBX.CLMFORCE by the Keyblock. -/
def execClaimForceRelease (rq : Rq) (k : BitVec 8) (s : State) : Out :=
  if s.acting rq = idKeyblock then .next ((s.setF (MBX.CLM_OWNER k.toNat) 0).answer 0) else .next (s.answer 2)

end Sys2Proof.Machine
end

