-- ==== Sys2Proof/Machine/Credits.lean ====
section
/-! DEFINITION. Queues and credits (R31–R35, Table 1.11): depths, spending, returning, what SYS.CRDVAL reads. -/
namespace Sys2Proof.Machine

/-- Credit depth of a queue and class (0 Request, 1 Response, 2 Event, 3 Bulk) in each direction (Table 1.11); none where the queue does
not exist or does not carry the class. -/
def qDepth (q cls : Nat) : Option Nat :=
  let row (r p e b : Option Nat) : Option Nat := match cls with | 0 => r | 1 => p | 2 => e | _ => b
  if q < 0x18 then row (some 8) (some 8) (some 4) (some 16)
  else if q < 0x20 then row (some 16) (some 16) (some 8) (some 32)
  else if q < 0x30 then row (some 8) (some 8) (some 4) (some 16)
  else if q < 0x34 then row (some 16) (some 16) (some 8) (some 32)
  else if q < 0x38 then row (some 32) (some 32) (some 8) (some 64)
  else if q < 0x3C then row (some 32) (some 32) (some 16) (some 64)
  else if q < 0x40 then row none none (some 8) (some 128)
  else if q < 0xA0 then row (some 4) (some 4) none (some 8)
  else if q = 0xA0 then row (some 16) (some 16) (some 16) none
  else if q = 0xA1 then row (some 64) (some 64) (some 16) none
  else if q = 0xA2 then row (some 16) (some 16) (some 8) (some 32)
  else if q = 0xA3 then row (some 8) (some 8) (some 8) (some 16)
  else if q = 0xA4 then row (some 32) (some 32) (some 16) (some 64)
  else if q = 0xA5 then row (some 4) (some 4) (some 4) (some 8)
  else if q = 0xA6 then row (some 4) (some 4) (some 16) none
  else if 0xA8 ≤ q ∧ q < 0xAC then row (some 8) (some 8) (some 8) (some 32)
  else if q = 0xAC ∨ q = 0xAD then row (some 4) (some 4) none (some 8)
  else if 0xB0 ≤ q ∧ q < 0xB8 then row (some 4) (some 4) (some 4) (some 8)
  else if q = 0xC0 ∨ q = 0xC1 then row (some 32) (some 32) (some 16) (some 64)
  else none

/-- Key of a credit pool. -/
def poolKey (q cls dir : Nat) : Nat := q * 8 + cls * 2 + dir

/-- The pool of a queue, class and direction: full at reset. -/
def State.pool (s : State) (q cls dir : Nat) : Credit :=
  let d := (qDepth q cls).getD 0
  tabGet s.credits ⟨d, d⟩ (poolKey q cls dir)

def State.setPool (s : State) (q cls dir : Nat) (c : Credit) : State :=
  let d := (qDepth q cls).getD 0
  { s with credits := cellPut s.credits ⟨d, d⟩ (poolKey q cls dir) c }

/-- The producer spends `n` credits; none: it has too few and stalls (R34). -/
def State.spend (s : State) (q cls dir n : Nat) : Option State :=
  let c := s.pool q cls dir
  if c.avail < n then none else some (s.setPool q cls dir ⟨c.avail - n, min c.low (c.avail - n)⟩)

/-- The consumer returns `n` credits (R31); a pool never holds more than its depth. -/
def State.giveBack (s : State) (q cls dir n : Nat) : State :=
  let c := s.pool q cls dir
  s.setPool q cls dir ⟨min (c.avail + n) ((qDepth q cls).getD 0), c.low⟩

/-- Entries of a transfer of `n` bytes (R31). -/
def entries (n : Nat) : Nat := max 1 ((n + 31) / 32)

/-- A transfer of `n` entries passes a queue within a step: its credits are spent and returned, one entry after the other where it has more
entries than the queue; LOW remembers the least. -/
def State.lend (s : State) (q cls dir n : Nat) : State :=
  let c := s.pool q cls dir
  s.setPool q cls dir ⟨c.avail, min c.low (c.avail - n)⟩

/-- Entries that a request of `len` bytes takes on a queue it passes in direction `dir`: class, direction, number (R31–R33, Table 1.10). Data travel
with a write, and with the response of a read; DMA data (`bulk`) travel in the Bulk class. -/
def reqNeeds (dir len : Nat) (write bulk : Bool) : List (Nat × Nat × Nat) :=
  if bulk then (0, dir, 1) :: (3, if write then dir else 1 - dir, entries len) :: (if write then [(1, 1 - dir, 1)] else [])
  else [(0, dir, if write then entries len else 1), (1, 1 - dir, if write then 1 else entries len)]

/-- A request of `len` bytes passes queue `q` in direction `dir`, the space for its response reserved (R33); DMA data take the
Request and Response classes where a queue has no Bulk. -/
def State.lendQ (s : State) (q dir len : Nat) (write : Bool) (bulk : Bool := false) : State :=
  (reqNeeds dir len write (bulk && (qDepth q 3).isSome)).foldl (fun s e => s.lend q e.1 e.2.1 e.2.2) s

/-- Has queue `q` credits of a class for `n` entries? A transfer with more entries than the queue needs as many as it has. -/
def State.hasCredits (s : State) (q cls dir n : Nat) : Bool :=
  decide (min n ((qDepth q cls).getD 0) ≤ (s.pool q cls dir).avail)

/-- May a request pass queue `q`: credits for it, and space for the response (R33, rule 1; R34)? -/
def State.mayIssue (s : State) (q dir len : Nat) (write : Bool) (bulk : Bool := false) : Bool :=
  (reqNeeds dir len write (bulk && (qDepth q 3).isSome)).all (fun e => s.hasCredits q e.1 e.2.1 e.2.2)

/-- May a request pass every one of these queues? -/
def State.mayPass (s : State) (qs : List (Nat × Nat)) (len : Nat) (write : Bool) (bulk : Bool := false) : Bool :=
  qs.all (fun q => s.mayIssue q.1 q.2 len write bulk)

/-- A request passes queues one after the other; each gives its credit back as it hands on (R33, rule 3). -/
def State.carryOver (s : State) (qs : List (Nat × Nat)) (len : Nat) (write : Bool) (bulk : Bool := false) : State :=
  qs.foldl (fun s q => s.lendQ q.1 q.2 len write bulk) s

/-- A unit that keeps a write of its own outstanding takes a Request credit and the space for the response; none: it stalls (R33, R34). -/
def State.reserve (s : State) (q : Nat) : Option State := (s.spend q 0 0 1).bind (fun t => t.spend q 1 1 1)

/-- The write is answered. -/
def State.unreserve (s : State) (q : Nat) : State := (s.giveBack q 0 0 1).giveBack q 1 1 1

/-- A frame of `len` bytes passes a queue in the Bulk class (Table 1.10). -/
def State.lendFrame (s : State) (q dir len : Nat) : State := s.lend q 3 dir (entries len)

/-- Does the queue exist? -/
def qListed (q : Nat) : Bool := (qDepth q 0).isSome || (qDepth q 2).isSome

/-- Is queue `q` a core-fabric queue of a region that is off or in reset? Its clamp shows 0 credits in every class (R493, Table 18.8). -/
def State.crdClamped (s : State) (q : Nat) : Bool := decide (0x38 ≤ q) && decide (q < 0x3C) && s.f (SYS.RGCTL_STATE (q - 0x38)) != 0

/-- A read of SYS.CRDVAL (R35): the word and the state, LOW starting again. -/
def State.crdRead (s : State) : Nat × State :=
  let q := s.f SYS.CRDSEL_QUEUE
  if qListed q then
    let cls := s.f SYS.CRDSEL_CLASS
    let dir := s.f SYS.CRDSEL_DIR
    let c : Credit := if s.crdClamped q then ⟨0, 0⟩ else s.pool q cls dir
    (c.avail + (qDepth q cls).getD 0 * 2 ^ 8 + c.low * 2 ^ 16, if s.crdClamped q then s else s.setPool q cls dir ⟨c.avail, c.avail⟩)
  else (0, s)

end Sys2Proof.Machine
end

