-- ==== Sys2Proof/Machine/Burin.lean ====
section
/-! DEFINITION. Burin pin engines (chapter 6): bit clock (R175), pins (R176, R177, R196, R197), sequencer and instructions (R178,
R179), shifts and refill (R180–R182), stalls (R185, R186), synchronous start (R187, R188), program change and injection
(R189–R192), events (R193), rights (R194), reset (R198). Engine n is BE n: cluster n / 8, local index n % 8. -/
namespace Sys2Proof.Machine

/-- A register or field of Burin engine `n`. -/
def ofBe {α : Type} (r : Nat → Nat → α) (n : Nat) : α := r (n / 8) (n % 8)

/-- Burin engine `n`. -/
def State.bu (s : State) (n : Nat) : Burin := tabGet s.burin Burin.reset n

def State.setBu (s : State) (n : Nat) (b : Burin) : State := { s with burin := tabPut s.burin n b }

/-! ## Bit clock (R175) -/

/-- One BCLK edge of the divider as R175 writes it: `pre`, `acc`, `mid_done`, and whether a lead or a mid tick falls. The closed form below is
what its edges add up to (`divEdge_closed` under Laws). -/
def divEdge (d p : Nat) (pre acc : Nat) (mid : Bool) : Nat × Nat × Bool × Bool × Bool :=
  if pre + 1 < 2 ^ p then (pre + 1, acc, mid, false, false)
  else if acc + 256 ≥ d then (0, acc + 256 - d, false, true, false)
  else if !mid && decide (2 * (acc + 256) ≥ d) then (0, acc + 256, true, false, true)
  else (0, acc + 256, mid, false, false)

/-- Accumulator steps of a stretch up to tick `now` (a BCLK edge falls on every second TCLK edge). -/
def BClk.steps (x : BClk) (now : Nat) : Nat := (now - x.t) / 2 / 2 ^ x.pre

/-- What the accumulator has been given up to tick `now`. -/
def BClk.total (x : BClk) (now : Nat) : Nat := x.acc + 256 * x.steps now

/-- Lead ticks up to and with tick `now`. -/
def BClk.leadsAt (x : BClk) (now : Nat) : Nat := x.leads + x.total now / x.d

/-- Has the mid tick of the bit period of tick `now` come? -/
def BClk.midAt (x : BClk) (now : Nat) : Bool := decide (2 * (x.total now % x.d) ≥ x.d)

/-- Does a lead tick fall at tick `now`? -/
def BClk.leadIs (x : BClk) (now : Nat) : Bool :=
  now == x.t || (decide (x.t < now) && (now - x.t) % (2 * 2 ^ x.pre) == 0 && decide (x.total now % x.d < 256))

/-- The stretch in force at tick `now`. -/
def Burin.seg (b : Burin) (now : Nat) : BClk := (b.clk.find? (fun x => decide (x.t ≤ now))).getD ⟨0, 0, 0x400, 0, 0⟩

/-- Ticks that the clocks of the cluster of engine `n` have taken: they stand still in Doze and Hold (R197). -/
def State.beNow (s : State) (n : Nat) : Nat := s.ticks - tabGet s.bIdle 0 (n / 8)

/-- Lead ticks of engine `n` up to and with this edge. -/
def State.leads (s : State) (n : Nat) : Nat := ((s.bu n).seg (s.beNow n)).leadsAt (s.beNow n)

/-- Lead ticks of engine `n` before this edge. -/
def State.leadsBefore (s : State) (n : Nat) : Nat := ((s.bu n).seg (s.beNow n - 1)).leadsAt (s.beNow n - 1)

def State.midNow (s : State) (n : Nat) : Bool := ((s.bu n).seg (s.beNow n)).midAt (s.beNow n)
def State.leadNow (s : State) (n : Nat) : Bool := ((s.bu n).seg (s.beNow n)).leadIs (s.beNow n)

/-- The divisor in effect: below 0x400 it acts as 0x400. -/
def effDiv (d : Nat) : Nat := max d 0x400

/-- An output bit is due at lead tick `l` that first performs PULL (R181). -/
def State.pullDueAt (s : State) (n l : Nat) : Bool :=
  let b := s.bu n
  (b.kind == 1 || b.kind == 3) && b.phase == 0 && decide (b.due ≤ l) && s.on (ofBe CC.BCFG_APULL n)
    && s.f (ofBe CC.BSH_BITS n) == 0

def State.pullDue (s : State) (n : Nat) : Bool := s.pullDueAt n (s.leads n)

/-- Is the shift unit in a data stall at lead tick `l` (R185)? -/
def State.shiftStalledAt (s : State) (n l : Nat) : Bool :=
  let b := s.bu n
  b.kind != 0 && ((b.held && s.on (ofBe CC.BSTAT_RXF n)) || (b.want && !b.held && !s.on (ofBe CC.BSTAT_TXF n))
    || (s.pullDueAt n l && !s.on (ofBe CC.BSTAT_TXF n)))

def State.shiftStalled (s : State) (n : Nat) : Bool := s.shiftStalledAt n (s.leads n)

/-- Has the sample point of the bit period passed (Table 6.2): the mid tick, or with SMPL = 1 the lead tick that ends it? -/
def State.sampleDue (s : State) (n : Nat) : Bool :=
  let b := s.bu n
  decide (b.due < s.leads n) || (b.due == s.leads n && !s.on (ofBe CC.BCFG_SMPL n) && s.midNow n)

/-- A restart at this edge cuts a bit period before its sample point: the next period shifts the same bit again (R188). -/
def State.cutsBit (s : State) (n : Nat) : Bool :=
  let b := s.bu n
  b.kind != 0 && !s.shiftStalled n && !s.leadNow n && (s.on (ofBe CC.BCFG_SMPL n) || !s.midNow n)
    && (decide (b.due < s.leads n) || (b.due == s.leads n && b.phase == 0))

/-- Restart of the bit clock at this edge, which is a lead tick (R175, R188). -/
def State.restartClk (s : State) (n : Nat) : State :=
  let b := s.bu n
  s.setBu n { b with
    due := b.due + b2n (s.cutsBit n)
    clk := [⟨s.beNow n, 0, effDiv (s.f (ofBe CC.BDIV_D n)), s.f (ofBe CC.BDIV_PRE n), s.leads n + b2n (!s.leadNow n)⟩] }

/-- A write of BDIV takes effect at the next lead tick (R175). -/
def State.setDiv (s : State) (n v : Nat) : State :=
  let s := s.wrReg (ofBe CC.BDIV n) v
  let b := s.bu n
  let x := b.seg (s.beNow n)
  let q := x.total (s.beNow n) / x.d + 1
  let k := (q * x.d - x.acc + 255) / 256
  s.setBu n { b with clk := [⟨x.t + 2 * k * 2 ^ x.pre, x.acc + 256 * k - q * x.d, effDiv (s.f (ofBe CC.BDIV_D n)),
    s.f (ofBe CC.BDIV_PRE n), x.leads + q⟩, x] }

/-! ## Pins -/

/-- Pin and function of slot `i` as written. -/
def State.slotPin (s : State) (n i : Nat) : Nat := bitsOf (s.rd (ofBe CC.BSLOT n)) (8 * i) 3
def State.slotFnRaw (s : State) (n i : Nat) : Nat :=
  let f := bitsOf (s.rd (ofBe CC.BSLOT n)) (8 * i + 4) 3
  if f ≥ 6 then 0 else f

/-- Is engine `n` the owner of local pin `p` (CC.PINOWN)? -/
def State.ownsPin (s : State) (n p : Nat) : Bool :=
  let w := s.rd (CC.PINOWN (n / 8))
  bitOf w (4 * p + 3) && bitsOf w (4 * p) 3 == n % 8

/-- Function of slot `i` after R177: only the lowest slot of functions 1, 2 and 3, output functions only on an owned pin. -/
def State.slotFn (s : State) (n i : Nat) : Nat :=
  let f := s.slotFnRaw n i
  if (f == 1 || f == 2 || f == 3) && (List.range i).any (fun j => s.slotFnRaw n j == f) then 0
  else if (f == 1 || f == 3 || f == 4) && !s.ownsPin n (s.slotPin n i) then 0
  else f

/-- The slot with function `f`. -/
def State.slotOf (s : State) (n f : Nat) : Option Nat := (List.range 4).find? (fun i => s.slotFn n i == f)

/-- BSTAT.PINERR (R177). -/
def State.refreshPinErr (s : State) (n : Nat) : State :=
  let bad := (List.range 4).any (fun i =>
    let f := s.slotFnRaw n i
    (f == 1 || f == 3 || f == 4) && !((f == 1 || f == 3) && (List.range i).any (fun j => s.slotFnRaw n j == f))
      && !s.ownsPin n (s.slotPin n i))
  s.setF (ofBe CC.BSTAT_PINERR n) (b2n bad)

/-- Is a bit period of the shift in progress (R180)? -/
def State.bitOpen (s : State) (n : Nat) : Bool :=
  let b := s.bu n
  b.kind != 0 && !s.shiftStalled n && decide (b.due ≤ s.leads n)
    && decide (s.leads n < b.due + if b.matched then 1 else s.f (ofBe CC.BSH_SCNT n))

/-- The bit that leaves an engine next (R180, R181): from SR, from the word an automatic PULL takes, or 0. -/
def State.nextOut (s : State) (n : Nat) : Bool :=
  let i := if s.on (ofBe CC.BCFG_ORD n) then 0 else 31
  if s.f (ofBe CC.BSH_BITS n) ≠ 0 then bitOf (s.f (ofBe CC.BSR_W n)) i
  else s.on (ofBe CC.BCFG_APULL n) && bitOf (s.f (ofBe CC.BTXD_W n)) i

/-- Level that engine `n` gives pin `p` by an output slot (Table 6.2): a data-out pin takes the next bit at its lead tick and else holds
the last; a clock-out pin is at NOT CPOL from the lead to the mid tick of a bit period. DESIGN CHOICE: of two output slots that name one pin the
lower drives it (log 30). -/
def State.slotLevel (s : State) (n p : Nat) : Option Bool :=
  let b := s.bu n
  match (List.range 4).find? (fun i => s.slotPin n i == p && (s.slotFn n i == 1 || s.slotFn n i == 3 || s.slotFn n i == 4)) with
  | none => none
  | some i =>
    if s.slotFn n i == 1 then some (if (b.kind == 1 || b.kind == 3) && b.phase == 0 && s.bitOpen n then s.nextOut n else b.dout)
    else if s.slotFn n i == 3 then some (s.on (ofBe CC.BCFG_CPOL n) != (s.bitOpen n && !s.midNow n))
    else some (bitOf b.gpio i)

/-- Level that drives local pin `p` of cluster `c`, none while it is undriven (R196, R197, R186). -/
def State.pinDrive (s : State) (c p : Nat) : Option Bool :=
  let w := s.rd (CC.PINOWN c)
  let n := 8 * c + bitsOf w (4 * p) 3
  let drv := s.f (CC.PAD_DRV c p)
  if !bitOf w (4 * p + 3) || !s.on (CC.BANKCFG_VOK c) || s.on (CC.BANKCFG_MISMATCH c) || s.regionDown (c / 2)
    || (drv != 1 && drv != 2) || (s.bu n).undriven then none
  else
    match s.slotLevel n p with
    | none => none
    | some l =>
      let l' : Option Bool :=
        if s.f (ofBe CC.BSTAT_STATE n) == 0 && s.f (ofBe CC.BSTAT_ERR n) != 0 then
          match s.f (CC.PAD_SAFE c p) with
          | 1 => some false
          | 2 => some true
          | 3 => some (bitOf (s.bu n).safe p)
          | _ => none
        else some l
      match l' with
      | some true => if drv == 2 then none else some true
      | x => x

/-- The synchronisers of cluster `c`. -/
def State.pinSyncOf (s : State) (c : Nat) : PinSync := tabGet s.pinSync ⟨none, []⟩ c

/-- The BCLK edge of cluster `c` whose period it is. -/
def State.beEdge (s : State) (c : Nat) : Nat := s.beNow (8 * c) / 2

/-- Pins that the block drives, as a mask, and their levels. -/
def State.padLevels (s : State) (c : Nat) : Nat × Nat :=
  (List.range 8).foldl (fun (x : Nat × Nat) p =>
    match s.pinDrive c p with
    | some l => (x.1 + 2 ^ p, x.2 + b2n l * 2 ^ p)
    | none => x) (0, 0)

/-- One BCLK edge in the synchronisers of cluster `c` (R177): the pads as they stand go in. A cluster in which no pin has an owner drives none. -/
def State.syncEdge (s : State) (c : Nat) : State :=
  let x := s.pinSyncOf c
  if tabHas s.regs (CC.PINOWN c) || !x.hist.isEmpty then
    { s with pinSync := tabPut s.pinSync c { x with hist := (s.padLevels c :: x.hist).take 3 } }
  else s

/-- The levels that a pin read of cluster `c` sees when the pads outside were at `pins`: a pin that the block drove into the edge two BCLK edges
earlier shows that level (R177). DEDUCED: the pad level of an edge is the one that stands until it (log 30). -/
def State.seen (s : State) (c : Nat) (pins : BitVec 8) : BitVec 8 :=
  let d := (s.pinSyncOf c).hist.getD 2 (0, 0)
  (pins &&& ~~~(BitVec.ofNat 8 d.1)) ||| BitVec.ofNat 8 d.2

/-- The two-stage synchronisers of the cluster of engine `n` show these levels in this BCLK period (R177). -/
def State.setPins (s : State) (n : Nat) (pins : BitVec 8) : State :=
  let c := n / 8
  { s.setF (CC.PINLVL_LVL c) (s.seen c pins).toNat with pinSync := tabPut s.pinSync c { s.pinSyncOf c with told := some (s.beEdge c) } }

/-- Levels that the synchronisers of cluster `c` show now: those a command of this BCLK period told, else a free value for each pin that the block
did not drive, since nothing tells the pads of other times (R177, log 30). -/
def State.pinsNow (s : State) (c : Nat) : BitVec 8 × State :=
  if (s.pinSyncOf c).told = some (s.beEdge c) then (BitVec.ofNat 8 (s.f (CC.PINLVL_LVL c)), s)
  else
    let r := s.free
    let v := s.seen c (BitVec.ofNat 8 r.1.toNat)
    (v, r.2.setPins (8 * c) v)

/-! ## Program words -/

/-- Burin instructions (Table 6.3). -/
inductive BIns where
  | nop
  | sho (len : Nat)
  | shi (len : Nat) (early : Bool)
  | shx (len : Nat) (early : Bool)
  | pull
  | push
  | set (mask val : Nat)
  | waitp (slot : Nat) (level : Bool)
  | waitt (t : Nat)
  | jmp (a c slot : Nat)
  | ldc (v : Nat) (k : Bool)
  | ldi (v b : Nat)
  | mov (m : Nat)
  | irq
  | synco
  | clkr
  | halt
deriving DecidableEq, Repr

/-- Opcode of an instruction. -/
def BIns.op (i : BIns) : Nat :=
  match i with
  | .nop => 0 | .sho _ => 1 | .shi _ _ => 2 | .shx _ _ => 3 | .pull => 4 | .push => 5 | .set _ _ => 6
  | .waitp _ _ => 7 | .waitt _ => 8 | .jmp _ _ _ => 9 | .ldc _ _ => 10 | .ldi _ _ => 11 | .mov _ => 12
  | .irq => 13 | .synco => 14 | .clkr => 15 | .halt => 31

/-- R179; none for an illegal word. -/
def burinDecode (w : Nat) : Option BIns :=
  let only (n : Nat) (i : BIns) : Option BIns := if bitsOf w n (27 - n) = 0 then some i else none
  match bitsOf w 27 5 with
  | 0 => only 0 .nop
  | 1 => only 10 (.sho (bitsOf w 0 10))
  | 2 => only 11 (.shi (bitsOf w 0 10) (bitOf w 10))
  | 3 => only 11 (.shx (bitsOf w 0 10) (bitOf w 10))
  | 4 => only 0 .pull
  | 5 => only 0 .push
  | 6 => only 8 (.set (bitsOf w 0 4) (bitsOf w 4 4))
  | 7 => only 3 (.waitp (bitsOf w 0 2) (bitOf w 2))
  | 8 => only 16 (.waitt (bitsOf w 0 16))
  | 9 => if bitsOf w 5 4 ≤ 8 then only 11 (.jmp (bitsOf w 0 5) (bitsOf w 5 4) (bitsOf w 9 2)) else none
  | 10 => only 17 (.ldc (bitsOf w 0 16) (bitOf w 16))
  | 11 => if bitsOf w 16 6 ≤ 32 then only 22 (.ldi (bitsOf w 0 16) (bitsOf w 16 6)) else none
  | 12 => only 2 (.mov (bitsOf w 0 2))
  | 13 => only 0 .irq
  | 14 => only 0 .synco
  | 15 => only 0 .clkr
  | 31 => only 0 .halt
  | _ => none

/-- ECC place of a program word: a mark of kind 2 there is a parity error (R198). -/
def bankPlace (n bank w : Nat) : Nat := 0x103000000 + n * 0x200 + (bank * 32 + w) * 8

/-- The pin of slot `i` at the levels given. -/
def State.slotHigh (s : State) (n i : Nat) (pins : BitVec 8) : Bool := bitOf pins.toNat (s.slotPin n i)

/-- Is the condition of the "Waits for" column met (Table 6.3)? `w0` is the lead tick a WAITT started at. -/
def State.burinReady (s : State) (n : Nat) (i : BIns) (w0 : Option Nat) (pins : BitVec 8) : Bool :=
  let idle := s.f (ofBe CC.BSH_SCNT n) == 0
  match i with
  | .sho _ | .shi _ _ | .shx _ _ | .ldi _ _ | .mov _ => idle
  | .pull => idle && s.on (ofBe CC.BSTAT_TXF n)
  | .push => idle && !s.on (ofBe CC.BSTAT_RXF n)
  | .waitp j l => s.slotHigh n j pins == l
  | .waitt t =>
    t == 0 || (match w0 with | none => false | some w => decide (t ≤ s.leads n - w))
  | .jmp _ c _ => (c != 5 && c != 6) || idle
  | _ => true

/-! ## Events, halts -/

/-- Event source 0x68 + k in the threads of the cluster (R193). -/
def State.burinEvent (s : State) (n : Nat) : State := s.fireFor (fun th => th / 24 == n / 8) (0x68 + n % 8)

/-- Pins that engine `n` holds high at this edge (R186): through its output slots, or by their SAFE levels while it is halted with an error. -/
def State.heldPins (s : State) (n : Nat) : Nat :=
  let err := s.f (ofBe CC.BSTAT_STATE n) == 0 && s.f (ofBe CC.BSTAT_ERR n) != 0
  let high (p : Nat) : Bool :=
    if err then
      match s.f (CC.PAD_SAFE (n / 8) p) with
      | 1 => false
      | 2 => true
      | _ => bitOf (s.bu n).safe p
    else s.slotLevel n p == some true
  (List.range 8).foldl (fun v p => v + b2n (high p) * 2 ^ p) 0

/-- The engine halts; with a non-zero ERR, which only START and LRST clear, the shift unit stops too, the record is written and the event
fires (R186, R193, R198). The last levels of its pins are kept when it comes to stand with an error, by this halt or by the end of a shift that ran in
it (R186, R191). -/
def State.haltBurin (s : State) (n err : Nat) : State :=
  let was := s.f (ofBe CC.BSTAT_STATE n)
  let safe := if err ≠ 0 ∨ s.f (ofBe CC.BSTAT_ERR n) ≠ 0 then s.heldPins n else (s.bu n).safe
  let s := s.setF (ofBe CC.BSTAT_STATE n) 0
  let s := s.setBu n { s.bu n with stop := false, waitFrom := none, alone := false, seq := 1, stall := none, safe := safe }
  if err ≠ 0 then
    let b := { s.bu n with kind := 0, held := false, want := false, phase := 0, late := false }
    let s := (s.setBu n b).setFs [(ofBe CC.BSTAT_ERR n, err), (ofBe CC.BSH_SCNT n, 0)]
    let k := s.on (ofBe CC.BOWN_V n)
    let s := s.fault { unit := 0x40 + n, code := err, cls := 2, key := if k then some (s.f (ofBe CC.BOWN_KEY n)) else none }
    s.burinEvent n
  else if was ≠ 0 ∧ s.on (ofBe CC.BCFG_EVHLT n) then s.burinEvent n
  else s

/-! ## Transmit and receive words -/

/-- PULL (Table 6.3), and the TXE event (R193). -/
def State.doPull (s : State) (n : Nat) : State :=
  let s := s.setFs [(ofBe CC.BSR_W n, s.f (ofBe CC.BTXD_W n)), (ofBe CC.BSH_BITS n, 32), (ofBe CC.BSTAT_TXF n, 0),
    (ofBe CC.BXCNT_TXCNT n, (s.f (ofBe CC.BXCNT_TXCNT n) + 1) % 2 ^ 16)]
  if s.on (ofBe CC.BCFG_EVTXE n) then s.burinEvent n else s

/-- PUSH (Table 6.3), and the RXF event (R193). -/
def State.doPush (s : State) (n : Nat) : State :=
  let s := s.setFs [(ofBe CC.BRXD_W n, s.f (ofBe CC.BSR_W n)), (ofBe CC.BSH_BITS n, 0), (ofBe CC.BSTAT_RXF n, 1),
    (ofBe CC.BXCNT_RXCNT n, (s.f (ofBe CC.BXCNT_RXCNT n) + 1) % 2 ^ 16)]
  if s.on (ofBe CC.BCFG_EVRXF n) then s.burinEvent n else s

/-! ## Shifts -/

/-- MATCH: SR and CMP agree in their low CMPW + 1 bits (Table 6.4). -/
def State.matchNow (s : State) (n : Nat) : Bool :=
  let m := 2 ^ (s.f (ofBe CC.BCFG_CMPW n) + 1)
  s.f (ofBe CC.BSR_W n) % m == s.f (ofBe CC.BCMP_W n) % m

/-- Does the word `w` wait in PULL or PUSH (R185)? -/
def State.wordStalls (s : State) (n : Nat) (w : Nat) : Bool :=
  match burinDecode w with
  | some .pull => !s.burinReady n .pull none 0
  | some .push => !s.burinReady n .push none 0
  | _ => false

/-- Does the injected word wait in PULL or PUSH? -/
def State.injStalled (s : State) (n : Nat) : Bool :=
  let b := s.bu n
  b.injWait.isSome && match b.inj with | some w => s.wordStalls n w.toNat | none => false

/-- The word at PC. -/
def State.burinWord (s : State) (n : Nat) : Nat :=
  s.rd (CC.BBANK (n / 8) (n % 8) (s.f (ofBe CC.BSTAT_ACTBANK n)) (s.f (ofBe CC.BSTAT_PC n)))

/-- Does the program wait in PULL or PUSH, or the shift unit for a word (R185)? -/
def State.progStalled (s : State) (n : Nat) : Bool :=
  (s.f (ofBe CC.BSTAT_STATE n) != 0 && (s.bu n).seq == 3 && s.wordStalls n (s.burinWord n)) || s.shiftStalled n

/-- A data stall (R185): of the sequencer, in the program or an injected word, or of the shift unit. -/
def State.stalled (s : State) (n : Nat) : Bool := s.progStalled n || s.injStalled n

/-- Is the injected word due before anything else (R191, R192)? It waits for the end of a data stall other than its own. -/
def State.injFirst (s : State) (n : Nat) : Bool := (s.bu n).inj.isSome && !s.progStalled n

/-- BSTAT.STATE of an engine that is not halted, as of lead tick `l`: a data stall of the shift unit or of an injected word, or what the sequencer
does (R185); the lead tick at which a data stall began is kept (R186). -/
def State.showState (s : State) (n l : Nat) : State :=
  let b := s.bu n
  let sh := s.shiftStalledAt n l
  let st := if sh || s.injStalled n then 3 else b.seq
  let s := if s.f (ofBe CC.BSTAT_STATE n) = 0 then s else s.setF (ofBe CC.BSTAT_STATE n) st
  let data := sh || s.injStalled n || (st == 3 && s.f (ofBe CC.BSTAT_STATE n) != 0)
  s.setBu n { s.bu n with late := sh, stall := if data then some (b.stall.getD l) else none }

/-- Refills that can be made are made; the period of a bit that was stalled begins or ends at the first lead tick after number `l`
(R181, R185, Table 6.5). -/
def State.settle (s : State) (n l : Nat) : State :=
  let late := (s.bu n).late
  let s :=
    if (s.bu n).held && !s.on (ofBe CC.BSTAT_RXF n) then
      let b := s.bu n
      (s.setBu n { b with held := false, due := if late then l else b.due }).doPush n
    else s
  let s :=
    if (s.bu n).want && !(s.bu n).held && s.on (ofBe CC.BSTAT_TXF n) then
      let b := s.bu n
      (s.setBu n { b with want := false, due := if late then l else b.due }).doPull n
    else s
  let s :=
    if s.pullDueAt n l && s.on (ofBe CC.BSTAT_TXF n) then
      let b := s.bu n
      (s.setBu n { b with due := if late then l + 1 else b.due }).doPull n
    else s
  s.showState n l

/-- The lead tick that ends a bit, its refills made: SCNT falls, to 0 after a match; the end of a shift that an otherwise halted engine ran
halts it again (R180, R182, R191). -/
def State.finishBit (s : State) (n l : Nat) : State :=
  let b := s.bu n
  if b.phase = 2 ∧ !b.held ∧ !b.want ∧ b.due < l then
    let c := if b.matched then 0 else s.f (ofBe CC.BSH_SCNT n) - 1
    let k := if c = 0 then 0 else b.kind
    let s := (s.setF (ofBe CC.BSH_SCNT n) c).setBu n { b with phase := 0, due := b.due + 1, matched := false, kind := k }
    if c = 0 ∧ b.alone then s.haltBurin n 0 else s.settle n l
  else s

/-- What the shift unit does without a further sample up to lead tick `l`: refills, and the end of a bit that was sampled. The bit that
brings BITS of SHX to 0 is followed, at the lead tick that ends it, by the push and then the pull (R181). -/
def State.shiftTurn (s : State) (n l : Nat) : State :=
  let s := s.settle n l
  let b := s.bu n
  if b.phase = 1 ∧ !b.held ∧ b.due < l then
    let bits := s.f (ofBe CC.BSH_BITS n)
    let zero := b.kind == 3 && bits == 1
    let s := if b.kind = 3 then s.setF (ofBe CC.BSH_BITS n) (bits - 1) else s
    let s := s.setBu n { b with phase := 2, held := zero && s.on (ofBe CC.BCFG_APUSH n), want := zero && s.on (ofBe CC.BCFG_APULL n) }
    (s.settle n l).finishBit n l
  else s.finishBit n l

/-- Does the sample point of the bit period fall in this BCLK period? -/
def State.sampleNow (s : State) (n : Nat) : Bool :=
  let b := s.bu n
  let x := b.seg (s.beNow n)
  if s.on (ofBe CC.BCFG_SMPL n) then b.due + 1 == s.leads n && x.leadIs (s.beNow n / 2 * 2)
  else b.due == s.leads n && s.midNow n && !(b.seg (s.beNow n - 2)).midAt (s.beNow n - 2)

/-- The sample point of a bit (R180–R182): the output bit has left, the input bit is that of `pins`, an automatic push that an input shift
makes due is made or waits. -/
def State.sampleBit (s : State) (n : Nat) (pins : BitVec 8) : State :=
  let pins := if s.sampleNow n then s.seen (n / 8) pins else pins
  let s := s.setPins n pins
  let b := s.bu n
  let ord := s.on (ofBe CC.BCFG_ORD n)
  let sr := s.f (ofBe CC.BSR_W n)
  let bits := s.f (ofBe CC.BSH_BITS n)
  let outBit := bits != 0 && bitOf sr (if ord then 0 else 31)
  let (inBit, s) :=
    if b.kind = 1 then (false, s)
    else
      match s.slotOf n 2 with
      | some i => (bitOf pins.toNat (s.slotPin n i), s)
      | none => let r := s.free; (r.1.toNat % 2 == 1, r.2)
  let sr' := if ord then sr / 2 + b2n inBit * 2 ^ 31 else sr * 2 % 2 ^ 32 + b2n inBit
  let bits' := if b.kind = 1 then bits - 1 else if b.kind = 2 then min 32 (bits + 1) else bits
  let s := s.setFs [(ofBe CC.BSR_W n, sr'), (ofBe CC.BSH_BITS n, bits')]
  let hit := b.early && s.matchNow n
  let push := s.on (ofBe CC.BCFG_APUSH n) && b.kind == 2 && bits' == 32
  s.setBu n { b with dout := if b.kind = 2 then b.dout else outBit, matched := hit, held := push, phase := 1 }

/-- Bit periods pass, each with the pin levels at its sample point, as far as the bit clock has come, until the shift ends or stalls. -/
def State.shiftBits (s : State) (n : Nat) (smp : List (BitVec 8)) : State :=
  let t := s.shiftTurn n (s.leads n)
  match smp with
  | [] => t
  | p :: r =>
    if (t.bu n).kind != 0 && (t.bu n).phase == 0 && !t.pullDue n && t.sampleDue n then (t.sampleBit n p).shiftBits n r else t

/-- A shift instruction has executed; the shift starts at the first lead tick at or after this edge (R180). -/
def State.startShift (s : State) (n kind len : Nat) (early : Bool) : State :=
  let s := s.setF (ofBe CC.BSH_SCNT n) (if len = 0 then 1024 else len)
  let due := s.leads n + b2n (!s.leadNow n)
  s.setBu n { s.bu n with
    kind := kind, early := early, held := false, want := false, matched := false, phase := 0, late := false, due := due }

/-! ## Execution -/

/-- Decrements a loop counter that is not 0 and tells whether it was not 0. -/
def State.countDown (s : State) (x : FldAt) : Bool × State :=
  if s.f x = 0 then (false, s) else (true, s.setF x (s.f x - 1))

/-- SYNCO, or BSYNC with DRIVE: the region sync line triggers both clusters' BSYNC with TRIG 1 (R187). -/
def State.syncPulse (s : State) (c : Nat) : State :=
  [c / 2 * 2, c / 2 * 2 + 1].foldl (fun s d =>
    if s.on (CC.BSYNC_ARM d) && s.f (CC.BSYNC_TRIG d) == 1 && !s.syncDue.contains d then { s with syncDue := s.syncDue ++ [d] }
    else s) s

/-- Effect of an instruction that executes; the PC of a taken jump. -/
def State.burinExec (s : State) (n : Nat) (i : BIns) (pins : BitVec 8) : State × Option Nat :=
  let s := s.setPins n pins
  let jump (a : Nat) (r : Bool × State) : State × Option Nat := (r.2, if r.1 then some a else none)
  match i with
  | .nop => (s, none)
  | .sho len => (s.startShift n 1 len false, none)
  | .shi len h => (s.startShift n 2 len h, none)
  | .shx len h => (s.startShift n 3 len h, none)
  | .pull => (s.doPull n, none)
  | .push => (s.doPush n, none)
  | .set mask val =>
    let g := (List.range 4).foldl (fun g j =>
      if bitOf mask j && s.slotFn n j == 4 then setBits g j 1 (b2n (bitOf val j)) else g) (s.bu n).gpio
    (s.setBu n { s.bu n with gpio := g }, none)
  | .waitp _ _ => (s, none)
  | .waitt _ => (s, none)
  | .jmp a c j =>
    match c with
    | 0 => jump a (true, s)
    | 1 => jump a (s.countDown (ofBe CC.BCNT_CNT0 n))
    | 2 => jump a (s.countDown (ofBe CC.BCNT_CNT1 n))
    | 3 => jump a (s.slotHigh n j pins, s)
    | 4 => jump a (!s.slotHigh n j pins, s)
    | 5 => jump a (s.matchNow n, s)
    | 6 => jump a (!s.matchNow n, s)
    | 7 => jump a (s.on (ofBe CC.BSTAT_TXF n), s)
    | _ => jump a (!s.on (ofBe CC.BSTAT_RXF n), s)
  | .ldc v k => (s.setF (if k then ofBe CC.BCNT_CNT1 n else ofBe CC.BCNT_CNT0 n) v, none)
  | .ldi v b => (s.setFs [(ofBe CC.BSR_W n, v), (ofBe CC.BSH_BITS n, b)], none)
  | .mov m =>
    let sr := s.f (ofBe CC.BSR_W n)
    match m with
    | 0 => (s.setF (ofBe CC.BSR_W n) (s.f (ofBe CC.BCMP_W n)), none)
    | 1 => (s.setF (ofBe CC.BCMP_W n) sr, none)
    | 2 => (s.setF (ofBe CC.BCNT_CNT0 n) (sr % 2 ^ 16), none)
    | _ => (s.setF (ofBe CC.BSR_W n) (s.f (ofBe CC.BCNT_CNT0 n)), none)
  | .irq => (s.burinEvent n, none)
  | .synco => (s.syncPulse (n / 8), none)
  | .clkr => (s.restartClk n, none)
  | .halt => (s.haltBurin n 0, none)

/-- Do the engines of the cluster of engine `n` advance: region on, no Hold, no Doze (R197, R484)? -/
def State.burinLives (s : State) (n : Nat) : Bool := s.clusterLives (n / 8)

/-- The swap (R190). -/
def State.doSwap (s : State) (n : Nat) : State :=
  let s := s.setFs [(ofBe CC.BSTAT_ACTBANK n, 1 - s.f (ofBe CC.BSTAT_ACTBANK n)), (ofBe CC.BSTAT_PC n, s.f (ofBe CC.BCTL_SWPC n)),
    (ofBe CC.BSTAT_SWPEND n, 0)]
  s.setBu n { s.bu n with waitFrom := none, seq := 1 }

/-- A due stop or swap at an instruction boundary with SCNT = 0 (R190). -/
def State.boundary (s : State) (n : Nat) : Option State :=
  if s.f (ofBe CC.BSH_SCNT n) ≠ 0 then none
  else if (s.bu n).stop then some (s.haltBurin n 0)
  else if s.on (ofBe CC.BSTAT_SWPEND n) then some (s.doSwap n)
  else none

/-- The instruction at PC does not execute yet (R178): WAIT, or a data stall in PULL and PUSH. -/
def State.burinWait (s : State) (n : Nat) (i : BIns) : State :=
  let b := s.bu n
  let wf : Option Nat := match i with
    | .waitt _ => some (b.waitFrom.getD (s.leads n))
    | _ => none
  let data : Bool := match i with | .pull => true | .push => true | _ => false
  (s.setBu n { b with waitFrom := wf, seq := if data then 3 else 2 }).showState n (s.leads n)

/-- The engine comes to its next instruction, which has opcode `op` (R178, R179, R198). Nothing happens when the engine does not
advance, only a shift runs in it (R191), an injected word is due first (R192), or the word at PC is another instruction. -/
def burinStep (op n : Nat) (pins : BitVec 8) (s : State) : Out :=
  if !s.burinLives n || s.f (ofBe CC.BSTAT_STATE n) = 0 || (s.bu n).alone || s.injFirst n then .next s
  else
    let pins := s.seen (n / 8) pins
    let pc := s.f (ofBe CC.BSTAT_PC n)
    let bank := s.f (ofBe CC.BSTAT_ACTBANK n)
    if s.eccIn (bankPlace n bank pc) 8 2 then
      .next ((s.boundary n).getD (s.haltBurin n 2))
    else
      match burinDecode (s.rd (CC.BBANK (n / 8) (n % 8) bank pc)) with
      | none => .next ((s.boundary n).getD (s.haltBurin n 1))
      | some i =>
        if i.op ≠ op then .next s
        else if !s.burinReady n i (s.bu n).waitFrom pins then .next ((s.setPins n pins).burinWait n i)
        else
          match s.boundary n with
          | some t => .next t
          | none =>
            let r := s.burinExec n i pins
            let t := r.1.setF (ofBe CC.BSTAT_PC n) (r.2.getD ((pc + 1) % 32))
            .next ((t.setBu n { t.bu n with waitFrom := none, seq := 1, stall := none }).showState n (t.leads n))

/-! ## Rights and control -/

/-- The cluster of a communication engine's identity. -/
def clusterOf (id : Nat) : Option Nat := if 0x10 ≤ id ∧ id ≤ 0x27 then some ((id - 0x10) / 3) else none

/-- May `rq` read the Burin block of cluster `c` (R194)? -/
def burinReadOk (rq : Rq) (c : Nat) : Bool := isKbDbg rq.id.toNat || clusterOf rq.id.toNat == some c

/-- Is `rq` a thread of the cluster that owns engine `n` (R194)? -/
def State.burinOwner (s : State) (rq : Rq) (n : Nat) : Bool :=
  clusterOf rq.id.toNat == some (n / 8) && s.on (ofBe CC.BOWN_V n) && rq.key == some (BitVec.ofNat 8 (s.f (ofBe CC.BOWN_KEY n)))

def State.burinWriteOk (s : State) (rq : Rq) (n : Nat) : Bool := isKbDbg rq.id.toNat || s.burinOwner rq n

/-- HALTED to RUN at STARTPC, ERR cleared (Table 6.9). -/
def State.startBurin (s : State) (n : Nat) : State :=
  let s := s.setFs [(ofBe CC.BSTAT_STATE n, 1), (ofBe CC.BSTAT_PC n, s.f (ofBe CC.BCTL_STARTPC n)), (ofBe CC.BSTAT_ERR n, 0)]
  s.setBu n { s.bu n with undriven := false, stop := false, waitFrom := none, seq := 1, alone := false }

/-- Local reset (R198). It halts the engine and clears TXF; the event fires once for both (R193, log 30). -/
def State.resetBurin (s : State) (n : Nat) : State :=
  let halts := s.f (ofBe CC.BSTAT_STATE n) != 0 && s.on (ofBe CC.BCFG_EVHLT n)
  let empties := s.on (ofBe CC.BSTAT_TXF n) && s.on (ofBe CC.BCFG_EVTXE n)
  let s := [ofBe CC.BSR n, ofBe CC.BCMP n, ofBe CC.BCNT n, ofBe CC.BSH n, ofBe CC.BTXD n, ofBe CC.BRXD n, ofBe CC.BABSR n,
    ofBe CC.BABSH n, ofBe CC.BSTAT n].foldl (fun s a => s.wr a 0) s
  let s := (s.setBu n { Burin.reset with clk := (s.bu n).clk, undriven := true }).restartClk n
  let s := s.refreshPinErr n
  if halts || empties then s.burinEvent n else s

/-- A write of BCTL: STARTPC and SWPC, then START, STOP, SWAP, LRST (Table 6.9, R190). -/
def State.bctl (s : State) (n v : Nat) : State :=
  let s := s.wrReg (ofBe CC.BCTL n) v
  let s := if bitOf v 0 && s.f (ofBe CC.BSTAT_STATE n) == 0 then s.startBurin n else s
  let s := if bitOf v 1 && s.f (ofBe CC.BSTAT_STATE n) != 0 then s.setBu n { s.bu n with stop := true } else s
  let s := if bitOf v 2 then
      if s.f (ofBe CC.BSTAT_STATE n) = 0 then s.doSwap n else s.setF (ofBe CC.BSTAT_SWPEND n) 1
    else s
  if bitOf v 3 then s.resetBurin n else s

/-- BTXD (R184). The engine has acted at every edge before this one (R183). -/
def State.btxWrite (s : State) (n v : Nat) : State :=
  let s := s.shiftTurn n (s.leadsBefore n)
  if s.on (ofBe CC.BSTAT_TXF n) then s.setF (ofBe CC.BSTAT_TXOVF n) 1
  else s.setFs [(ofBe CC.BTXD_W n, v), (ofBe CC.BSTAT_TXF n, 1)]

/-- BRXD (R184). -/
def State.brxRead (s : State) (rq : Rq) (n : Nat) : Nat × State :=
  let s := s.shiftTurn n (s.leadsBefore n)
  let w := s.f (ofBe CC.BRXD_W n)
  if !s.burinOwner rq n then (w, s)
  else if s.on (ofBe CC.BSTAT_RXF n) then (w, s.setF (ofBe CC.BSTAT_RXF n) 0)
  else (w, s.setF (ofBe CC.BSTAT_RXUNF n) 1)

/-- A write of BSYNC (R187, R194). -/
def State.bsyncOk (s : State) (rq : Rq) (c v : Nat) : Bool :=
  isKbDbg rq.id.toNat || (clusterOf rq.id.toNat == some c
    && (List.range 8).any (fun k => s.burinOwner rq (8 * c + k)) && (List.range 8).all (fun k => !bitOf v k || s.burinOwner rq (8 * c + k)))

def State.bsync (s : State) (c v : Nat) : State :=
  let s := s.wrReg (CC.BSYNC c) v
  let t := s.f (CC.BSYNC_TRIG c)
  if bitOf v 18 && (t == 0 || t == 3) then
    let s := if s.syncDue.contains c then s else { s with syncDue := s.syncDue ++ [c] }
    if s.on (CC.BSYNC_DRIVE c) then s.syncPulse c else s
  else s

/-- The action at the sync edge (R188). -/
def State.syncAction (s : State) (c : Nat) : State :=
  let s := (List.range 8).foldl (fun s k =>
    if bitOf (s.f (CC.BSYNC_MASK c)) k then
      let n := 8 * c + k
      let s := s.restartClk n
      if s.on (CC.BSYNC_OP c) then s
      else if s.f (ofBe CC.BSTAT_STATE n) = 0 then s.startBurin n
      else s.setF (CC.BSYNC_LATE c) 1
    else s) s
  { s.setF (CC.BSYNC_ARM c) 0 with syncDue := s.syncDue.filter (· != c) }

/-! ## Injection (R191, R192) -/

/-- An injected word executes: PC stays unless the word is a taken JMP, which ends a wait at the old PC; an illegal word halts the engine. A
shift in a halted engine runs to its end (log 30); one that a forced injection abandoned, and that none follows, halts it again. -/
def State.injectExec (s : State) (n : Nat) (w : Word) (pins : BitVec 8) : State :=
  let pins := s.seen (n / 8) pins
  let rest (s : State) : State := if (s.bu n).alone && (s.bu n).kind == 0 then s.haltBurin n 0 else s
  let clear (s : State) : State := (s.setBu n { s.bu n with inj := none, injWait := none }).setF (ofBe CC.BSTAT_INJPEND n) 0
  match burinDecode w.toNat with
  | none => (clear s).haltBurin n 1
  | some i =>
    if s.burinReady n i (s.bu n).injWait pins then
      let r := (clear s).burinExec n i pins
      let t := match r.2 with
        | some a => (r.1.setF (ofBe CC.BSTAT_PC n) a).setBu n { r.1.bu n with waitFrom := none, seq := 1 }
        | none => r.1
      if t.f (ofBe CC.BSTAT_STATE n) = 0 ∧ (s.bu n).kind = 0 ∧ (t.bu n).kind ≠ 0 then
        ((t.setF (ofBe CC.BSTAT_STATE n) 1).setBu n { t.bu n with alone := true }).showState n (t.leads n)
      else (rest (t.setBu n { t.bu n with stall := none })).showState n (t.leads n)
    else
      let s := rest s
      let s := s.setBu n { s.bu n with inj := some w, injWait := some ((s.bu n).injWait.getD (s.leads n)) }
      (s.setF (ofBe CC.BSTAT_INJPEND n) 1).showState n (s.leads n)

/-- BINJ: pending, or executed at once in a halted engine. -/
def State.inject (s : State) (n : Nat) (w : Word) (pins : BitVec 8) : State :=
  if (s.bu n).inj.isSome then s.setF (ofBe CC.BSTAT_INJLOST n) 1
  else if s.f (ofBe CC.BSTAT_STATE n) = 0 then s.injectExec n w pins
  else (s.setBu n { s.bu n with inj := some w, injWait := none }).setF (ofBe CC.BSTAT_INJPEND n) 1

/-- BINJF (Table 6.7). A data-out pin that has taken a bit keeps it (R176). -/
def State.injectForced (s : State) (n : Nat) (w : Word) (pins : BitVec 8) : State :=
  if (s.bu n).inj.isSome then s.setF (ofBe CC.BSTAT_INJLOST n) 1
  else
    let s := (s.wr (ofBe CC.BABSR n) (s.rd (ofBe CC.BSR n))).wr (ofBe CC.BABSH n) (s.rd (ofBe CC.BSH n))
    let b := s.bu n
    let s := (s.setF (ofBe CC.BSH_SCNT n) 0).setBu n { b with
      kind := 0, held := false, want := false, matched := false, phase := 0, late := false, stall := none,
      dout := if (b.kind == 1 || b.kind == 3) && b.phase == 0 && s.bitOpen n then s.nextOut n else b.dout,
      seq := if b.seq = 3 then 1 else b.seq }
    s.injectExec n w pins

/-! ## Register accesses of the block (R189, R194, R196, R199) -/

/-- VOK and MISMATCH of bank `c` follow its supply (R196): 0 absent, 1 the 1.8 V class, 2 the 3.3 V class. -/
def State.refreshBank (s : State) (c : Nat) : State :=
  let v := tabGet s.vddio 0 c
  s.setFs [(CC.BANKCFG_VOK c, b2n (v != 0)), (CC.BANKCFG_MISMATCH c, b2n (v != 1 + s.f (CC.BANKCFG_V33 c)))]

/-- A write at offset `o` (0x8000–0xFFFF) of the CC block of cluster `c`: response code and state. -/
def State.burinRegWrite (s : State) (rq : Rq) (c o v : Nat) : Nat × State :=
  let a := 0x40200000 + c * 0x10000 + o
  if o < 0xA000 then
    let n := 8 * c + (o - 0x8000) / 0x400
    let r := o % 0x400
    if !s.burinWriteOk rq n then (2, s)
    else if r = 0 then (0, s.bctl n v)
    else if r = 8 then (0, s.setDiv n v)
    else if r = 0xC then
      if s.f (ofBe CC.BSTAT_STATE n) = 0 then (0, s.wrReg a v) else (2, s)
    else if r = 0x10 then
      if s.f (ofBe CC.BSTAT_STATE n) = 0 then (0, (s.wrReg a v).refreshPinErr n) else (2, s)
    else if r = 0x14 then (0, s.btxWrite n v)
    else if r = 0x2C then let p := s.pinsNow c; (0, p.2.inject n (BitVec.ofNat 32 v) p.1)
    else if r = 0x30 then let p := s.pinsNow c; (0, p.2.injectForced n (BitVec.ofNat 32 v) p.1)
    else if r = 0x40 then if isKbDbg rq.id.toNat then (0, s.wrReg a v) else (2, s)
    else if 0x100 ≤ r ∧ r < 0x200 then
      let b := (r - 0x100) / 0x80
      let act := s.f (ofBe CC.BSTAT_ACTBANK n)
      if (b = act ∧ s.f (ofBe CC.BSTAT_STATE n) ≠ 0) ∨ (b ≠ act ∧ s.on (ofBe CC.BSTAT_SWPEND n)) then (2, s)
      else (0, (s.wrReg a v).eccDrop (bankPlace n b (r % 0x80 / 4)) 8 2)
    else (0, s.wrReg a v)
  else if o = 0xA010 then
    if s.bsyncOk rq c v then (0, s.bsync c v) else (2, s)
  else if !isKbDbg rq.id.toNat then (2, s)
  else if o = 0xA000 then (0, (List.range 8).foldl (fun s k => s.refreshPinErr (8 * c + k)) (s.wrReg a v))
  else if o = 0xA004 then (0, (s.wrReg a v).refreshBank c)
  else (0, s.wrReg a v)

/-- A read at offset `o` of the Burin block of cluster `c`. -/
def State.burinRegRead (s : State) (rq : Rq) (c o : Nat) : Nat × Nat × State :=
  if !burinReadOk rq c then (2, 0, s)
  else if 0x8000 ≤ o ∧ o < 0xA000 ∧ o % 0x400 = 0x18 then
    let r := s.brxRead rq (8 * c + (o - 0x8000) / 0x400)
    (0, r.1, r.2)
  else if o = 0xA200 then
    let r := s.pinsNow c
    (0, r.1.toNat, r.2)
  else
    let r := s.rdReg (0x40200000 + c * 0x10000 + o)
    (0, r.1, r.2)

/-! ## Meanings -/

def bctlCmd (rq : Rq) (n : Nat) (v : Nat) (s : State) : Out :=
  s.atCluster (n / 8) (fun s => if s.burinWriteOk rq n then .next ((s.bctl n v).answer 0) else .next (s.answer 2))

/-- BURIN_START. -/
def execBurinStart (rq : Rq) (n : Fin 64) (startpc swpc : BitVec 5) (s : State) : Out :=
  bctlCmd rq n (1 + startpc.toNat * 2 ^ 8 + swpc.toNat * 2 ^ 16) s

/-- BURIN_STOP (R190). -/
def execBurinStop (rq : Rq) (n : Fin 64) (startpc swpc : BitVec 5) (s : State) : Out :=
  bctlCmd rq n (2 + startpc.toNat * 2 ^ 8 + swpc.toNat * 2 ^ 16) s

/-- BURIN_SWAP_REQUEST (R190). -/
def execBurinSwapRequest (rq : Rq) (n : Fin 64) (startpc swpc : BitVec 5) (s : State) : Out :=
  bctlCmd rq n (4 + startpc.toNat * 2 ^ 8 + swpc.toNat * 2 ^ 16) s

/-- BURIN_LOCAL_RESET (R198). -/
def execBurinLocalReset (rq : Rq) (n : Fin 64) (startpc swpc : BitVec 5) (s : State) : Out :=
  bctlCmd rq n (8 + startpc.toNat * 2 ^ 8 + swpc.toNat * 2 ^ 16) s

/-- BURIN_SWAP (R190, R192): the next instruction would execute at this edge, no injected word is due first. -/
def execBurinSwap (n : Fin 64) (pins : BitVec 8) (s : State) : Out :=
  let i := burinDecode (s.burinWord n)
  let pins := s.seen (n / 8) pins
  let ready := s.f (ofBe CC.BSTAT_STATE n) == 0 || match i with | some i => s.burinReady n i (s.bu n).waitFrom pins | none => true
  if s.burinLives n && s.on (ofBe CC.BSTAT_SWPEND n) && s.f (ofBe CC.BSH_SCNT n) == 0 && ready && !(s.bu n).stop
    && !s.injFirst n then
    .next ((s.doSwap n).showState n (s.leads n))
  else .next s

/-- BURIN_NOP. -/
def execBurinNop (n : Fin 64) (pins : BitVec 8) (s : State) : Out := burinStep 0 n pins s
/-- BURIN_SHO (R180). -/
def execBurinSho (n : Fin 64) (pins : BitVec 8) (s : State) : Out := burinStep 1 n pins s
/-- BURIN_SHI (R180). -/
def execBurinShi (n : Fin 64) (pins : BitVec 8) (s : State) : Out := burinStep 2 n pins s
/-- BURIN_SHX (R180). -/
def execBurinShx (n : Fin 64) (pins : BitVec 8) (s : State) : Out := burinStep 3 n pins s
/-- BURIN_PULL. -/
def execBurinPull (n : Fin 64) (pins : BitVec 8) (s : State) : Out := burinStep 4 n pins s
/-- BURIN_PUSH. -/
def execBurinPush (n : Fin 64) (pins : BitVec 8) (s : State) : Out := burinStep 5 n pins s
/-- BURIN_SET. -/
def execBurinSet (n : Fin 64) (pins : BitVec 8) (s : State) : Out := burinStep 6 n pins s
/-- BURIN_WAITP. -/
def execBurinWaitp (n : Fin 64) (pins : BitVec 8) (s : State) : Out := burinStep 7 n pins s
/-- BURIN_WAITT. -/
def execBurinWaitt (n : Fin 64) (pins : BitVec 8) (s : State) : Out := burinStep 8 n pins s
/-- BURIN_JMP (Table 6.4). -/
def execBurinJmp (n : Fin 64) (pins : BitVec 8) (s : State) : Out := burinStep 9 n pins s
/-- BURIN_LDC. -/
def execBurinLdc (n : Fin 64) (pins : BitVec 8) (s : State) : Out := burinStep 10 n pins s
/-- BURIN_LDI. -/
def execBurinLdi (n : Fin 64) (pins : BitVec 8) (s : State) : Out := burinStep 11 n pins s
/-- BURIN_MOV. -/
def execBurinMov (n : Fin 64) (pins : BitVec 8) (s : State) : Out := burinStep 12 n pins s
/-- BURIN_IRQ (R193). -/
def execBurinIrq (n : Fin 64) (pins : BitVec 8) (s : State) : Out := burinStep 13 n pins s
/-- BURIN_SYNCO (R187). -/
def execBurinSynco (n : Fin 64) (pins : BitVec 8) (s : State) : Out := burinStep 14 n pins s
/-- BURIN_CLKR (R188). -/
def execBurinClkr (n : Fin 64) (pins : BitVec 8) (s : State) : Out := burinStep 15 n pins s
/-- BURIN_HALT. -/
def execBurinHalt (n : Fin 64) (pins : BitVec 8) (s : State) : Out := burinStep 31 n pins s

/-- BURIN_SHIFT_END (R180–R182): the bit periods up to this edge pass, each with the pin levels of `smp` at its sample
point. -/
def execBurinShiftEnd (n : Fin 64) (smp : List (BitVec 8)) (s : State) : Out :=
  if s.burinLives n then .next (s.shiftBits n smp) else .next s

/-- AUTOMATIC_PULL (R181, Table 6.5). -/
def execAutomaticPull (n : Fin 64) (s : State) : Out :=
  if s.burinLives n && (s.pullDue n || ((s.bu n).want && !(s.bu n).held)) && s.on (ofBe CC.BSTAT_TXF n) then
    .next (s.settle n (s.leads n))
  else .next s

/-- AUTOMATIC_PUSH (R181). -/
def execAutomaticPush (n : Fin 64) (s : State) : Out :=
  if s.burinLives n && (s.bu n).held && !s.on (ofBe CC.BSTAT_RXF n) then .next (s.settle n (s.leads n)) else .next s

/-- BURIN_TX_WRITE (R184, R194). -/
def execBurinTxWrite (rq : Rq) (n : Fin 64) (val : Word) (s : State) : Out :=
  s.atCluster (n / 8) (fun s => if s.burinWriteOk rq n then .next ((s.btxWrite n val.toNat).answer 0) else .next (s.answer 2))

/-- BURIN_RX_READ (R184, R194). -/
def execBurinRxRead (rq : Rq) (n : Fin 64) (s : State) : Out :=
  s.atCluster (n / 8) (fun s =>
    if burinReadOk rq (n / 8) then
      let r := s.brxRead rq n
      .next (r.2.answer 0 (leBytes 4 r.1))
    else .next (s.answer 2))

/-- BURIN_STALL_TIMEOUT (R186): a data stall has lasted STO × 16 lead ticks. -/
def execBurinStallTimeout (n : Fin 64) (s : State) : Out :=
  let sto := s.f (ofBe CC.BCFG_STO n)
  match (s.bu n).stall with
  | some l => if s.burinLives n && s.stalled n && sto != 0 && decide (l + 16 * sto ≤ s.leads n) then .next (s.haltBurin n 3) else .next s
  | none => .next s

/-- BURIN_SYNC_ARM (R187, R194). -/
def execBurinSyncArm (rq : Rq) (c : Fin 8) (val : Word) (s : State) : Out :=
  s.atCluster c (fun s => if s.bsyncOk rq c val.toNat then .next ((s.bsync c (val.toNat ||| 2 ^ 18)).answer 0) else .next (s.answer 2))

/-- BURIN_SYNC_ACTION (R188): the sync edge after a trigger of an armed BSYNC. -/
def execBurinSyncAction (c : Fin 8) (s : State) : Out :=
  if s.syncDue.contains c.val && s.on (CC.BSYNC_ARM c) && s.burinLives (8 * c) then .next (s.syncAction c) else .next s

/-- BURIN_INJECT (R191, R194). -/
def execBurinInject (rq : Rq) (n : Fin 64) (word : Word) (pins : BitVec 8) (s : State) : Out :=
  s.atCluster (n / 8) (fun s => if s.burinWriteOk rq n then .next ((s.inject n word pins).answer 0) else .next (s.answer 2))

/-- BURIN_INJECTED_EXECUTE (R191): at the next instruction boundary outside a data stall. -/
def execBurinInjectedExecute (n : Fin 64) (pins : BitVec 8) (s : State) : Out :=
  match (s.bu n).inj with
  | none => .next s
  | some w => if s.burinLives n && s.injFirst n then .next (s.injectExec n w pins) else .next s

/-- BURIN_FORCED_INJECT (R192, Table 6.7). -/
def execBurinForcedInject (rq : Rq) (n : Fin 64) (word : Word) (pins : BitVec 8) (s : State) : Out :=
  s.atCluster (n / 8) (fun s => if s.burinWriteOk rq n then .next ((s.injectForced n word pins).answer 0) else .next (s.answer 2))

end Sys2Proof.Machine
end

