-- ==== Sys2Proof/Machine/TimeOps.lean ====
section
/-! DEFINITION. The time unit's counter and what acts on it (chapter 9): the tick of R264, INBOUND (R269), frequency and phase
(R271, R272), states (R268), correlation (R288, R289), capture queues (R284), rights (R270). -/
namespace Sys2Proof.Machine

/-- `n / d` rounded to the nearest integer, ties to even. -/
def roundEven (n : Int) (d : Nat) : Int :=
  let q := n / (d : Int)
  let r := (n % (d : Int)).toNat
  if 2 * r < d then q else if 2 * r > d then q + 1 else if q % 2 = 0 then q else q + 1

/-- TMU.FREQ as a signed number of 2⁻¹⁶ ppm. -/
def State.freq (s : State) : Int := toSigned 32 (s.f TMU.FREQ_FREQ)

/-- `inc` of R264 in units of 2⁻⁴⁸ ns. -/
def State.tickInc (s : State) : Int := 2 ^ 49 + roundEven (s.freq * 2 ^ 33) 1000000

/-- SLEW_MAX in ppm: 0 acts as 1, above 500 as 500. -/
def State.slewMax (s : State) : Nat := min (max (s.f TMU.SRVCFG_SLEW_MAX) 1) 500

/-- The slew share of a tick in units of 2⁻⁴⁸ ns (R264). -/
def State.slewShare (s : State) : Nat := (roundEven (s.slewMax * 2 ^ 49) 1000000).toNat

/-- One second in units of 2⁻⁴⁸ ns. -/
def secUnit : Nat := 1000000000 * 2 ^ 48

/-- One TCLK edge of the counter (R263, R264). -/
def State.tickTime (s : State) : State :=
  let d := min s.time.rem.natAbs s.slewShare
  let step := s.tickInc + s.time.rem.sign * d
  let t := (s.time.sub : Int) + step
  let t' := t.toNat
  { s with time := { s.time with
      sec := (s.time.sec + t' / secUnit) % 2 ^ 48
      sub := t' % secUnit
      rem := s.time.rem - s.time.rem.sign * d } }

/-- TCLK edges of this run of the device. -/
def State.runTick (s : State) : Nat := s.ticks - s.tOff

/-- Counter of message-bus controller `k` (R288). -/
def State.mbCount (s : State) (k : Nat) : Nat :=
  ((s.runTick - s.devTick) / 16 - (tabGet s.mbBase s.devTick k - s.devTick) / 16) % 2 ^ 32

/-- Is this a counter-increment edge? -/
def State.mbEdge (s : State) : Bool := (s.runTick - s.devTick) % 16 == 0

/-- What a correlation latches (R289). -/
def State.latchCorr (s : State) : State :=
  let s := (List.range 8).foldl (fun s k => s.setF (TMU.MBCNT_CNT k) (s.mbCount k)) s
  { s.setFs [(TMU.CORRNS_NS, s.nowNs), (TMU.CORRSEC_SEC, s.nowSec % 2 ^ 32), (TMU.CORRFRAC_FRAC, s.nowFrac)] with corrDue := false }

/-- A correlation (R289), at the first counter-increment edge from now on. -/
def State.correlate (s : State) : State := if s.mbEdge then s.latchCorr else { s with corrDue := true }

/-- Does TCLK stand still: in Hold until its exit has ended (R490, Tables 18.5 and 18.7), in Off (R492), while power-good has failed (R532) and
while both dies wait in reset for a reference (R25)? -/
def State.tclkOff (s : State) : Bool := s.offline || !s.awake

/-- Name of a time pin. -/
def tioName (i : Nat) : String := match i with | 0 => "TIO0" | 1 => "TIO1" | 2 => "TIO2" | _ => "TIO3"

/-- The time pins whose trigger is active take their inactive level in Hold, and their level of Run after it (`run`); PPS_OUT is inactive in Hold
(Table 18.9). -/
def State.timePins (s : State) (run : Bool) : State :=
  let s := (s.trig.filter (fun e => e.2.active)).foldl (fun (s : State) e =>
    s.emit (.pin (tioName e.1) (if run then 1 - s.f (TMU.TIOCFG_POL e.1) else s.f (TMU.TIOCFG_POL e.1)))) s
  if s.on TMU.PPSOUT_EN && !run then s.emit (.pin "PPS_OUT" (s.f TMU.PPSOUT_POL)) else s

/-- One period of TCLK, 2 ns, without a command: the counter takes its tick (R264) unless TCLK stands still, and a correlation that waited for
this edge is taken (R289); the clocks that stand still miss a period (R107, R197); at a BCLK edge the synchronisers take the pads (R177). -/
def State.tclk (s : State) : State :=
  let idle := (List.range 13).foldl (fun l c => if s.clkLives c then l else tabPut l c (tabGet l 0 c + 1)) s.bIdle
  let edges := (List.range 8).filter (fun c => s.clkLives c && (s.beNow (8 * c) + 1) % 2 == 0)
  let s := edges.foldl State.syncEdge s
  let s := { s with ticks := s.ticks + 1, bIdle := idle }
  if s.tclkOff then { s with tOff := s.tOff + 1 }
  else
    let s := s.tickTime
    if s.corrDue then s.correlate else s

/-- TMU.STAT.INBOUND (R269); the members it makes silent are so at once (R296). -/
def State.refreshInbound (s : State) : State :=
  let s := s.setF TMU.STAT_INBOUND (b2n (s.f TMU.STAT_STATE == 2 && decide (s.time.lastPhase ≤ s.f TMU.SYNCBND_BOUND)))
  [0, 1, 2, 3].foldl (fun s n => s.refreshSilent n false) s

/-- Entry to a time state (R267, R268): every entry to SYNC restarts the update timer; KEVT bit 8 and SYNC_STATE on a change. -/
def State.setTimeState (s : State) (st : Nat) : State :=
  let was := s.f TMU.STAT_STATE
  let s := (s.setF TMU.STAT_STATE st).refreshInbound
  let s := if st = 2 then { s with updAt := s.ticks } else s
  if was = st then s else (s.kevt 8).postEvent 0x8580 [st]

/-- A write of FREQ, clamped to ±500 ppm (R271); it restarts the update timer (R268). -/
def State.setFreq (s : State) (v : Nat) : State :=
  let x := toSigned 32 v
  { s with updAt := s.ticks }.setF TMU.FREQ_FREQ (ofSigned 32 (max (-0x1F40000) (min 0x1F40000 x)))

/-- A write of PHASE (R272); it restarts the update timer (R268). -/
def State.setPhase (s : State) (v : Nat) : State :=
  let x := toSigned 32 v
  let s := { s with updAt := s.ticks, time := { s.time with rem := x * 2 ^ 48, lastPhase := x.natAbs } }
  ((s.setF TMU.STAT_SLEWING (b2n (x != 0))).refreshInbound).sample 9 0 x.natAbs

/-- What a read of PHASE returns: rem truncated toward zero to whole ns (R272). -/
def State.phaseRead (s : State) : Nat := ofSigned 32 (Int.tdiv s.time.rem (2 ^ 48))

/-- The servo owner, the Keyblock or the debug port (R270). -/
def State.servoOk (s : State) (rq : Rq) : Bool :=
  isKbDbg rq.id.toNat || ((clusterOf' rq.id.toNat) && s.on TMU.SRVOWN_V && rq.key == some (BitVec.ofNat 8 (s.f TMU.SRVOWN_KEY)))
where clusterOf' (id : Nat) : Bool := decide (0x10 ≤ id) && decide (id ≤ 0x27)

/-- A read of TNS latches seconds and fraction for the reading identity (R265). -/
def State.timeRead (s : State) (id : Nat) : Nat × State :=
  (s.nowNs, { s with time := { s.time with latch := tabPut s.time.latch id (s.nowSec, s.nowFrac) } })

/-- The latch of an identity. -/
def State.timeLatch (s : State) (id : Nat) : Nat × Nat := tabGet s.time.latch (0, 0) id

/-- LEFT and FULL of a capture queue (Table 9.10). -/
def State.refreshCap (s : State) (i : Nat) : State :=
  let n := (tabGet s.time.cap [] i).length
  s.setFs [(TMU.TIOCFG_LEFT i, min n 3), (TMU.TIOCFG_FULL i, b2n (n == 4))]

/-- A read of CAPNS (R284). -/
def State.capRead (s : State) (i : Nat) : Nat × State :=
  match tabGet s.time.cap [] i with
  | [] => (0xFFFFFFFF, s)
  | (ns, sec) :: t =>
    let s := { s with time := { s.time with cap := tabPut s.time.cap i t } }
    (ns, (s.setF (TMU.CAPSEC_SEC i) sec).refreshCap i)

/-- MODE of a time pin: PPS_IN accepts 0 and 1 only, 4–7 act as 0 (R283). -/
def State.tioMode (s : State) (i : Nat) : Nat :=
  let m := s.f (TMU.TIOCFG_MODE i)
  if m ≥ 4 ∨ (i = 4 ∧ m ≥ 2) then 0 else m

/-- A captured edge (R284). -/
def State.capture (s : State) (i : Nat) : State :=
  let q := tabGet s.time.cap [] i
  let s := if q.length ≥ 4 then s.bump (TMU.TIOCFG_OVF i)
    else ({ s with time := { s.time with cap := tabPut s.time.cap i (q ++ [(s.nowNs, s.nowSec % 2 ^ 32)]) } }).refreshCap i
  let s := s.fireBoth (0x42 + i)
  if s.tioAsk.contains i then s.postEvent 0x8581 [i, s.nowNs, s.nowSec] else s

/-- PERIOD and WIDTH as they act (R285). -/
def trigPeriod (p : Nat) : Nat := if p < 16 then 16 else p / 2 * 2
def trigWidth (mode period w : Nat) : Nat := if w < 8 ∨ (mode = 3 ∧ w ≥ period) then period / 4 * 2 else w

/-- Arming of a trigger pin by a write of MODE 2 or 3 (R285). -/
def State.armTrig (s : State) (i : Nat) : State :=
  let m := s.tioMode i
  if m = 2 ∨ m = 3 then
    let start := s.fullTime (s.f (TMU.STARTNS_NS i)) (s.f (TMU.STARTSEC_SEC i))
    let per := trigPeriod (s.f (TMU.PERIOD_NS i))
    if m = 2 ∧ start < s.now then { s.setF (TMU.TIOCFG_LATE i) 1 with trig := tabDel s.trig i }
    else { s with trig := tabPut s.trig i ⟨m, start, per, trigWidth m per (s.f (TMU.WIDTH_NS i)), false⟩ }
  else { s with trig := tabDel s.trig i }

/-- Realignment of the triggers by a step from network time `old` (Table 9.3). -/
def State.stepTrigs (s : State) (old : Nat) : State :=
  s.trig.foldl (fun s e =>
    if e.2.mode = 2 ∧ !e.2.active ∧ old ≤ e.2.start ∧ e.2.start < s.now then
      { s.setF (TMU.TIOCFG_LATE e.1) 1 with trig := tabDel s.trig e.1 }
    else s) s

/-! ## Cycles of a Ruling instance (R294) -/

/-- CYCLE in ns: limits and bit 0 as Table 10.9 says. -/
def State.ttCycle (s : State) (n : Nat) : Nat := min (max (s.f (RUL.CYCLE_CYCLE n)) 12500) 100000000 / 2 * 2

/-- BASE in ns, upper seconds bits those of the current network time. -/
def State.ttBase (s : State) (n : Nat) : Nat := s.fullTime (s.f (RUL.BASENS_BASENS n)) (s.f (RUL.BASESEC_BASESEC n))

/-- Index of the cycle at network time `t` ns, and the offset in it. -/
def State.ttIndex (s : State) (n t : Nat) : Int := ((t : Int) - s.ttBase n) / (s.ttCycle n : Int)
def State.ttOffset (s : State) (n t : Nat) : Nat := (((t : Int) - s.ttBase n) % (s.ttCycle n : Int)).toNat

/-- Cycle number at network time `t`. -/
def State.ttNumber (s : State) (n t : Nat) : Nat := ofSigned 32 (s.ttIndex n t)

/-- Does the instance fire marks (R318)? -/
def State.ttMarks (s : State) (n : Nat) : Bool := s.f (RUL.STAT_STATE n) != 0

/-- Does the instance run (R297)? -/
def State.ttRuns (s : State) (n : Nat) : Bool := s.on (RUL.CTL_RUN n) || s.f (RUL.STAT_STATE n) != 0

/-- OFFSET of a mark; bit 0 is ignored. -/
def State.markOffset (s : State) (n m : Nat) : Nat := s.f (RUL.MARK_OFFSET n m) / 2 * 2

end Sys2Proof.Machine
end

