-- ==== Sys2Proof/Machine/LoopNum.lean ====
section
/-! DEFINITION. The numbers of the loop engine (R345, R346), its sine table (R356) and the control law (R348) as a function of the record, the
state and the inputs. -/
namespace Sys2Proof.Machine

/-! ## binary32 of R345 -/

def lpEnv : FEnv := ⟨0, true, true, false, true⟩

def lAdd (a b : Nat) : Nat := (fAdd lpEnv a b).1
def lSub (a b : Nat) : Nat := (fSub lpEnv a b).1
def lMul (a b : Nat) : Nat := (fMul lpEnv a b).1

/-- Is the word a NaN? -/
def isNaN (x : Nat) : Bool := (unpackF true x).isNan

/-- a < b; −0 and +0 are equal, a NaN is below nothing. -/
def lLess (a b : Nat) : Bool := !isNaN a && !isNaN b && (fLess true a b).1

/-- Are two numbers equal? -/
def lEq (a b : Nat) : Bool := !isNaN a && !isNaN b && (fLess true a b).2

/-- max and min of R345; a subnormal operand is taken as zero. -/
def lMax (a b : Nat) : Nat := flushed true (if lLess a b then b else a)
def lMin (a b : Nat) : Nat := flushed true (if lLess b a then b else a)

/-- An integer as binary32, rounded. -/
def lOfInt (i : Int) : Nat := (roundF lpEnv (decide (i < 0)) i.natAbs 0).1

/-- A number that is no NaN, rounded to the nearest integer, ties to even, and limited to [lo, hi]. -/
def lToInt (x : Nat) (lo hi : Int) : Int :=
  match unpackF true x with
  | .nan _ => lo
  | .inf neg => if neg then lo else hi
  | .num neg m e =>
    let q := (roundAt 0 neg m e 0).1
    let i : Int := if neg then -(q : Int) else q
    max lo (min hi i)

/-- Bytes of a format: binary32, int32, int16, uint16. -/
def fmtSize (f : Nat) : Nat := if f ≤ 1 then 4 else 2

/-- convert_in (R346). -/
def convertIn (fmt w scin : Nat) : Nat :=
  match fmt with
  | 0 => w % 2 ^ 32
  | 1 => lMul (lOfInt (toSigned 32 w)) scin
  | 2 => lMul (lOfInt (toSigned 16 w)) scin
  | _ => lMul (lOfInt (w % 2 ^ 16)) scin

/-- convert_out (R346): the product with SCOUT, and the word written. -/
def convertOut (fmt u scout : Nat) : Nat × Nat :=
  if fmt = 0 then (u, u)
  else
    let p := lMul u scout
    (p, match fmt with
      | 1 => ofSigned 32 (lToInt p (-0x80000000) 0x7FFFFFFF)
      | 2 => ofSigned 16 (lToInt p (-0x8000) 0x7FFF)
      | _ => ofSigned 16 (lToInt p 0 0xFFFF))

/-! ## The sine table (R356): S[j] = binary32 of sin(2πj / 4096) -/

/-- π in units of 2⁻¹²⁸. -/
def piFix : Nat := 0x3243f6a8885a308d313198a2e03707344

/-- The sine series from term `t` = x^(2i−1)/(2i−1)! on, in units of 2⁻¹²⁸; `x2` is x². -/
def sinSeries (n i t x2 : Nat) : Int :=
  match n with
  | 0 => 0
  | n + 1 => (t : Int) - sinSeries n (i + 1) (t * x2 / 2 ^ 128 / (2 * i * (2 * i + 1))) x2

/-- sin(πk / 2048) in units of 2⁻¹²⁸, 0 ≤ k ≤ 1024. -/
def sinFix (k : Nat) : Nat :=
  let x := piFix * k / 2048
  (sinSeries 24 1 x (x * x / 2 ^ 128)).toNat

/-- Entry `j` of the sine table, 0 ≤ j ≤ 4096. -/
def sineTab (j : Nat) : Nat :=
  let k := j % 2048
  let k := if k > 1024 then 2048 - k else k
  if k = 0 then 0
  else if k = 1024 then signBit (decide (2048 ≤ j)) + 0x3F800000
  else (roundF lpEnv (decide (2048 ≤ j)) (sinFix k) (-128)).1

/-! ## Test signals (Table 12.3) -/

/-- Parity of a word. -/
def parityOf (x : Nat) : Bool := (List.range 32).foldl (fun p i => p != bitOf x i) false

/-- 2⁻²⁰ as binary32. -/
def twoM20 : Nat := 0x35800000

/-- Sine at phase `ph` by interpolation (R356). -/
def chirpSine (ph : Nat) : Nat :=
  let i := ph / 2 ^ 20 % 4096
  let frac := lMul (lOfInt (ph % 2 ^ 20)) twoM20
  lAdd (sineTab i) (lMul frac (lSub (sineTab (i + 1)) (sineTab i)))

/-- One step of a generator with its registers: the value injected and the generator after it. A NaN increment has no stated rounding;
`fr` stands for it. -/
def TsgSt.next (g : TsgSt) (typ order hold amp ofs p1 p2 fr : Nat) : Nat × TsgSt :=
  let g' := { g with k := g.k + 1 }
  match typ with
  | 0 => (lAdd ofs amp, g')
  | 1 =>
    if g.k % (max hold 1) = 0 then
      let o := min (max order 7) 31
      let fb := parityOf (g.lfsr &&& p1)
      let l := (2 * g.lfsr + b2n fb) % 2 ^ o
      (if fb then lAdd ofs amp else lSub ofs amp, { g' with lfsr := l, bit := fb })
    else (if g.bit then lAdd ofs amp else lSub ofs amp, g')
  | _ =>
    let x := lAdd ofs (lMul amp (chirpSine g.ph))
    let d : Nat := if isNaN g.finc then fr % (2 ^ 31 + 1) else (lToInt g.finc 0 (2 ^ 31)).toNat
    (x, { g' with
      ph := (g.ph + d) % 2 ^ 32
      finc := if typ = 2 then lAdd g.finc p2 else lMul g.finc p2 })

/-! ## The control law -/

/-- What a step computes: the values of Table 12.5, the state words after it, and whether any value is a NaN. -/
structure LpVals where
  r : Nat
  y : Nat
  e : Nat
  v : Nat
  u : Nat
  urc : Nat
  i : Nat
  d : Nat
  x : Nat
  edp : Nat
  sat : Bool
  rate : Bool
  out : Nat
  nan : Bool
deriving DecidableEq, Repr

/-- R348. `par` is the parameter record, `st` the state record, `sp` the set-point word, `yw` the input word, `urc` the repetitive
controller's output with its own NaN mark. -/
def lpLaw (par st : Nat → Nat) (yw sp xsp xerr xout : Nat) (urc : Nat × Bool) : LpVals :=
  let w0 := par 0
  let man := bitOf (st 5) 0
  let init := bitOf (st 5) 1
  let y := convertIn (bitsOf w0 6 2) yw (par 5)
  let r := lAdd sp xsp
  let r_y := lSub r y
  let e := lAdd r_y xerr
  let br := lMul (par 11) r
  let br_y := lSub br y
  let ep := lAdd br_y xerr
  let cr := lMul (par 12) r
  let cr_y := lSub cr y
  let ed := lAdd cr_y xerr
  let edp := if init then ed else st 2
  let d0 := if init then 0 else st 1
  let p := lMul (par 7) ep
  let dd := lSub ed edp
  let da := lMul (par 9) d0
  let db := lMul (par 10) dd
  let d := lAdd da db
  let pi := lAdd p (st 0)
  let pid := lAdd pi d
  let sum := lAdd pid urc.1
  let base := if man then st 4 else sum
  let v := lAdd base xout
  let umin := par 14
  let umax := par 15
  let u0 := lMin (lMax v umin) umax
  let lo := lSub (st 3) (par 4)
  let hi := lAdd (st 3) (par 4)
  let u1 := if init then u0 else lMin (lMax u0 lo) hi
  let u := lMin (lMax u1 umin) umax
  let aw := bitsOf w0 2 2
  let ki := lMul (par 8) e
  let iki := lAdd (st 0) ki
  let hold := (lLess u v && lLess 0 e) || (lLess v u && lLess e 0)
  let uv := lSub u v
  let kt := lMul (par 13) uv
  let im := lSub (lSub (lSub u p) d) urc.1
  let i :=
    if man then im
    else if aw = 1 then (if hold then st 0 else iki)
    else if aw = 2 then lAdd iki kt
    else iki
  let o := convertOut (bitsOf w0 8 2) u (par 6)
  let common := [xsp, xerr, xout, y, r, r_y, e, br, br_y, ep, cr, cr_y, ed, edp, d0, p, dd, da, db, d, base, v, umin, umax, u0, u1, u, i, o.1]
  let rates := if init then [] else [lo, hi]
  let integ :=
    if man then [lSub u p, lSub (lSub u p) d]
    else if aw = 1 then (if hold then [] else [ki, iki])
    else if aw = 2 then [ki, iki, uv, kt]
    else [ki, iki]
  let auto := if man then [] else [pi, pid, sum]
  { r := r, y := y, e := e, v := v, u := u, urc := urc.1, i := i, d := d, x := lAdd (lAdd xsp xerr) xout, edp := ed
    sat := !lEq u v, rate := !lEq u1 u0, out := o.2
    nan := urc.2 || (common ++ rates ++ integ ++ auto).any isNaN }

end Sys2Proof.Machine
end

