-- ==== Sys2Proof/Machine/Epochs.lean ====
section
/-! DEFINITION. Epoch boundaries and impressions (R508–R512, R515). -/
namespace Sys2Proof.Machine

/-! ## What cores hold (R401, R410) -/

/-- Items at core `n` in a place. -/
def State.itemsAt (s : State) (n st : Nat) : List Item := s.items.filter (fun x => x.st == st && x.core == n)

/-- Depth of a core: items running or pre-empted (R401). -/
def State.depth (s : State) (n : Nat) : Nat := (s.itemsAt n 2).length

/-- The load account of core `n`. -/
def State.load0 (s : State) (n : Nat) : CoreLoad := tabGet s.coreLoad ⟨0, 0, 0⟩ n

/-- Counts the time core `n` has held an item up to now. -/
def State.coreClock (s : State) (n : Nat) : State :=
  let c := s.load0 n
  let d := if s.depth n = 0 then 0 else s.ticks - c.upTo
  ({ s with coreLoad := tabPut s.coreLoad n { c with upTo := s.ticks, busy := c.busy + d } }).countPart (0x60C + 3 * n + 2) 500 d

/-! ## Boundaries -/

/-- MODE of the epoch boundaries; 3 acts as 0. -/
def State.epMode (s : State) : Nat := s.f OBS.EPCFG_MODE % 3

/-- Are the settings within the limits of R508? -/
def State.epValid (s : State) : Bool :=
  let per := s.f OBS.EPPER_PER
  match s.epMode with
  | 1 => let t := per * s.ttCycle (s.f OBS.EPCFG_TT); decide (1000000 ≤ t) && decide (t ≤ 60000000000)
  | 2 => decide (1000 ≤ per) && decide (per ≤ 60000000)
  | _ => false

/-- BASE of MODE 2. -/
def State.epBase (s : State) : Nat := s.fullTime (s.f OBS.EPBASENS_NS) (s.f OBS.EPBASESEC_SEC)

/-- Index of the MODE 2 epoch at network time `t` ns. -/
def State.epIndex (s : State) (t : Nat) : Int := ((t : Int) - s.epBase) / ((s.f OBS.EPPER_PER * 1000 : Nat) : Int)

/-- The monitor configuration that the registers hold. -/
def State.stpRegs (s : State) : List (Nat × Nat × Nat) :=
  ((List.range 32).map (fun m => (m, s.rd (OBS.STPCFG m), s.rd (OBS.STPLO m)))).filter (fun e => e.2.1 != 0 || e.2.2 != 0)

/-- The latch of a boundary (Table 19.1, steps 1 and 2), with the time that every core has held an item up to it. -/
def State.latch (s : State) : State :=
  let s := (List.range 16).foldl State.coreClock s
  let e := s.f OBS.EPSTAT_EPOCH
  let cyc := if s.epMode = 1 then s.ttNumber (s.f OBS.EPCFG_TT) s.now else 0
  let sh : Shadow := ⟨e, s.obs.startNs, s.obs.startSec, s.nowNs, s.nowSec % 2 ^ 32, cyc, s.obs.flags, s.obs.cnt, s.obs.mon, s.obs.cfg⟩
  let cfg := s.stpRegs
  ({ s with obs := { s.obs with
      cnt := [], mon := [], cfg := cfg, flags := 0, startNs := s.nowNs, startSec := s.nowSec % 2 ^ 32, shadow := some sh
      deferred := false } }).setF OBS.EPSTAT_EPOCH ((e + 1) % 2 ^ 32)

/-- Adds flags to the current epoch (Table 19.2). -/
def State.epFlag (s : State) (f : Nat) : State := { s with obs := { s.obs with flags := s.obs.flags ||| f } }

/-- A boundary (R508, R509): it waits while the slot of the previous one is written. No boundary takes place in Hold (R510). -/
def State.boundaryNow (s : State) (forced : Bool) : State :=
  if s.tclkOff then s
  else
    let s := if forced then s.epFlag 4 else s
    if s.obs.shadow.isSome then { s.epFlag 32 with obs := { (s.epFlag 32).obs with deferred := true } } else s.latch

/-- A write of EPCFG, EPPER, EPBASENS or EPBASESEC (`i` = 0–3) makes one forced boundary; the new settings govern from it on (R508). -/
def State.epWrite (s : State) (i v : Nat) : State :=
  let s := (s.boundaryNow true).wrReg (OBS.EPCFG + 4 * i) v
  if s.epMode ≠ 0 ∧ !s.epValid then s.setF OBS.EPCFG_CFGERR 1 else s

/-- A step of network time from `old` (R510): the epoch is flagged; passing MODE 2 instants makes one boundary. -/
def State.epStep (s : State) (old : Nat) : State :=
  let s := s.epFlag 1
  if s.epMode = 2 ∧ s.epValid ∧ s.epIndex old < s.epIndex s.now then s.boundaryNow false else s

/-- Words of a Stipple record (Table 19.7). -/
def stpWord (m : Mon) (cfg lo w : Nat) : Nat :=
  match w with
  | 0 => m.mn
  | 1 => m.mx
  | 2 => m.sum % 2 ^ 32
  | 3 => m.sum / 2 ^ 32
  | 4 => m.cnt
  | 5 => cfg
  | 6 => lo
  | 7 => 0
  | _ => tabGet m.bins 0 (w - 8)

/-- Word `w` of an impression (Table 19.2). -/
def Shadow.word (x : Shadow) (w : Nat) : Nat :=
  match w with
  | 0 => x.epoch
  | 1 => x.startNs
  | 2 => x.startSec
  | 3 => x.endNs
  | 4 => x.endSec
  | 5 => x.cycle
  | 6 => x.flags
  | _ =>
    if w < 16 then 0
    else if w < 16 + 2304 then tabGet x.cnt 0 (w - 16)
    else if w < 16 + 2304 + 32 * 72 then
      let r := w - (16 + 2304)
      let c := tabGet x.cfg (0, 0) (r / 72)
      stpWord (tabGet x.mon Mon.empty (r / 72)) c.1 c.2 (r % 72)
    else 0

/-- What a read of word `w` of impression slot `n` returns: word 0 is 0xFFFF_FFFF while the slot is written (R511). -/
def State.impWord (s : State) (n w : Nat) : Nat :=
  match s.obs.shadow with
  | some x => if x.epoch % 2 = n then (if w = 0 then 0xFFFFFFFF else x.word w) else (match s.obs.imp.find? (fun e => e.1 == n) with | some y => y.2.word w | none => 0)
  | none => match s.obs.imp.find? (fun e => e.1 == n) with | some y => y.2.word w | none => 0

/-- Steps 3 and 4 of Table 19.1 end: the slot holds the impression; a boundary that waited is latched. -/
def State.slotWritten (s : State) : State :=
  match s.obs.shadow with
  | none => s
  | some x =>
    let s := { s with obs := { s.obs with shadow := none, imp := tabPut s.obs.imp (x.epoch % 2) x } }
    if s.obs.deferred then s.latch else s

end Sys2Proof.Machine
end

