-- ==== Sys2Proof/Machine/Frames.lean ====
section
/-! DEFINITION. Ethernet frames as byte lists from the destination address to the last byte before the FCS: VLAN tags, IP and
transport headers (R213–R216, R220), IEEE 1588 event messages (R274–R278), HSR and PRP tags (R248), the FCS. Header layouts are
those of the standards the spec names. -/
namespace Sys2Proof.Machine

/-- Byte `i`, 0 beyond the end. -/
def byteAt (bs : List Byte) (i : Nat) : Nat := (bs.getD i 0).toNat

/-- Big-endian 16-bit word at `i`. -/
def be16 (bs : List Byte) (i : Nat) : Nat := byteAt bs i * 256 + byteAt bs (i + 1)

/-- Bytes `i … i + n − 1`. -/
def sub (bs : List Byte) (i n : Nat) : List Byte := (bs.drop i).take n

/-- Replaces the bytes from `i` on by `v`, inside the list. -/
def patch (bs : List Byte) (i : Nat) (v : List Byte) : List Byte :=
  if i + v.length ≤ bs.length then bs.take i ++ v ++ bs.drop (i + v.length) else bs

/-- Destination and source address as numbers, first byte highest. -/
def macDst (bs : List Byte) : Nat := beNat (bs.take 6)
def macSrc (bs : List Byte) : Nat := beNat (sub bs 6 6)

/-- The FCS of a frame: CRC-32, sent low byte first. -/
def fcsOf (bs : List Byte) : List Byte := leBytes 4 (crc32 bs)

/-- A forced bad FCS: the CRC inverted (R231). -/
def badFcsOf (bs : List Byte) : List Byte := leBytes 4 (crc32 bs ^^^ 0xFFFFFFFF)

/-- Is the EtherType that of a VLAN tag? -/
def isVlanType (t : Nat) : Bool := t == 0x8100 || t == 0x88A8

/-- Offset of the EtherType after at most `n` VLAN tags; none when a further tag follows. -/
def typeOff (bs : List Byte) (off n : Nat) : Option Nat :=
  if isVlanType (be16 bs off) then
    match n with
    | 0 => none
    | k + 1 => typeOff bs (off + 4) k
  else some off

/-- Ones' complement sum of 16-bit words, folded. -/
def sum16 (bs : List Byte) : Nat :=
  match bs with
  | [] => 0
  | [a] => a.toNat * 256
  | a :: b :: t => a.toNat * 256 + b.toNat + sum16 t

def fold16 (x : Nat) : Nat :=
  let y := x % 65536 + x / 65536
  let z := y % 65536 + y / 65536
  z % 65536 + z / 65536

/-- Internet checksum of bytes. -/
def inetSum (bs : List Byte) : Nat := 0xFFFF - fold16 (sum16 bs)

/-- Pseudo-header of a transport segment of `len` bytes. -/
def pseudo (v6 : Bool) (bs : List Byte) (l3 proto len : Nat) : List Byte :=
  if v6 then sub bs (l3 + 8) 32 ++ beBytes 4 len ++ beBytes 4 proto
  else sub bs (l3 + 12) 8 ++ beBytes 2 proto ++ beBytes 2 len

/-- The transport header after IPv6 extension headers Hop-by-Hop, Routing and Destination Options of at most 128 bytes in
total: next header and offset (R220). -/
def v6Next (bs : List Byte) (nh off total fuel : Nat) : Option (Nat × Nat) :=
  if nh = 0 ∨ nh = 43 ∨ nh = 60 then
    let l := 8 * (byteAt bs (off + 1) + 1)
    match fuel with
    | 0 => none
    | f + 1 => if total + l > 128 then none else v6Next bs (byteAt bs off) (off + l) (total + l) f
  else some (nh, off)

/-- What the receive check finds: IP version, offset of IP header, transport protocol, offset of transport header, transport
length; `hdr` is the IPv4 header result; `fits`, whether the lengths it names lie in the frame. -/
structure IpInfo where
  v6 : Bool
  l3 : Nat
  proto : Nat
  l4 : Nat
  len : Nat
  hdr : Nat
  fits : Bool
deriving DecidableEq, Repr

/-- IP and transport of a frame; none when it is not IP, a fragment, or of a form that is not checked (R220). -/
def ipInfo (bs : List Byte) : Option IpInfo :=
  match typeOff bs 12 2 with
  | none => none
  | some t =>
    let l3 := t + 2
    if be16 bs t = 0x0800 ∧ byteAt bs l3 / 16 = 4 then
      let hl := 4 * (byteAt bs l3 % 16)
      let total := be16 bs (l3 + 2)
      let fits := decide (20 ≤ hl) && decide (hl ≤ total) && decide (l3 + total ≤ bs.length)
      if be16 bs (l3 + 6) % 16384 ≠ 0 then none
      else some ⟨false, l3, byteAt bs (l3 + 9), l3 + hl, total - hl,
        if 20 ≤ hl ∧ l3 + hl ≤ bs.length ∧ fold16 (sum16 (sub bs l3 hl)) = 0xFFFF then 1 else 2, fits⟩
    else if be16 bs t = 0x86DD ∧ byteAt bs l3 / 16 = 6 then
      match v6Next bs (byteAt bs (l3 + 6)) (l3 + 40) 0 16 with
      | none => none
      | some (nh, off) =>
        let endp := l3 + 40 + be16 bs (l3 + 4)
        some ⟨true, l3, nh, off, endp - off, 0, decide (endp ≤ bs.length) && decide (off ≤ endp)⟩
    else none

/-- RXST (R220): [1:0] IPv4 header, [3:2] transport. DEDUCED (log 34): an IPv4 header whose IHL is below 5 or passes the frame is bad, and so is
a TCP or UDP segment that the lengths of the IP header do not place in the frame. -/
def rxst (bs : List Byte) : Nat :=
  match ipInfo bs with
  | none => 0
  | some x =>
    let l4 :=
      if x.proto = 6 ∨ x.proto = 17 then
        if x.proto = 17 ∧ !x.v6 ∧ x.l4 + 8 ≤ bs.length ∧ be16 bs (x.l4 + 6) = 0 then 0
        else if !x.fits then 2
        else if fold16 (sum16 (pseudo x.v6 bs x.l3 x.proto x.len) + sum16 (sub bs x.l4 x.len)) = 0xFFFF then 1 else 2
      else 0
    x.hdr + 4 * l4

/-! ## Transmit record (Table 7.5) -/

/-- The transmit record. -/
structure TxRec where
  mss : Nat
  v6 : Bool
  udp : Bool
  l3 : Nat
  l4 : Nat
  hdr : Nat
  seg : Bool
  csum : Bool
  tsreq : Bool
  tag : Nat
deriving DecidableEq, Repr

def TxRec.ofBytes (b : List Byte) : TxRec :=
  let w := leNat (b.take 2)
  let f := byteAt b 5
  ⟨w % 2 ^ 14, bitOf w 14, bitOf w 15, byteAt b 2, byteAt b 3, byteAt b 4, bitOf f 0, bitOf f 1, bitOf f 2,
    leNat (sub b 6 2)⟩

/-- Must the send be refused (Table 7.6)? -/
def TxRec.refused (r : TxRec) (bs : List Byte) (maxfrm : Nat) : Bool :=
  if !r.seg && !r.csum then false
  else
    let proto := if r.udp then 17 else 6
    !(r.l3 == 14 || r.l3 == 18 || r.l3 == 22)
    || byteAt bs r.l3 / 16 != (if r.v6 then 6 else 4)
    || (if r.v6 then decide (r.l4 < r.l3 + 40)
        else r.l4 != r.l3 + 4 * (byteAt bs r.l3 % 16) || byteAt bs (r.l3 + 9) != proto
          || be16 bs (r.l3 + 6) % 16384 != 0)
    || (if r.udp then r.hdr != r.l4 + 8
        else r.hdr != r.l4 + 4 * (byteAt bs (r.l4 + 12) / 16) || bitOf (byteAt bs (r.l4 + 13)) 5)
    || decide (r.hdr > 192) || (r.seg && decide (bs.length ≤ r.hdr)) || decide (bs.length > 65536)
    || (r.seg && decide (r.hdr + r.mss + 4 > maxfrm))

/-- IPv4 header checksum recomputed. -/
def fixIpSum (r : TxRec) (bs : List Byte) : List Byte :=
  if r.v6 then bs
  else
    let z := patch bs (r.l3 + 10) (beBytes 2 0)
    patch z (r.l3 + 10) (beBytes 2 (inetSum (sub z r.l3 (r.l4 - r.l3))))

/-- Transport checksum recomputed; a UDP checksum over IPv4 that was sent as 0 stays 0, over IPv6 a computed 0 is 0xFFFF. -/
def fixL4Sum (r : TxRec) (sent : Nat) (bs : List Byte) : List Byte :=
  let at_ := r.l4 + (if r.udp then 6 else 16)
  let len := bs.length - r.l4
  if r.udp && !r.v6 && sent == 0 then patch bs at_ (beBytes 2 0)
  else
    let z := patch bs at_ (beBytes 2 0)
    let c := 0xFFFF - fold16 (sum16 (pseudo r.v6 z r.l3 (if r.udp then 17 else 6) len) + sum16 (z.drop r.l4))
    patch z at_ (beBytes 2 (if c = 0 && r.udp && r.v6 then 0xFFFF else c))

/-- Segments of a large send (R215). -/
def TxRec.segments (r : TxRec) (bs : List Byte) : Nat :=
  if r.seg then (bs.length - r.hdr + r.mss - 1) / max r.mss 1 else 1

/-- The bytes of segment `k` without FCS (R215, R216, Table 7.7). -/
def TxRec.segment (r : TxRec) (bs : List Byte) (k : Nat) : List Byte :=
  let sent := be16 bs (r.l4 + (if r.udp then 6 else 16))
  if !r.seg && !r.csum then bs
  else if !r.seg then fixL4Sum r sent (fixIpSum r bs)
  else
    let n := r.segments bs
    let pay := sub bs (r.hdr + k * r.mss) r.mss
    let h := bs.take r.hdr
    let l := pay.length
    let h :=
      if r.v6 then patch h (r.l3 + 4) (beBytes 2 (r.hdr - r.l3 - 40 + l))
      else patch (patch h (r.l3 + 2) (beBytes 2 (r.l4 - r.l3 + (r.hdr - r.l4) + l)))
        (r.l3 + 4) (beBytes 2 (be16 bs (r.l3 + 4) + k))
    let h :=
      if r.udp then patch h (r.l4 + 4) (beBytes 2 (8 + l))
      else
        let f := byteAt bs (r.l4 + 13)
        let f := if k + 1 = n then f else setBits (setBits f 0 1 0) 3 1 0
        let f := if k = 0 then f else setBits f 7 1 0
        patch (patch h (r.l4 + 4) (beBytes 4 (beNat (sub bs (r.l4 + 4) 4) + k * r.mss))) (r.l4 + 13) [BitVec.ofNat 8 f]
    fixL4Sum r sent (fixIpSum r (h ++ pay))

/-! ## IEEE 1588 event messages (R274) -/

/-- Offset of the message and of the UDP header that carries it. -/
def ptpAt (bs : List Byte) : Option (Nat × Option Nat) :=
  let ok (m : Nat) : Bool := byteAt bs (m + 1) % 16 == 2 && decide (byteAt bs m % 16 ≤ 3) && decide (m + 34 ≤ bs.length)
  match typeOff bs 12 2 with
  | none => none
  | some t =>
    if be16 bs t = 0x88F7 then (if ok (t + 2) then some (t + 2, none) else none)
    else
      match ipInfo bs with
      | some x => if x.fits ∧ x.proto = 17 ∧ be16 bs (x.l4 + 2) = 319 ∧ ok (x.l4 + 8) then some (x.l4 + 8, some x.l4) else none
      | none => none

/-- Message type, two-step flag. -/
def ptpType (bs : List Byte) (m : Nat) : Nat := byteAt bs m % 16
def ptpTwoStep (bs : List Byte) (m : Nat) : Bool := bitOf (byteAt bs (m + 6)) 1

/-- Are `n` bytes at `i` inside the insertion window, bytes 0–127 (R274)? -/
def inWindow (bs : List Byte) (i n : Nat) : Bool := decide (i + n ≤ 128) && decide (i + n ≤ bs.length)

/-- Change of a UDP checksum for bytes replaced at even offsets of the datagram, all replacements (place, bytes) at once; over IPv4 a checksum
of 0 stays 0 (R278), and over IPv6 a result of 0 is sent as 0xFFFF. -/
def udpAdjust (bs : List Byte) (udp : Option Nat) (edits : List (Nat × List Byte)) : List Byte :=
  match udp with
  | none => bs
  | some u =>
    let c := be16 bs (u + 6)
    let v6 := match ipInfo bs with | some x => x.v6 | none => false
    if c = 0 ∧ !v6 then bs
    else
      let gain := edits.foldl (fun a e => a + (sum16 e.2 + e.2.length / 2 * 0xFFFF - sum16 (sub bs e.1 e.2.length))) 0
      let x := fold16 ((0xFFFF - c) + gain)
      patch bs (u + 6) (beBytes 2 (if v6 && x == 0xFFFF then 0xFFFF else 0xFFFF - x))

/-- Replaces fields of a message, the UDP checksum following. -/
def ptpPut (bs : List Byte) (udp : Option Nat) (edits : List (Nat × List Byte)) : List Byte :=
  if edits.isEmpty then bs else edits.foldl (fun b e => patch b e.1 e.2) (udpAdjust bs udp edits)

/-- What an addition to correctionField in 2⁻¹⁶ ns replaces (R277); none when the amount is out of range. -/
def ptpSum (bs : List Byte) (m : Nat) (x : Int) : Option (List (Nat × List Byte)) :=
  if x < 0 ∨ x ≥ 1000000000 * 65536 then none
  else
    let old := beNat (sub bs (m + 8) 8)
    if old = 2 ^ 63 - 1 then some []
    else
      let v := toSigned 64 old + x
      some [(m + 8, beBytes 8 (if v > 2 ^ 63 - 1 then 2 ^ 63 - 1 else ofSigned 64 v))]

/-- An addition to correctionField in 2⁻¹⁶ ns (R277); none when the amount is out of range. -/
def ptpAdd (bs : List Byte) (udp : Option Nat) (m : Nat) (x : Int) : Option (List Byte) := (ptpSum bs m x).map (ptpPut bs udp)

/-! ## VLAN, HSR, PRP -/

/-- Inserts bytes at offset 12. -/
def insertAt12 (bs x : List Byte) : List Byte := bs.take 12 ++ x ++ bs.drop 12

/-- The HSR tag of a frame whose outer VLAN tag is off: sequence number. -/
def hsrSeq (bs : List Byte) : Option Nat := if be16 bs 12 = 0x892F then some (be16 bs 16) else none

/-- Removes the HSR tag. -/
def hsrStrip (bs : List Byte) : List Byte := bs.take 12 ++ bs.drop 18

/-- The PRP trailer: sequence number. -/
def prpSeq (bs : List Byte) : Option Nat :=
  let n := bs.length
  if n ≥ 20 ∧ be16 bs (n - 2) = 0x88FB then some (be16 bs (n - 6)) else none

/-- Removes the PRP trailer. -/
def prpStrip (bs : List Byte) : List Byte := bs.take (bs.length - 6)

end Sys2Proof.Machine
end

