-- ==== Sys2Proof/Machine/Images.lean ====
section
/-! DEFINITION. Process images (chapter 11): descriptors and placement (R320, R324), writers (R321, R322), leases (R330–R332), and the
order of buffers. -/
namespace Sys2Proof.Machine

/-! ## Plate addresses (R432, R438) -/

def plateLo : Nat := 0x10000000
def plateHi : Nat := 0x11800000

/-- Do `n` bytes at `a` lie in Plate? -/
def inPlate (a n : Nat) : Bool := decide (plateLo ≤ a) && decide (a + n ≤ plateHi)

/-- Bank of a Plate or sealed-bank address (Table 16.1). -/
def bankOf (a : Nat) : Nat :=
  if a < plateHi then
    let o := a - plateLo
    4 * (o / 2 ^ 20) + o / 256 % 4
  else 96 + (a - plateHi) / 256 % 2

/-- The mirror address m(a) (R438). -/
def mirrorOf (a : Nat) : Nat := if a < 0x10C00000 then a + 0xC00000 else a - 0xC00000

/-- Do two ranges share a byte? -/
def overlaps (a n b m : Nat) : Bool := decide (a < b + m) && decide (b < a + n)

/-! ## Descriptors -/

def ImgSt.reset : ImgSt := ⟨0, 0, 0, none⟩

def State.img (s : State) (i : Nat) : ImgSt := tabGet s.imgs ImgSt.reset i
def State.setImg (s : State) (i : Nat) (x : ImgSt) : State := { s with imgs := tabPut s.imgs i x }

/-- SIZE of an image in bytes: 0 acts as 1, above 1,024 as 1,024. -/
def State.imgSize (s : State) (i : Nat) : Nat := 64 * min (max (s.f (PLT.IMGSIZE_SIZE i)) 1) 1024

def State.imgBase (s : State) (i : Nat) : Nat := 64 * s.f (PLT.IMGBASE_ADDR i)
def State.imgMBase (s : State) (i : Nat) : Nat := 64 * s.f (PLT.IMGMBASE_ADDR i)
def State.imgHdr (s : State) (i : Nat) : Nat := 64 * s.f (PLT.IMGHDR_ADDR i)

/-- Address of buffer `b`. -/
def State.imgBuf (s : State) (i b : Nat) : Nat := s.imgBase i + b * s.imgSize i

/-- Images that are enabled. -/
def State.enabledImages (s : State) : List Nat :=
  s.regs.filterMap (fun e =>
    let o := e.1 - PLT.IMGCFG 0
    if PLT.IMGCFG 0 ≤ e.1 ∧ o < 0x4000 ∧ o % 0x40 = 0 ∧ e.2.toNat % 2 = 1 then some (o / 0x40) else none)

/-- Is address `a` in a buffer of image `i`, its mirror buffers included when it is mirrored? -/
def State.inBuffers (s : State) (i a n : Nat) : Bool :=
  overlaps a n (s.imgBase i) (3 * s.imgSize i)
    || (s.on (PLT.IMGCFG_MIRROR i) && overlaps a n (s.imgMBase i) (3 * s.imgSize i))

/-- Is address `a` in a buffer or header copy of image `i`? -/
def State.inImage (s : State) (i a n : Nat) : Bool :=
  s.inBuffers i a n || overlaps a n (s.imgHdr i) 64
    || (s.on (PLT.IMGCFG_MIRROR i) && overlaps a n (mirrorOf (s.imgHdr i)) 64)

/-- The enabled mirrored image that holds the byte at `a` in a buffer or header copy. -/
def State.mirroredAt (s : State) (a : Nat) : Bool :=
  s.enabledImages.any (fun i => s.on (PLT.IMGCFG_MIRROR i) && s.inImage i a 1)

/-- Does a bank hold any byte of image `i`? -/
def State.bankHolds (s : State) (b i : Nat) : Bool :=
  let hits (a n : Nat) : Bool := (List.range ((n + 255) / 256 + 1)).any (fun k =>
    let x := min (a + 256 * k) (a + n - 1)
    bankOf x == b)
  hits (s.imgBase i) (3 * s.imgSize i) || hits (s.imgHdr i) 64
    || (s.on (PLT.IMGCFG_MIRROR i) && (hits (s.imgMBase i) (3 * s.imgSize i) || hits (mirrorOf (s.imgHdr i)) 64))

/-- Class of a fault of Plate bank `b` (Table 17.4). -/
def State.bankClass (s : State) (b : Nat) : Nat :=
  let l := s.enabledImages.filter (fun i => s.bankHolds b i)
  if b ≤ 95 && !l.isEmpty && l.all (fun i => s.on (PLT.IMGCFG_MIRROR i)) then 0 else 2

/-- May image `i` be enabled with configuration word `cfg` (R320, R321, R324, R438)? -/
def State.placementOk (s : State) (i cfg : Nat) : Bool :=
  let sz := 3 * s.imgSize i
  let b := s.imgBase i
  let h := s.imgHdr i
  let m := s.imgMBase i
  let mir := bitOf cfg 1
  decide (bitsOf cfg 13 3 ≤ 3) && inPlate b sz && inPlate h 64 && !overlaps h 64 b sz
    && (!mir || (m == mirrorOf b && inPlate m sz && !overlaps h 64 m sz
        && !overlaps (mirrorOf h) 64 b sz && !overlaps (mirrorOf h) 64 m sz))

/-! ## Writers (Table 11.1) -/

/-- Request of the Ruling instance `n`; instances have no master identity, 0xA8 + n marks them here. -/
def rqTT (n : Nat) : Rq := ⟨BitVec.ofNat 8 (0xA8 + n), none, none, 0, false, false⟩

/-- Request of another hardware unit without a master identity. -/
def rqHw : Rq := ⟨0xFE, none, none, 0, false, false⟩

/-- Is `rq` the writer of image `i` (R321)? -/
def State.isWriter (s : State) (i : Nat) (rq : Rq) : Bool :=
  let k := s.f (PLT.IMGCFG_WKEY i)
  let id := rq.id.toNat
  match s.f (PLT.IMGCFG_WRK i) with
  | 0 => decide (0x10 ≤ id) && decide (id ≤ 0x27) && rq.key == some (BitVec.ofNat 8 k)
  | 1 => id == 0xA8 + k % 4
  | 2 => id == 0x40
  | 3 => id == k && (id == 0x08 || (decide (0x30 ≤ id) && decide (id ≤ 0x3F)))
  | _ => false

/-- The write buffer of image `i`. -/
def State.imgW (s : State) (i : Nat) : Nat := s.f (PLT.IMGSTAT_WBUF i)

/-- Does a write of `n` bytes at `a` lie wholly in the write buffer of image `i`, or in its mirror copy? -/
def State.inW (s : State) (i a n : Nat) : Bool :=
  let o := s.imgW i * s.imgSize i
  let within (b : Nat) : Bool := decide (b + o ≤ a) && decide (a + n ≤ b + o + s.imgSize i)
  within (s.imgBase i) || (s.on (PLT.IMGCFG_MIRROR i) && within (s.imgMBase i))

/-! ## Leases (R330–R332) -/

/-- Holder of a request's leases and rotation: its replay key, else 0x100 + identity. -/
def holderOf (rq : Rq) : Nat := match rq.key with | some k => k.toNat | none => 0x100 + rq.id.toNat

/-- LEASESTAT.USED and IMGLCNT follow the lease table. -/
def State.refreshLeases (s : State) (i : Nat) : State :=
  let n (b : Nat) : Nat := min 0xFF (s.leases.filter (fun l => l.img == i && l.buf == b)).length
  s.setFs [(PLT.LEASESTAT_USED, s.leases.length), (PLT.IMGLCNT_B0 i, n 0), (PLT.IMGLCNT_B1 i, n 1), (PLT.IMGLCNT_B2 i, n 2)]

/-- Drops the leases that satisfy `p`. -/
def State.dropLeases (s : State) (p : Lease → Bool) : State :=
  let gone := s.leases.filter p
  gone.foldl (fun s l => s.refreshLeases l.img) { s with leases := s.leases.filter (fun l => !p l) }

/-- Releases every lease of a holder (R332). -/
def State.releaseHolder (s : State) (h : Nat) : State := s.dropLeases (fun l => l.holder == h)

/-- A reset of a master identity releases the leases taken by its requests, whatever key they carried (R332). -/
def State.releaseIdentity (s : State) (id : Nat) : State := s.dropLeases (fun l => l.who == id)

/-- Entries of the 512-entry lease table open to masters: 8 are reserved (R331). -/
def leaseRoom : Nat := 504

/-- A read of LEASE (R330): the word and the state. -/
def State.leaseTake (s : State) (rq : Rq) (i : Nat) : Nat × State :=
  let h := holderOf rq
  if !s.on (PLT.IMGCFG_EN i) || (s.img i).gen == 0 then (8, s)
  else
    let s1 := s.dropLeases (fun l => l.img == i && l.holder == h)
    if s1.leases.length ≥ leaseRoom then (16, s1.bump PLT.LEASESTAT_FULLCNT)
    else
      let p := s.f (PLT.IMGSTAT_PBUF i)
      (p + 4 + (s.img i).gen % 2 ^ 16 * 2 ^ 16,
        State.refreshLeases { s1 with leases := s1.leases ++ [⟨i, h, p, rq.id.toNat⟩] } i)

/-- A write of LEASE (R330). -/
def State.leaseRelease (s : State) (rq : Rq) (i : Nat) : State :=
  s.dropLeases (fun l => l.img == i && l.holder == holderOf rq)

/-- Is buffer `b` of image `i` leased? -/
def State.leased (s : State) (i b : Nat) : Bool := s.leases.any (fun l => l.img == i && l.buf == b)

/-! ## Enable and disable (R324) -/

/-- A write of IMGCFG: response code and state. -/
def State.imgCfgWrite (s : State) (i v : Nat) : Nat × State :=
  if s.on (PLT.IMGCFG_EN i) then
    if bitOf v 0 then (2, s)
    else (0, (s.setF (PLT.IMGCFG_EN i) 0).dropLeases (fun l => l.img == i))
  else if bitOf v 0 then
    if s.placementOk i v then
      let s := (s.wrReg (PLT.IMGCFG i) v).dropLeases (fun l => l.img == i)
      let s := s.setImg i { ImgSt.reset with told := (s.img i).told }
      let s : State := { s with lpDone := s.lpDone.filter (fun k => k / 512 != i) }
      (0, s.setFs [(PLT.IMGSTAT_PBUF i, 0), (PLT.IMGSTAT_WBUF i, 1), (PLT.IMGSTAT_READY i, 0), (PLT.IMGSTAT_FILL i, 0),
        (PLT.IMGSTAT_GEN i, 0)])
    else (2, s)
  else (0, s.wrReg (PLT.IMGCFG i) v)

/-- Does mark `m` of instance `n` fire in its cycles (R318)? -/
def State.markActive (s : State) (n m : Nat) : Bool := s.ttMarks n && s.on (RUL.MARK_EN n m) && decide (s.markOffset n m < s.ttCycle n)

/-- The cycle number of the cycle in which the next publication mark of image `i` fires (R325); none: no mark of it fires (R318). -/
def State.nextMarkCycle (s : State) (i : Nat) : Option Nat :=
  let n := s.f (PLT.IMGCFG_TT i)
  let m := s.f (PLT.IMGCFG_MARK i)
  if !s.markActive n m then none
  else if s.ttOffset n s.now < s.markOffset n m then some (s.ttNumber n s.now)
  else some ((s.ttNumber n s.now + 1) % 2 ^ 32)

end Sys2Proof.Machine
end

