-- ==== Sys2Proof/Machine/Plate.lean ====
section
/-! DEFINITION. Plate memory (chapter 16) and accesses to it: ECC and retirement (R433–R437), image rules (R322, R323), publication
(R325–R329), the rotate alias (R439, R440), the sealed bank (R441–R444), clearing (R445), life-cycle (R446–R448). -/
namespace Sys2Proof.Machine

/-! ## ECC (R434, R436) -/

/-- Retirement of a bank (R436). -/
def State.retire (s : State) (b : Nat) : State :=
  if s.f (PLT.BANKSTAT_STATE b) = 0 then
    (s.setF (PLT.BANKSTAT_STATE b) 1).fault { unit := 0x100 + b, code := 2, cls := s.bankClass b }
  else s

/-- An uncorrectable error met at address `a`; `src` is the requester, 0 for the scrub (R434, R435). -/
def State.plateUE (s : State) (a : Nat) (src : Option Nat) : State :=
  let b := bankOf a
  let r := s.free
  let s := r.2
  let syn := r.1.toNat % 256
  let (id, s) := match src with
    | some i => (i, s)
    | none => let q := s.free; (q.1.toNat % 256, q.2)
  let s := (s.bump (PLT.BANKSTAT_UE b)).bump (PLT.BANKSTAT_UETOT b)
  let s := s.setFs [(PLT.ERRADDR_ADDR, a), (PLT.ERRINFO_BANK, b), (PLT.ERRINFO_SYN, syn), (PLT.ERRINFO_SRC, id)]
  (s.countG 38).fault { unit := 0x100 + b, code := 1, cls := s.bankClass b, addr := a, ident := id }

/-- After the response of an access that found `old`: a bank of its addresses whose UETOT has reached UETHR in it is retired (R436). -/
def State.retireDue (s old : State) (as : List Nat) : State :=
  as.foldl (fun s a =>
    let b := bankOf a
    if b ≤ 95 ∧ old.f (PLT.BANKSTAT_UETOT b) < s.f (PLT.BANKSTAT_UETOT b) ∧ max (s.f PLT.CFG_UETHR) 1 ≤ s.f (PLT.BANKSTAT_UETOT b) then s.retire b
    else s) s

/-- A correctable error met at the word of `a`: corrected, written back, counted. -/
def State.plateCE (s : State) (a : Nat) : State :=
  ((s.bump (PLT.BANKSTAT_CE (bankOf a))).countG 37).eccDrop (a / 8 * 8) 8 1

/-- Identity reported for a requester: units without a master identity report an open value. -/
def srcOf (rq : Rq) : Option Nat := if idListed rq.id.toNat then some rq.id.toNat else none

/-- Is the bank of `a` out of use: retired, or under test? -/
def State.bankGone (s : State) (a : Nat) : Bool := s.f (PLT.BANKSTAT_STATE (bankOf a)) != 0

/-- Reads the part of one 64-bit word in its own bank (R434): is it good, its bytes, the state. -/
def State.cellRead (s : State) (rq : Rq) (a n : Nat) : Bool × List Byte × State :=
  let s := if s.eccIn a n 1 then s.plateCE a else s
  if s.eccIn a n 2 then (false, s.bytes a n, s.plateUE a (srcOf rq)) else (true, s.bytes a n, s)

/-- Reads the part of one 64-bit word: code, whether the mirror served it, bytes, state. The mirror copy serves a mirrored word whose bank is out of
use (R436), or that is uncorrectable (R323); another read of a bank out of use is performed and answered ECC. -/
def State.wordRead (s : State) (rq : Rq) (a n : Nat) : Nat × Bool × List Byte × State :=
  let other := mirrorOf a
  let spare := s.mirroredAt a && !s.bankGone other
  let r := if spare && s.bankGone a then (false, s.bytes a n, s) else s.cellRead rq a n
  if !r.1 && spare then
    let q := r.2.2.cellRead rq other n
    if q.1 then (0, true, q.2.1, q.2.2) else (4, false, r.2.1, q.2.2)
  else (if r.1 && !s.bankGone a then 0 else 4, false, r.2.1, r.2.2)

/-- Splits `n` bytes at `a` at blocks of `m` bytes. -/
def chunks (m a n fuel : Nat) : List (Nat × Nat) :=
  match fuel with
  | 0 => []
  | f + 1 =>
    if n = 0 then []
    else
      let k := min n (m - a % m)
      (a, k) :: chunks m (a + k) (n - k) f

/-- Splits `n` bytes at `a` at 64-bit words. -/
def wordParts (a n : Nat) : List (Nat × Nat) := chunks 8 a n (n + 1)

/-- Reads `n` bytes of Plate or of the sealed bank: the code of the whole and the bytes (R43, R433). An access served from a
mirror counts MIRHIT once in its image (R323). -/
def State.plateRead (s : State) (rq : Rq) (a n : Nat) : Nat × List Byte × State :=
  let r := (wordParts a n).foldl (fun (r : Nat × Bool × List Byte × State) p =>
    let q := r.2.2.2.wordRead rq p.1 p.2
    (if r.1 = 0 then q.1 else r.1, r.2.1 || q.2.1, r.2.2.1 ++ q.2.2.1, q.2.2.2)) (0, false, [], s)
  let t := r.2.2.2.retireDue s ((wordParts a n).flatMap (fun p => [p.1, mirrorOf p.1]))
  (r.1, r.2.2.1, if r.2.1 then
      t.enabledImages.foldl (fun s i => if s.on (PLT.IMGCFG_MIRROR i) && s.inImage i a n then s.bump (PLT.IMGCNT_MIRHIT i) else s) t
    else t)

/-- Can the part of one 64-bit word be written? A partial write is a read-modify-write (R433). -/
def State.wordCheck (s : State) (rq : Rq) (a n : Nat) : Bool × State :=
  if s.bankGone a then (false, s)
  else
    let s := if n < 8 && s.eccIn a n 1 then s.plateCE a else s
    if n < 8 && s.eccIn a n 2 then (false, s.plateUE a (srcOf rq)) else (true, s)

/-- Is the byte at `a` in a buffer of an enabled mirrored image? -/
def State.bufferMirrored (s : State) (a : Nat) : Bool :=
  s.enabledImages.any (fun i => s.on (PLT.IMGCFG_MIRROR i) && s.inBuffers i a 1)

/-- Places that a write of the word at `a` goes to: both copies of a mirrored buffer, and of a header that the image unit writes (R323, R327);
another write of a header whose bank is out of use goes to the copy that exists (R436). -/
def State.placesOf (s : State) (rq : Rq) (a : Nat) : List Nat :=
  if a < plateHi && s.mirroredAt a && inPlate (mirrorOf a) 1 then
    if s.bufferMirrored a || rq.id == 0xFE then [a, mirrorOf a] else if s.bankGone a then [mirrorOf a] else [a]
  else [a]

/-- The places of a word that can be written. -/
def State.placesGood (s : State) (rq : Rq) (a n : Nat) : List Nat × State :=
  (s.placesOf rq a).foldl (fun (r : List Nat × State) x =>
    let q := r.2.wordCheck rq x n
    (if q.1 then r.1 ++ [x] else r.1, q.2)) ([], s)

/-- Writes Plate or the sealed bank without an image check: every word must be written in one place at least, or the write is refused as a whole and
leaves Plate unchanged (R43, R323, R433, R436). -/
def State.rawWrite (s : State) (rq : Rq) (a : Nat) (bs : List Byte) : Nat × State :=
  let ps := wordParts a bs.length
  let r := ps.foldl (fun (r : List (Nat × Nat × List Nat) × State) p =>
    let q := r.2.placesGood rq p.1 p.2
    (r.1 ++ [(p.1, p.2, q.1)], q.2)) ([], s)
  let t := r.2.retireDue s (ps.flatMap (fun p => s.placesOf rq p.1))
  if r.1.all (fun e => !e.2.2.isEmpty) then
    (0, r.1.foldl (fun (s : State) e => e.2.2.foldl (fun (s : State) x => s.putMem x ((bs.drop (e.1 - a)).take e.2.1)) s) t)
  else (4, t)

/-! ## Initial fill and publication -/

/-- The fill of the new write buffer is complete (R328). -/
def State.fillDone (s : State) (i : Nat) : State :=
  if s.on (PLT.IMGSTAT_FILL i) then
    let n := s.imgSize i
    let w := s.imgBuf i (s.imgW i)
    let p := s.imgBuf i (s.f (PLT.IMGSTAT_PBUF i))
    let s := s.setF (PLT.IMGSTAT_FILL i) 0
    if s.f (PLT.IMGCFG_INIT i) = 1 then
      let r := s.plateRead rqHw p n
      (r.2.2.rawWrite rqHw w r.2.1).2
    else if s.f (PLT.IMGCFG_INIT i) = 2 then (s.rawWrite rqHw w (List.replicate n 0)).2
    else s
  else s

/-- The region of an image is up: it publishes and counts (R329). -/
def State.imgRegionUp (s : State) (i : Nat) : Bool := s.f (SYS.RGCTL_STATE (s.f (PLT.IMGCFG_REGION i))) == 0

/-- A late write of the writer of image `i` is counted (R322, R325), but not while its region is off or in reset (R329). -/
def State.lateWr (s : State) (i : Nat) : State := if s.imgRegionUp i then (s.bump (PLT.IMGCNT_LATEWR i)).countG 36 else s

/-- A Plate write by a master or unit (R322, R323): PERM where an image refuses it. A writer's write that meets the fill waits
for it. -/
def State.plateWrite (s : State) (rq : Rq) (a : Nat) (bs : List Byte) : Nat × State :=
  let hit := s.enabledImages.filter (fun i => s.inBuffers i a bs.length)
  match hit with
  | [] => s.rawWrite rq a bs
  | _ =>
    if hit.all (fun i => s.isWriter i rq && s.inW i a bs.length) then
      (hit.foldl (fun s i => s.fillDone i) s).rawWrite rq a bs
    else
      (2, hit.foldl (fun s i =>
        if s.isWriter i rq && !s.inW i a bs.length then s.lateWr i else s) s)

/-- Staging of the write windows of Ruling instances that are sourced from image `i` (R301, R302). -/
def State.stageWindows (s : State) (i : Nat) : State :=
  s.regs.foldl (fun t e =>
    let o := e.1 - RUL.WINA 0 0
    if RUL.WINA 0 0 ≤ e.1 ∧ o < 0x4000 ∧ o % 0x10 = 0 ∧ e.2.toNat % 2 = 1 then
      let n := o / 0x1000
      let w := o % 0x1000 / 0x10
      let ours := !s.on (RUL.WINC_OV n w) || (s.f (PLT.IMGCFG_WRK i) == 0 && s.f (PLT.IMGCFG_WKEY i) == s.f (RUL.WINC_OWNKEY n w))
      if s.f (RUL.WINB_IMG n w) = i ∧ s.on (RUL.WINA_DIR n w) ∧ ours then
        let a := s.imgBuf i (s.f (PLT.IMGSTAT_PBUF i)) + s.f (RUL.WINB_IMGOFF n w)
        let r := t.plateRead (rqTT n) a (s.f (RUL.WINA_LEN n w))
        { r.2.2 with winStage := tabPut r.2.2.winStage (n * 256 + w) r.2.1 }
      else t
    else t) s

/-- The header of a publication (Table 11.3). -/
def State.imgHeader (s : State) (i cyc fval ns sec : Nat) : List Byte :=
  leBytes 4 ((s.img i).gen % 2 ^ 32) ++ leBytes 4 (s.f (PLT.IMGSTAT_PBUF i)) ++ leBytes 4 cyc ++ leBytes 4 fval
    ++ leBytes 4 ns ++ leBytes 4 (sec % 2 ^ 32) ++ leBytes 4 (s.imgBuf i (s.f (PLT.IMGSTAT_PBUF i)))
    ++ leBytes 4 ((s.img i).overruns % 2 ^ 32) ++ List.replicate 32 0

/-- Frames delivered in the current cycle of the publishing instance (Table 11.3, offset 0x0C). -/
def State.deliveredBits (s : State) (n : Nat) : Nat :=
  (List.range 8).foldl (fun x k => x + b2n (tabGet s.rulDone 0 (n * 8 + k) == 2) * 2 ^ k) 0

/-- Publication of image `i` with READY = 1 (Table 11.2); `mark` tells a publication at a mark. -/
def State.publish (s : State) (i : Nat) (mark : Bool) : State :=
  if !s.imgRegionUp i then s
  else
    let s := s.fillDone i
    let p := s.f (PLT.IMGSTAT_PBUF i)
    let w := s.imgW i
    let spare := 3 - p - w
    let x := s.img i
    let s := if mark then s.sample 5 i (s.now - x.readyAt) else s
    let next : Option Nat := if !s.leased i spare then some spare else if !s.leased i p then some p else none
    match next with
    | none => ((s.setF (PLT.IMGSTAT_READY i) 0).bump (PLT.IMGCNT_SKIP i)).countG 35
    | some nw =>
      let s := s.setImg i { x with gen := (x.gen + 1) % 2 ^ 32 }
      let s : State := { s with lpDone := s.lpDone.filter (fun k => k / 512 != i) }
      let s := s.setFs [(PLT.IMGSTAT_PBUF i, w), (PLT.IMGSTAT_WBUF i, nw), (PLT.IMGSTAT_READY i, 0),
        (PLT.IMGSTAT_GEN i, (x.gen + 1) % 2 ^ 16)]
      let n := s.f (PLT.IMGCFG_TT i)
      let cyc := if s.on (PLT.IMGCFG_PUB i) then 0 else s.ttNumber n s.now
      let fv := if s.f (PLT.IMGCFG_WRK i) = 1 then s.deliveredBits (s.f (PLT.IMGCFG_WKEY i) % 4) else 0
      let s := (s.rawWrite rqHw (s.imgHdr i) (s.imgHeader i cyc fv s.nowNs s.nowSec)).2
      let s := s.stageWindows i
      if s.f (PLT.IMGCFG_INIT i) = 1 ∨ s.f (PLT.IMGCFG_INIT i) = 2 then s.setF (PLT.IMGSTAT_FILL i) 1 else s

/-- READY becomes 1; with PUB = 1 the image is published at that edge (R326). -/
def State.setReady (s : State) (i : Nat) : State :=
  let s := (s.setF (PLT.IMGSTAT_READY i) 1).setImg i { s.img i with readyAt := s.now }
  if s.on (PLT.IMGCFG_PUB i) then s.publish i false else s

/-- Payload of IMAGE_OVERRUN (R336): the image number in slot bytes 16–17, the count in 20–23; the spec says nothing of bytes 18–19, free
values. -/
def overrunBytes (i n : Nat) : List Byte :=
  let free := Config.payload 0x8780 [i, n]
  leBytes 2 i ++ [free.getD 2 0, free.getD 3 0] ++ leBytes 4 n

/-- The publication mark of image `i` (Table 11.2, R336). -/
def State.imageMark (s : State) (i : Nat) : State :=
  if !s.imgRegionUp i then s
  else if s.on (PLT.IMGSTAT_READY i) then s.publish i true
  else
    let x := s.img i
    let s := (((s.bump (PLT.IMGCNT_OVERRUN i)).countG 34).kevt 9).sample 5 i 0
    let n := x.overruns + 1
    let tell := match x.told with | none => true | some t => decide (t + 10000000 ≤ s.now)
    let s := s.setImg i { x with overruns := n, told := if tell then some s.now else x.told }
    if tell then s.postBytes 0x8780 (overrunBytes i n) else s

/-- A write of IMGCTL (R325, R337): response code and state. -/
def State.imgCtlWrite (s : State) (rq : Rq) (i v : Nat) : Nat × State :=
  let wrk := s.f (PLT.IMGCFG_WRK i)
  if !isKbDbg rq.id.toNat && !s.isWriter i rq then (2, s)
  else if !bitOf v 0 || !s.on (PLT.IMGCFG_EN i) || (wrk != 0 && wrk != 3) then (0, s)
  else if s.on (PLT.IMGCFG_PUB i) || (match s.nextMarkCycle i with | some c => v / 2 ^ 16 % 2 ^ 16 == c % 2 ^ 16 | none => false) then
    (0, if s.on (PLT.IMGSTAT_READY i) then s else s.setReady i)
  else (0, s.lateWr i)

/-! ## The rotate alias and the sealed bank -/

/-- The queue of bank `b` (Table 1.11): 0x40 + b, those of the sealed banks 0xAC and 0xAD. -/
def bankQueue (b : Nat) : Nat := if b < 96 then 0x40 + b else 0xAC + (b - 96)

/-- The pieces of an access, each in one bank (Table 16.1). -/
def bankParts (a n : Nat) : List (Nat × Nat) := chunks 256 a n (n / 256 + 2)

/-- An access of `n` bytes passes the queue of every bank it touches, one 256-byte piece after the other (R31, R421). -/
def State.lendBanks (s : State) (a n : Nat) (write : Bool) (bulk : Bool := false) : State :=
  (bankParts a n).foldl (fun (s : State) p => s.lendQ (bankQueue (bankOf p.1)) 0 p.2 write bulk) s

/-- Have the queues of the banks credits for it? Requests to a bank without them wait; other banks go on (R34). -/
def State.banksFree (s : State) (a n : Nat) (write : Bool) (bulk : Bool := false) : Bool :=
  (bankParts a n).all (fun p => s.mayIssue (bankQueue (bankOf p.1)) 0 p.2 write bulk)

/-- A Plate access of a master (R433): code, bytes, state. -/
def State.plateAccess (s : State) (rq : Rq) (write : Bool) (a n : Nat) (data : List Byte) (bulk : Bool := false) : Nat × List Byte × State :=
  let n := if write then data.length else n
  if !inPlate a n then (1, List.replicate n 0, s)
  else
    let s := s.lendBanks a n write bulk
    if write then
      let r := s.plateWrite rq a data
      (r.1, [], r.2)
    else s.plateRead rq a n

/-- Plate address of an alias address for a slot (R439). -/
def State.aliasAt (s : State) (h a : Nat) : Nat := plateLo + (a - 0x12000000) + tabGet s.rot 0 h

/-- Does an address lie in the rotate alias? -/
def isAlias (a : Nat) : Bool := decide (0x12000000 ≤ a) && decide (a < 0x13800000)

/-- An access through the alias (R439): one Plate access, or one for each 32-byte block it touches (R440); the first code other than OK answers it. -/
def State.aliasAccess (s : State) (rq : Rq) (write : Bool) (a n : Nat) (data : List Byte) (bulk : Bool := false) : Nat × List Byte × State :=
  let n := if write then data.length else n
  let b := s.aliasAt (holderOf rq) a
  if !(decide (0x12000000 ≤ a) && decide (a + n ≤ 0x13800000) && inPlate b n) then (1, List.replicate n 0, s)
  else if b % 32 + n ≤ 32 then s.plateAccess rq write b n data bulk
  else
    (chunks 32 b n (n + 1)).foldl (fun (r : Nat × List Byte × State) p =>
      let q := r.2.2.plateAccess rq write p.1 p.2 ((data.drop (p.1 - b)).take p.2) bulk
      (if r.1 = 0 then q.1 else r.1, r.2.1 ++ q.2.1, q.2.2)) (0, [], s)

/-- Table 16.2. -/
def State.sealedOk (s : State) (rq : Rq) : Bool :=
  rq.id.toNat == idKeyblock && rq.sec && decide (s.f PLT.LCSTAT_STATE ≤ 2) && !s.on PLT.SBSTAT_WIPING

def State.sealedAccess (s : State) (rq : Rq) (write : Bool) (a n : Nat) (data : List Byte) (bulk : Bool := false) : Nat × List Byte × State :=
  let n := if write then data.length else n
  if !(decide (plateHi ≤ a) && decide (a + n ≤ 0x11880000)) then (1, List.replicate n 0, s)
  else
    let s := s.lendBanks a n write bulk
    if !s.sealedOk rq then (2, List.replicate n 0, s)
    else if write then
      let r := s.rawWrite rq a data
      (r.1, [], r.2)
    else s.plateRead rq a n

/-- Have the queues of the banks behind an access credits for it: of Plate, through the alias or not, and of the sealed bank? -/
def State.banksOpen (s : State) (rq : Rq) (a n : Nat) (write : Bool) (bulk : Bool := false) : Bool :=
  if decide (plateLo ≤ a) && decide (a < 0x11880000) then s.banksFree a n write bulk
  else if isAlias a then s.banksFree (s.aliasAt (holderOf rq) a) n write bulk
  else true

/-- A wipe starts, or starts again (R442, R443). -/
def State.wipe (s : State) (cause : Nat) : State :=
  let s := (s.bump PLT.SBSTAT_WIPES).setFs [(PLT.SBSTAT_WIPING, 1), (PLT.SBSTAT_CAUSE, cause)]
  (s.fault { unit := 0x160, code := 4, cls := 0, detail := cause }).kevt 13

/-- Addresses of the sealed bank. -/
def isSealed (a : Nat) : Bool := decide (plateHi ≤ a) && decide (a < 0x11880000)

/-- A bank operation (R436, R437). -/
def State.bankOp (s : State) (b op : Nat) : State :=
  if op = 0 ∨ op = 3 then s
  else if b > 95 then s.setF PLT.BANKOP_REJ 1
  else if op = 1 then s.retire b
  else if s.f (PLT.BANKSTAT_STATE b) ≠ 1 ∨ s.on PLT.BANKOP_BUSY ∨ s.enabledImages.any (fun i => s.bankHolds b i) then
    s.setF PLT.BANKOP_REJ 1
  else s.setFs [(PLT.BANKSTAT_STATE b, 2), (PLT.BANKOP_BUSY, 1)]

/-- A life-cycle request (R447): accepted? -/
def State.lcAccepts (s : State) (rq : Rq) (target confirm : Nat) : Bool :=
  let st := s.f PLT.LCSTAT_STATE
  rq.id.toNat == idKeyblock && rq.sec && rq.rom && confirm == 0x4C43 && !s.on PLT.LCSTAT_BUSY
    && ((st ≤ 2 && target == st + 1) || (st != 4 && target == 4))

def State.lcRequest (s : State) (rq : Rq) (target confirm : Nat) : Nat × State :=
  if s.lcAccepts rq target confirm then
    (0, { (s.setF PLT.LCSTAT_BUSY 1).wipe 3 with lcTarget := some target })
  else (if rq.id.toNat == idKeyblock && rq.sec then 0 else 2, s.setF PLT.LCSTAT_REJ 1)

/-- Register accesses of the PLT block below 0x3F00 and above (R337, R449). -/
def State.pltWrite (s : State) (rq : Rq) (o v : Nat) : Nat × State :=
  let a := 0x40070000 + o
  let kd := isKbDbg rq.id.toNat
  let i := (o - 0x4000) / 0x40
  if o = 0x10 then if !idListed rq.id.toNat ∨ rq.id.toNat = 9 then (2, s) else (0, { s with rot := cellPut s.rot 0 (holderOf rq) (v % 4) })
  else if o = 0x24 then
    if rq.id.toNat == idKeyblock && rq.sec then (0, if bitOf v 0 then s.wipe 4 else s) else (2, s)
  else if o = 0x34 then s.lcRequest rq (v % 8) (v / 2 ^ 16)
  else if 0x4000 ≤ o ∧ o < 0x8000 ∧ o % 0x40 = 0x1C then
    if isKbDbg rq.id.toNat || idListed rq.id.toNat then (0, s.leaseRelease rq i) else (2, s)
  else if 0x4000 ≤ o ∧ o < 0x8000 ∧ o % 0x40 = 0x14 then s.imgCtlWrite rq i v
  else if !kd then (2, s)
  else if o = 4 then (0, (s.wrReg a v).bankOp (v % 128) (bitsOf v 8 2))
  else if o = 0x3F00 then (0, if bitsOf v 9 2 = 1 then s.releaseHolder (v % 512) else s)
  else if 0x4000 ≤ o ∧ o < 0x8000 ∧ o % 0x40 = 0 then s.imgCfgWrite i v
  else if 0x4000 ≤ o ∧ o < 0x8000 ∧ o % 0x40 < 0x14 then
    if s.on (PLT.IMGCFG_EN i) then (2, s) else (0, s.wrReg a v)
  else (0, s.wrReg a v)

def State.pltRead (s : State) (rq : Rq) (o : Nat) : Nat × State :=
  if o = 0x10 then (tabGet s.rot 0 (holderOf rq), s)
  else if o = 0x20 then (setBits (s.rd PLT.SBSTAT) 2 1 (b2n (decide (s.f PLT.LCSTAT_STATE ≤ 2))), s)
  else if 0x4000 ≤ o ∧ o < 0x8000 ∧ o % 0x40 = 0x1C then s.leaseTake rq ((o - 0x4000) / 0x40)
  else s.rdReg (0x40070000 + o)

/-! ## Meanings -/

/-- IMAGE_FILL_COMPLETE (R328). -/
def execImageFillComplete (i : Fin 256) (s : State) : Out := .next (s.fillDone i)

/-- IMAGE_READY_WRITE (R325). -/
def execImageReadyWrite (rq : Rq) (i : Fin 256) (cyc : BitVec 16) (s : State) : Out :=
  let r := s.imgCtlWrite rq i (1 + cyc.toNat * 2 ^ 16)
  .next (r.2.answer r.1)

/-- IMAGE_ENABLE (R324). -/
def execImageEnable (rq : Rq) (i : Fin 256) (cfg : Word) (s : State) : Out :=
  if isKbDbg rq.id.toNat then
    let r := s.imgCfgWrite i (cfg.toNat ||| 1)
    .next (r.2.answer r.1)
  else .next (s.answer 2)

/-- IMAGE_DISABLE (R324): a write of IMGCFG with EN = 0. -/
def execImageDisable (rq : Rq) (i : Fin 256) (s : State) : Out :=
  if isKbDbg rq.id.toNat then
    let r := s.imgCfgWrite i (s.rd (PLT.IMGCFG i) / 2 * 2)
    .next (r.2.answer r.1)
  else .next (s.answer 2)

/-- IMAGE_BUFFER_WRITE (R322, R323). -/
def execImageBufferWrite (rq : Rq) (addr : Word) (data : List Byte) (s : State) : Out :=
  let r := s.plateAccess rq true addr.toNat 0 data
  .next (r.2.2.answer r.1)

/-- IMAGE_BUFFER_READ (R323). -/
def execImageBufferRead (rq : Rq) (addr : Word) (len : Nat) (s : State) : Out :=
  let r := s.plateAccess rq false addr.toNat len []
  .next (r.2.2.answer r.1 r.2.1)

/-- LEASE_TAKE (R330). -/
def execLeaseTake (rq : Rq) (i : Fin 256) (s : State) : Out :=
  let r := s.leaseTake rq i
  .next (r.2.answer 0 (leBytes 4 r.1))

/-- LEASE_RELEASE (R330). -/
def execLeaseRelease (rq : Rq) (i : Fin 256) (s : State) : Out := .next ((s.leaseRelease rq i).answer 0)

/-- IMGCTXOP_RELEASE (R332). -/
def execImgctxopRelease (rq : Rq) (holder : BitVec 9) (s : State) : Out :=
  if isKbDbg rq.id.toNat then .next ((s.releaseHolder holder.toNat).answer 0) else .next (s.answer 2)

/-- PLATE_ACCESS (R433). -/
def execPlateAccess (rq : Rq) (write : Bool) (addr : Word) (len : Nat) (data : List Byte) (s : State) : Out :=
  let r := s.plateAccess rq write addr.toNat len data
  .next (r.2.2.answer r.1 r.2.1)

/-- ROTATE_ALIAS_ACCESS (R439, R440). -/
def execRotateAliasAccess (rq : Rq) (write : Bool) (addr : Word) (len : Nat) (data : List Byte) (s : State) : Out :=
  let r := s.aliasAccess rq write addr.toNat len data
  .next (r.2.2.answer r.1 r.2.1)

/-- SCRUB (R435): a pass of the scrub over bank `b`, errors handled as in R434 with SRC 0. -/
def execScrub (b : Fin 98) (s : State) : Out :=
  if s.f PLT.CFG_SCRUB = 0 then .next s
  else
    let mine (a : Nat) : Bool := ((plateLo ≤ a && a < plateHi) || isSealed a) && bankOf a == b.val
    .next (s.ecc.foldl (fun s e =>
      if mine (e.1 * 8) then
        if e.2 = 1 then s.plateCE (e.1 * 8) else (s.plateUE (e.1 * 8) (some 0)).retireDue s [e.1 * 8]
      else s) s)

/-- BANK_RETIRE (R436). -/
def execBankRetire (rq : Rq) (b : BitVec 7) (s : State) : Out :=
  if isKbDbg rq.id.toNat then .next ((s.bankOp b.toNat 1).answer 0) else .next (s.answer 2)

/-- BANK_TEST (R437). -/
def execBankTest (rq : Rq) (b : BitVec 7) (s : State) : Out :=
  if isKbDbg rq.id.toNat then .next ((s.bankOp b.toNat 2).answer 0) else .next (s.answer 2)

/-- BANK_TEST_DONE (R437): `ok` when every read of the test returned its pattern without an ECC error. -/
def execBankTestDone (ok : Bool) (s : State) : Out :=
  match (List.range 96).find? (fun b => s.f (PLT.BANKSTAT_STATE b) == 2) with
  | none => .next s
  | some b =>
    let s := (s.clearMem (fun a => inPlate a 1 && bankOf a == b)).setF PLT.BANKOP_BUSY 0
    if ok then .next (s.setFs [(PLT.BANKSTAT_STATE b, 0), (PLT.BANKSTAT_UETOT b, 0)])
    else .next ((s.setFs [(PLT.BANKSTAT_STATE b, 1), (PLT.BANKSTAT_TSTFAIL b, 1)]).fault
      { unit := 0x100 + b, code := 3, cls := s.bankClass b })

/-- SEALED_BANK_ACCESS (R441, R443). -/
def execSealedBankAccess (rq : Rq) (write : Bool) (addr : Word) (len : Nat) (data : List Byte) (s : State) : Out :=
  let r := s.sealedAccess rq write addr.toNat len data
  .next (r.2.2.answer r.1 r.2.1)

/-- SEALED_WIPE_REQUEST (R442, R449). -/
def execSealedWipeRequest (rq : Rq) (s : State) : Out :=
  if rq.id.toNat == idKeyblock && rq.sec then .next ((s.wipe 4).answer 0) else .next (s.answer 2)

/-- The wipe is complete: the sealed bank reads 0 (R442). -/
def State.wipeDone (s : State) : State := (s.clearMem isSealed).setF PLT.SBSTAT_WIPING 0

/-- WIPE_COMPLETE (R442). -/
def execWipeComplete (s : State) : Out := if s.on PLT.SBSTAT_WIPING then .next s.wipeDone else .next s

/-- TAMPER_QUALIFIED (R444): a deviation of input `i` has lasted FLT µs. In Hold the wipe waits for the exit; in Off the tamper is
only recorded. -/
def execTamperQualified (i : Fin 2) (s : State) : Out :=
  let en := if i.val = 0 then s.on WAKE.TAMPCFG_EN0 else s.on WAKE.TAMPCFG_EN1
  if !en then .next s
  else
    let s := (s.setF (if i.val = 0 then WAKE.TAMPSTAT_HIT0 else WAKE.TAMPSTAT_HIT1) 1).bump WAKE.TAMPSTAT_CNT
    if s.powerOff then .next s
    else
      let s := (s.setF PLT.SBSTAT_TAMPER 1).fault { unit := 0xB7, code := 1 + i.val, cls := 0 }
      if s.f SYS.PWRSTAT_STATE = 4 then .next { s.kevt 13 with holdWipe := true }
      else .next (s.wipe (1 + i.val))

/-- The memories of Table 16.3: every memory of the core die. -/
def State.clearCoreMem (s : State) : State := { s with mem := [], ecc := [] }

/-- MEMORY_CLEAR (R445). -/
def execMemoryClear (s : State) : Out :=
  .next ({ s.clearCoreMem with clearAt := s.ticks }.setFs [(PLT.CLRSTAT_DONE, 0)])

/-- MEMORY_CLEAR_DONE (R445): TIME in units of 10 ns. -/
def execMemoryClearDone (s : State) : Out :=
  .next (s.clearCoreMem.setFs [(PLT.CLRSTAT_DONE, 1), (PLT.CLRSTAT_TIME, min ((s.ticks - s.clearAt) / 5) 0xFFFF)])

/-- LIFECYCLE_REQUEST (R447). -/
def execLifecycleRequest (rq : Rq) (target : BitVec 3) (confirm : BitVec 16) (s : State) : Out :=
  let r := s.lcRequest rq target.toNat confirm.toNat
  .next (r.2.answer r.1)

/-- FUSE_PROGRAMMING_DONE (R447, R448): `ok` when the row passes its check. Programming starts when the wipe is complete. -/
def execFuseProgrammingDone (ok : Bool) (s : State) : Out :=
  match s.lcTarget with
  | none => .next s
  | some t =>
    if s.on PLT.SBSTAT_WIPING then .next s
    else
      let s := { s.setF PLT.LCSTAT_BUSY 0 with lcTarget := none }
      if ok then .next (s.setF PLT.LCSTAT_STATE t) else .next (s.setF PLT.LCSTAT_PERR 1)

end Sys2Proof.Machine
end

