-- ==== Sys2Proof/Machine/Ports.lean ====
section
/-! DEFINITION. Ports (chapter 7): modes and rates (R200), link states (R203–R206), half duplex (R208–R210), PLCA (R211, R212),
time-stamps (R221, R222), and the accounting of cells and queues (R234) that a loss of link touches. -/
namespace Sys2Proof.Machine

def State.port (s : State) (p : Nat) : PortSt := tabGet s.ports PortSt.reset p
def State.setPort (s : State) (p : Nat) (x : PortSt) : State := { s with ports := tabPut s.ports p x }

/-- What remains of a send when its segment in hand has left or was dropped (R217): the launch time was segment 0's. -/
def Frame.rest (fr : Frame) : Option Frame :=
  if !fr.txrec.isEmpty && decide (fr.seg + 1 < (TxRec.ofBytes fr.txrec).segments fr.bytes) then some { fr with seg := fr.seg + 1, launch := none }
  else none

/-- Segments of a send that are still to leave. -/
def Frame.toGo (fr : Frame) : Nat := if fr.txrec.isEmpty then 1 else (TxRec.ofBytes fr.txrec).segments fr.bytes - fr.seg

/-- A Ruling frame as a MAC holds it: its bytes as they are, with a good or an inverted FCS. -/
def rulingFrame (b : List Byte) (good : Bool) : Frame :=
  { bytes := b, len := b.length + 4, port := 0, at_ := 0, rxst := 0, tagIn := false, vid := 0, pcp := 0, colour := 0, stream := none
    txrec := [], launch := none, tref := 0, ct := false, bad := !good, cut := false, epoch := 0, cols := [], seg := 0, cells := 0
    tagOut := false, pairTag := 0, pairSeq := 0 }

/-! ## Modes, rates, time-stamps -/

/-- MODE; a value not listed for the port acts as 0 (R200). -/
def State.portMode (s : State) (p : Nat) : Nat :=
  let m := s.f (PORT.CTL_MODE p)
  if m ≤ (if p < 8 then 4 else if p < 12 then 1 else 3) then m else 0

/-- SPEED code and full duplex that a mode resolves to; what auto-negotiation gives is the operand (Table 7.1). -/
def State.resolved (s : State) (p speed : Nat) (fdx : Bool) : Nat × Bool :=
  if p < 8 then
    match s.portMode p with
    | 1 => (0, false)
    | 2 => (0, true)
    | 3 => (1, false)
    | 4 => (1, true)
    | _ => if speed ≥ 2 then (2, true) else (speed, fdx)
  else if p < 12 then (0, false)
  else
    match s.portMode p with
    | 2 => (3, true)
    | 3 => (4, true)
    | _ => (2, true)

/-- Bit time in hundredths of ns of a SPEED code. -/
def bitTime (speed : Nat) : Nat :=
  match speed with
  | 0 => 10000
  | 1 => 1000
  | 2 => 100
  | 3 => 40
  | _ => 10

/-- Bit time of a switch port in hundredths of ns: external line rate; I 10 Gb/s, H 25 Gb/s and K 1 Gb/s (Table 8.1). -/
def State.portBit (s : State) (p : Nat) : Nat :=
  if p < 16 then bitTime (s.f (PORT.STAT_SPEED p)) else if p = 21 then 100 else if p = 20 then 4 else 10

/-- ns that `n` bytes take on port `p`, rounded up. -/
def State.byteTime (s : State) (p n : Nat) : Nat := (n * 8 * s.portBit p + 99) / 100

/-- Bit times of port `p` that a number of ticks holds. -/
def State.bitsIn (s : State) (p ticks : Nat) : Nat := ticks * 200 / s.portBit p

/-- TX and RX latency in ns (Table 7.9). -/
def State.latency (s : State) (p : Nat) : Nat × Nat :=
  let v := s.f (PORT.STAT_SPEED p)
  if p < 8 then (if v = 0 then (520, 1800) else if v = 1 then (96, 248) else (148, 312))
  else if p < 12 then (1200, 2400)
  else (if v ≤ 2 then (72, 112) else if v = 3 then (36, 60) else (44, 68))

/-- Network time in 2⁻¹⁶ ns. -/
def State.now16 (s : State) : Nat := s.nowSec * 1000000000 * 65536 + s.time.sub / 2 ^ 32

/-- Ingress time of a frame whose time-stamp point passes now (R221), in 2⁻¹⁶ ns. -/
def State.ingressTime (s : State) (p : Nat) : Nat :=
  ((s.now16 : Int) - (s.latency p).2 * 65536 + toSigned 8 (s.f (PORT.TSADJ_RXADJ p)) * 65536).toNat

/-- ns from the start of a transmission on port `p` to the instant its time-stamp point leaves the pins: preamble and SFD, TX latency, TXADJ
(R221). -/
def State.txDelay (s : State) (p : Nat) : Int :=
  if p < 16 then s.byteTime p 8 + (s.latency p).1 + toSigned 8 (s.f (PORT.TSADJ_TXADJ p)) else 0

/-- Egress time of a frame that starts now on port `p`, in 2⁻¹⁶ ns (R221, R277). -/
def State.egressTime (s : State) (p : Nat) : Nat := ((s.now16 : Int) + s.txDelay p * 65536).toNat

/-- Is the port UP (R203), with no change of EN or MODE to make (R202)? Internal ports always are, but for dies without power or in reset
(R25) and in Hold (Table 18.5). -/
def State.portUp (s : State) (p : Nat) : Bool :=
  !s.tclkOff && (decide (16 ≤ p) || (s.f (PORT.STAT_STATE p) == 3 && !(s.port p).chg))

/-! ## Cells and queues (R234) -/

/-- Guaranteed minima of all queues. -/
def State.sumMin (s : State) : Nat := (List.range 176).foldl (fun n q => n + s.f (SW.QCFG_MIN q)) 0

/-- Shared cells in use. -/
def State.sharedUsed (s : State) : Nat :=
  (List.range 176).foldl (fun n q => n + (s.f (SW.QSTAT_Q q) - s.f (SW.QCFG_MIN q))) 0

/-- Free shared cells F, below 0 where the minima or the cells in use exceed the pool (R234). -/
def State.freeShared (s : State) : Int := 16384 - (s.sumMin : Int) - (s.sharedUsed : Int)

/-- BUFSTAT follows the queues. -/
def State.refreshBuf (s : State) : State :=
  let used := (List.range 176).foldl (fun n q => n + s.f (SW.QSTAT_Q q)) 0
  s.setFs [(SW.BUFSTAT_FREE, 16384 - used), (SW.BUFSTAT_SHARED, 16384 - s.sumMin)]

/-- Queue `q` gains or loses cells. -/
def State.takeCells (s : State) (q c : Nat) : State := (s.setF (SW.QSTAT_Q q) (s.f (SW.QSTAT_Q q) + c)).refreshBuf
def State.freeCells (s : State) (q c : Nat) : State := (s.setF (SW.QSTAT_Q q) (s.f (SW.QSTAT_Q q) - c)).refreshBuf

def State.queue (s : State) (q : Nat) : List Frame := tabGet s.queues [] q
def State.setQueue (s : State) (q : Nat) (l : List Frame) : State := { s with queues := tabPut s.queues q l }

/-- Switch-port counter k of Table 19.4. -/
def State.countSw (s : State) (p k : Nat) : State := s.count (0x7AC + 4 * p + k)

/-- External-port counter k of Table 19.4. -/
def State.countExt (s : State) (p k : Nat) : State := s.count (0x6FC + 11 * p + k)

/-- Flushes the queues of a port; each flushed copy is counted as dropped (R233). -/
def State.flushPort (s : State) (p : Nat) : State :=
  (List.range 8).foldl (fun s c =>
    let q := 8 * p + c
    (s.queue q).foldl (fun s fr => (s.freeCells q fr.cells).countSw p 1) s |>.setQueue q []) s

/-- The copy in transmission ends: its cells are free (R207, R210); a Ruling frame holds none (R228). -/
def State.endTx (s : State) (p : Nat) : State :=
  match (s.port p).tx with
  | none => s
  | some (c, fr) =>
    (if c < 8 then s.freeCells (8 * p + c) fr.cells else s).setPort p
      { s.port p with tx := none, tries := 0, backoff := none, delayed := false, lateSent := false, plcaTx := false }

/-! ## Use of a port -/

/-- Ports of the ring channels of instance `n`, each with its channel (Table 10.1). -/
def State.ringPorts (s : State) (n : Nat) : List (Nat × Nat) :=
  if s.f (RUL.CTL_TOPO n) = 1 ∨ s.f (RUL.CTL_TOPO n) = 2 then []
  else
    (if bitOf (s.f (RUL.CTL_CHEN n)) 0 then [(s.f (RUL.PORTS_AOUT n), 0), (s.f (RUL.PORTS_ARET n), 0)] else [])
      ++ (if bitOf (s.f (RUL.CTL_CHEN n)) 1 then [(s.f (RUL.PORTS_BOUT n), 1), (s.f (RUL.PORTS_BRET n), 1)] else [])

/-- Is `p` a port of a ring channel of a running instance? -/
def State.isRingPort (s : State) (p : Nat) : Bool :=
  [0, 1, 2, 3].any (fun n => s.ttRuns n && (s.ringPorts n).any (fun x => x.1 == p))

/-- The conditions of Table 10.5 for the ring channel of port `p`, as far as this node's registers show them (log 85): fast link-fail on both ports of
the channel; at the master, with TRT at least 0, the times of each frame. A loss outside them is Reported (R451). -/
def State.ringKept (s : State) (p : Nat) : Bool :=
  [0, 1, 2, 3].all (fun n =>
    let mine := s.ringPorts n
    let flf (q : Nat) : Nat := max (s.f (PORT.LINKCFG_FLF_TIME q)) 1 * 1000 + 500
    !s.ttRuns n || (mine.filter (fun x => x.1 == p)).all (fun x =>
      let two := (mine.filter (fun y => y.2 == x.2)).map (fun y => y.1)
      let t := two.foldl (fun m q => max m (flf q)) 0
      two.all (fun q => s.on (PORT.CTL_FLF_EN q)) &&
        (!s.on (RUL.CTL_ROLE n) || (List.range (s.f (RUL.CTL_NFRAME n) + 1)).all (fun k =>
          let off := s.f (RUL.LOFF_LOFF n k)
          let rpt := s.f (RUL.RPT_RPT n k)
          if s.f (RUL.CYCLE_CYCLE n) ≤ 20000 then decide (off + t ≤ s.f (RUL.CYCLE_CYCLE n))
          else s.on (RUL.CTL_REPAIR n) && decide (off + t ≤ rpt) && decide (rpt ≤ s.f (RUL.RDL_RDL n k))))))

/-- Destination of the Ruling frames of instance `n` (R299). -/
def State.rulDa (s : State) (n : Nat) : List Byte := beBytes 2 (s.f (RUL.DAH_DAH n)) ++ beBytes 4 (s.f (RUL.DAL_DAL n))

/-- Is a frame a Ruling frame of instance `n` and channel `c` (R299)? -/
def State.rulFits (s : State) (n c : Nat) (b : List Byte) : Bool :=
  b.take 6 == s.rulDa n && be16 b 12 == s.f RUL.GLOB_ETYPE && b2n (bitOf (byteAt b 15) 7) == c

/-- TOPO of instance `n`; 3 acts as 0. -/
def State.topo (s : State) (n : Nat) : Nat := s.f (RUL.CTL_TOPO n) % 3

/-- Channel `c` of instance `n`: enabled, its OUT and RET port, its branch mask (Table 10.1). -/
def State.chOn (s : State) (n c : Nat) : Bool := bitOf (s.f (RUL.CTL_CHEN n)) c
def State.chOut (s : State) (n c : Nat) : Nat := if c = 0 then s.f (RUL.PORTS_AOUT n) else s.f (RUL.PORTS_BOUT n)
def State.chRet (s : State) (n c : Nat) : Nat := if c = 0 then s.f (RUL.PORTS_ARET n) else s.f (RUL.PORTS_BRET n)
def State.chMask (s : State) (n c : Nat) : Nat := if c = 0 then s.f (RUL.BRMASK_BRA n) else s.f (RUL.BRMASK_BRB n)

/-- Ports of a channel. -/
def State.chPorts (s : State) (n c : Nat) : List Nat :=
  match s.topo n with
  | 0 => [s.chOut n c, s.chRet n c]
  | 1 => if s.chMask n c = 0 then [s.chOut n c] else (List.range 16).filter (fun p => bitOf (s.chMask n c) p)
  | _ => [s.chOut n c]

/-- Is a destination link-local (R293)? -/
def linkLocal (dst : Nat) : Bool := decide (0x0180C2000000 ≤ dst) && decide (dst ≤ 0x0180C200000F)

/-- May the switch send a frame from switch port `src` to the ring port `p` (R293): link-local or a Ruling frame of the channel, from an
internal port? -/
def State.ringTakes (s : State) (p src : Nat) (b : List Byte) : Bool :=
  decide (16 ≤ src) && (linkLocal (macDst b)
    || [0, 1, 2, 3].any (fun n => s.ttRuns n && (s.ringPorts n).any (fun x => x.1 == p && s.rulFits n x.2 b)))

/-- The even port of the pair of `p` and the pair's protocol, 1 HSR or 2 PRP (R248). -/
def State.pairOf (s : State) (p : Nat) : Option (Nat × Nat) :=
  let e := p / 2 * 2
  if [0, 2, 4, 6, 12, 14].contains e ∧ p < 16 then
    match s.f (SW.PCFG_PAIR e) with
    | 1 => some (e, 1)
    | 2 => some (e, 2)
    | _ => none
  else none

/-! ## Link states -/

/-- STAT.LINK changes: LINKCHG, KEVT bit 5, LINK_CHANGE (Table 7.3). -/
def State.linkChanged (s : State) (p : Nat) (up : Bool) : State :=
  ((s.setFs [(PORT.STAT_LINK p, b2n up), (PORT.STAT_LINKCHG p, 1)]).kevt 5).postEvent 0x8380 [p, b2n up]

/-- A change of STAT.STATE sets LINKCHG (Tables 7.12, 17.5). -/
def State.setLink (s : State) (p st : Nat) : State :=
  if s.f (PORT.STAT_STATE p) = st then s else (s.setFs [(PORT.STAT_STATE p, st), (PORT.STAT_LINKCHG p, 1)]).kevt 5

/-- The port leaves UP: frame in transmission aborted, queues flushed (R207, R233). -/
def State.leaveUp (s : State) (p : Nat) : State :=
  let s := ((s.endTx p).flushPort p).setF (PORT.STAT_PLCA_UP p) 0
  s.setPort p { s.port p with rulq := [] }

/-- The state an enabled port starts in: a 10BASE-T1S port whose PHY is not in Normal stays in LOWPOWER (Table 7.2). -/
def State.startState (s : State) (p : Nat) : Nat := if 8 ≤ p ∧ p < 12 ∧ s.f (WAKE.FSSTAT_STATE p) ≠ 0 then 4 else 1

/-- What a change of EN or MODE does to the link, once no frame is in progress (R202, R203). -/
def State.linkRestart (s : State) (p : Nat) : State :=
  let up := s.f (PORT.STAT_STATE p) = 3
  let s := s.setPort p { s.port p with chg := false }
  let s := if up then (s.leaveUp p).linkChanged p false else s
  s.setLink p (if s.on (PORT.CTL_EN p) then s.startState p else 0)

/-- Is port `p` half duplex? -/
def State.halfDuplex (s : State) (p : Nat) : Bool := decide (p < 16) && !s.on (PORT.STAT_FDX p)

/-- A Ruling frame starts at a free port: class 8. In half duplex it waits for the medium or its PLCA opportunity (R208, R211, R295). -/
def State.rulStart (s : State) (p : Nat) (fr : Frame) : State :=
  s.setPort p { s.port p with
    tx := some (8, fr), tries := 0, backoff := if s.halfDuplex p then some 0 else none, delayed := false, lateSent := false
    egress := s.egressTime p, plcaTx := false }

/-- The port has no frame in transmission any more: a change of EN or MODE that waited takes effect (R202), else a Ruling frame that waited for
the port starts (R295). -/
def State.txFree (s : State) (p : Nat) : State :=
  let x := s.port p
  if x.chg then s.linkRestart p
  else
    match x.rulq with
    | [] => s
    | fr :: t => (s.setPort p { x with rulq := t }).rulStart p fr

/-- The frame in transmission has ended, and its cells are free. -/
def State.txOver (s : State) (p : Nat) : State := (s.endTx p).txFree p

/-- The frame in transmission has ended or was dropped: the next segment of a large send is the head of its queue again, and its cells stay
(R210, R217). -/
def State.frameOver (s : State) (p : Nat) : State :=
  match (s.port p).tx with
  | none => s
  | some (c, fr) =>
    match fr.rest with
    | some r =>
      let q := 8 * p + c
      let s := s.setQueue q (r :: s.queue q)
      (s.setPort p { s.port p with tx := none, tries := 0, backoff := none, delayed := false, lateSent := false, plcaTx := false }).txFree p
    | none => s.txOver p

/-- The link of port `p` goes to state `st` by another cause than its own loss: a port that was UP leaves it, its frame in transmission ends, and a
change of EN or MODE that waited for that end takes effect (R202). -/
def State.leaveTo (s : State) (p st : Nat) : State :=
  let chg := (s.port p).chg
  let s := (if s.f (PORT.STAT_STATE p) = 3 then (s.leaveUp p).linkChanged p false else s).setLink p st
  if chg then s.linkRestart p else s

/-- The class of a loss of link on port `p` (Table 17.4 with the provisions of Table 17.2). -/
def State.linkClass (s : State) (p : Nat) : Nat :=
  if (s.isRingPort p && s.ringKept p) || (s.pairOf p).isSome then 0 else 2

/-- A loss of link (R204, Table 17.4). -/
def State.lossOfLink (s : State) (p : Nat) (fast : Bool) : State :=
  let st := s.f (PORT.STAT_STATE p)
  let chg := (s.port p).chg
  if st = 2 ∨ st = 3 then
    let s := s.setLink p 1
    let s := s.bump (PORT.STAT_LINKDOWNS p)
    let s := if fast then s.setF (PORT.STAT_FLFHIT p) 1 else s
    let s := if st = 3 then (s.leaveUp p).linkChanged p false else s
    let s := s.fault { unit := 0x90 + p, code := 1, cls := s.linkClass p }
    if chg then s.linkRestart p else s
  else s

/-- Does fast link-fail apply to the active mode (R205)? -/
def State.fastApplies (s : State) (p : Nat) : Bool :=
  s.on (PORT.CTL_FLF_EN p) && (decide (12 ≤ p) || (decide (p < 8) && decide (1 ≤ s.f (PORT.STAT_SPEED p))))

/-- LFSR seed (R209). -/
def State.seedOf (s : State) (p : Nat) : Nat := if s.f (PORT.HDX_SEED p) = 0 then 1 else s.f (PORT.HDX_SEED p)

/-- A changed PORT.CTL word (R202, R203): a change of EN or MODE takes effect at once, or when the frame in transmission has ended. -/
def State.portCtl (s : State) (p v : Nat) : State :=
  let en := s.on (PORT.CTL_EN p)
  let m := s.portMode p
  let st := s.f (PORT.STAT_STATE p)
  let s := s.wrReg (PORT.CTL p) v
  if st = 0 then
    if s.on (PORT.CTL_EN p) then
      (s.setLink p (s.startState p)).setPort p { s.port p with lfsr := s.seedOf p, lfsrAt := s.ticks }
    else s
  else if s.on (PORT.CTL_EN p) ∧ en ∧ s.portMode p = m then s
  else if st = 3 ∧ (s.port p).tx.isSome then s.setPort p { s.port p with chg := true }
  else s.linkRestart p

/-! ## Half duplex (R209, R210) -/

def lfsrStep (x : Nat) : Nat := if x % 2 = 1 then x / 2 ^^^ 0xB400 else x / 2

def lfsrSteps (n x : Nat) : Nat :=
  match n with
  | 0 => x
  | n + 1 => lfsrSteps n (lfsrStep x)

/-- The LFSR of port `p` now: it steps once per bit time. -/
def State.lfsrNow (s : State) (p : Nat) : Nat :=
  let x := s.port p
  lfsrSteps (s.bitsIn p (s.ticks - x.lfsrAt)) x.lfsr

/-- A change of SPEED: the steps so far were taken at the old bit time (R209). -/
def State.setSpeed (s : State) (p v : Nat) : State :=
  let n := s.bitsIn p (s.ticks - (s.port p).lfsrAt)
  let at_ := (s.port p).lfsrAt + n * s.portBit p / 200
  (s.setPort p { s.port p with lfsr := s.lfsrNow p, lfsrAt := at_ }).setF (PORT.STAT_SPEED p) v

/-- Back-off slots after collision `n` (R209). -/
def backoffSlots (lfsr n : Nat) : Nat := lfsr % 2 ^ (min n 10)

/-! ## PLCA (R211, R212) -/

/-- Does port `p` run PLCA with its status OK? -/
def State.plcaOn (s : State) (p : Nat) : Bool :=
  decide (8 ≤ p) && decide (p < 12) && s.portMode p == 1 && s.f (PORT.PLCA_NODE_ID p) != 255 && s.on (PORT.STAT_PLCA_UP p)

/-- The node whose transmit opportunity it is: each unused one lasts TO_TIMER bit times; one in which a frame began lasts as long as the
frame. -/
def State.plcaNode (s : State) (p : Nat) : Nat :=
  let x := s.port p
  x.plcaId + s.bitsIn p (s.ticks - x.plcaAt) / max (s.f (PORT.PLCA_TO_TIMER p)) 1

/-- A BEACON has been sent or received: node 0 has the first opportunity. -/
def State.plcaStart (s : State) (p : Nat) : State :=
  s.setPort p { s.port p with plcaId := 0, plcaAt := s.ticks, burst := s.f (PORT.PLCA_BURST_CNT p) }

/-- A frame of `len` bytes takes a transmit opportunity, and the next node's follows at its end: a frame of its own (`own`) has ended now, a
received one begins now. After a frame of its own with burst frames left, the opportunity lasts BURST_TMR bit times more. -/
def State.plcaFrame (s : State) (p : Nat) (own : Bool) (len : Nat) : State :=
  let x := s.port p
  let span (bits : Nat) : Nat := bits * s.portBit p / 200
  if !s.plcaOn p then s
  else if own && x.burst != 0 then
    s.setPort p { x with
      plcaId := s.f (PORT.PLCA_NODE_ID p)
      plcaAt := s.ticks + span (s.f (PORT.PLCA2_BURST_TMR p)) - span (max (s.f (PORT.PLCA_TO_TIMER p)) 1)
      burst := x.burst - 1 }
  else
    s.setPort p { x with
      plcaId := (if own then s.f (PORT.PLCA_NODE_ID p) else s.plcaNode p) + 1
      plcaAt := if own then s.ticks else s.ticks + span (8 * len)
      burst := s.f (PORT.PLCA_BURST_CNT p) }

/-- May a port start a frame now: a half-duplex one when the medium is free, by PLCA in its own opportunity (R208, R211)? -/
def State.mayStart (s : State) (p : Nat) (plca busy : Bool) : Bool :=
  !s.halfDuplex p || (!busy && (!plca || s.plcaNode p == s.f (PORT.PLCA_NODE_ID p)))

/-- The time-stamp queue takes an entry (R222). -/
def State.pushTs (s : State) (p tag e16 : Nat) : State :=
  let x := s.port p
  if x.tsq.length ≥ 32 then (s.bump (PORT.ERRCNT1_TSLOST p)).countExt p 9
  else
    let ns := e16 / 65536
    s.setPort p { x with tsq := x.tsq ++ [(tag, ns % 1000000000, ns / 1000000000 % 2 ^ 32)] }

/-- A read of TSQ0 (R222). -/
def State.tsqRead (s : State) (p : Nat) : Nat × State :=
  let x := s.port p
  match x.tsq with
  | [] => (0, s)
  | (tag, ns, sec) :: t =>
    (tag + 2 ^ 16 + t.length * 2 ^ 24,
      (s.setPort p { x with tsq := t }).setFs [(PORT.TSQ1_NS p, ns), (PORT.TSQ2_SEC p, sec)])

/-! ## Meanings -/

/-- Does port `p` advertise what auto-negotiation resolved (Table 7.11)? -/
def State.advertises (s : State) (p speed : Nat) (fdx : Bool) : Bool :=
  decide (8 ≤ p) || s.portMode p != 0 || bitOf (s.f (PORT.CTL_ADV p)) (if speed ≥ 2 then 4 else 2 * speed + b2n fdx)

/-- LINK_OK (R200, R203): the PHY reports link OK; speed and duplex are what auto-negotiation resolved, among what the port advertises. In
1000BASE-T MASTER follows MSPREF where the link partner prefers the other role, else the draw of the seeds (R201; PRESUMED from Clause 40, log
34). -/
def execLinkOk (p : Fin 16) (speed : Fin 5) (fdx : Bool) (draw : MasterDraw) (s : State) : Out :=
  if s.f (PORT.STAT_STATE p) = 1 ∧ !phyTest p (s.rd (PHYA.TEST p)) ∧ s.advertises p speed fdx then
    let r := s.resolved p speed fdx
    let pref := s.on (PORT.CTL_MSPREF p)
    let master := if pref == draw.peer then draw.drawn else pref
    .next (((s.setLink p 2).setSpeed p r.1).setFs [(PORT.STAT_FDX p, b2n r.2),
      (PORT.STAT_MASTER p, b2n (master && p.val < 8 && r.1 == 2))])
  else .next s

/-- HOLD_ELAPSED (R203). -/
def execHoldElapsed (p : Fin 16) (s : State) : Out :=
  if s.f (PORT.STAT_STATE p) = 2 then .next ((s.setLink p 3).linkChanged p true) else .next s

/-- PLCA_BEACON (R211, R212): the coordinator sends it once every opportunity of its NODE_CNT nodes has passed, others receive it. -/
def execPlcaBeacon (p : Fin 16) (s : State) : Out :=
  let id := s.f (PORT.PLCA_NODE_ID p)
  if 8 ≤ p.val ∧ p.val < 12 ∧ s.portMode p = 1 ∧ id ≠ 255 ∧ s.portUp p then
    if id = 0 then
      if s.plcaOn p && (decide (s.plcaNode p < s.f (PORT.PLCA_NODE_CNT p)) || ((s.port p).tx.isSome && (s.port p).plcaTx)) then .next s
      else .next (((s.emit (.beacon p)).setF (PORT.STAT_PLCA_UP p) 1).plcaStart p)
    else .next ((s.setF (PORT.STAT_PLCA_UP p) 1).plcaStart p)
  else .next s

/-- PLCA_STATUS_LOSS (R212). -/
def execPlcaStatusLoss (p : Fin 16) (s : State) : Out := .next (s.setF (PORT.STAT_PLCA_UP p) 0)

/-- TSQ_READ (R222, R223): any core-die master. -/
def execTsqRead (rq : Rq) (p : Fin 16) (s : State) : Out :=
  let r := s.tsqRead p
  if idListed rq.id.toNat then .next (r.2.answer 0 (leBytes 4 r.1)) else .next (s.answer 2)

end Sys2Proof.Machine
end

