-- ==== Sys2Proof/Machine/Mbus.lean ====
section
/-! DEFINITION. Message-bus controllers (R365–R381): bit timing checks, states and error counters, transmit buffers, filters and the
receive FIFO, stamps. -/
namespace Sys2Proof.Machine

/-! ## Events and states -/

/-- A setting of EVT bit `i` (RXNE 0, TXDONE 1, RXOVF 2, ESTATE 3, WARN 4) fires source 0x98 + k where IE has it (R378). -/
def State.mbEvt (s : State) (k i : Nat) : State :=
  let s := s.wr (MBUS.EVT k) (s.rd (MBUS.EVT k) ||| 2 ^ i)
  if bitOf (s.rd (MBUS.IE k)) i then s.fire (0x98 + k) else s

/-- A transmit buffer ends (Table 13.5). -/
def State.mbDone (s : State) (k b cause : Nat) : State :=
  ({ s with mbAbort := s.mbAbort.filter (fun x => x != 4 * k + b) }.setFs
    [(MBUS.TXSTAT_STATE k b, 3), (MBUS.TXSTAT_CAUSE k b, cause)]).mbEvt k 1

/-- Buffers in one of the states of `l` end with OFFLINE. -/
def State.mbOffline (s : State) (k : Nat) (l : List Nat) : State :=
  [0, 1, 2].foldl (fun s b => if l.contains (s.f (MBUS.TXSTAT_STATE k b)) then s.mbDone k b 3 else s) s

/-- The active buffer. -/
def State.mbActive (s : State) (k : Nat) : Option Nat := [0, 1, 2].find? (fun b => s.f (MBUS.TXSTAT_STATE k b) == 2)

/-- With TDC = 1 the transmitter delay is measured in a frame with BRS (R366); the transceiver gives it, a free value. -/
def State.mbTdc (s : State) (k b : Nat) : State :=
  if s.on (MBUS.DBT_TDC k) && bitOf (s.rd (MBUS.TXID k b)) 31 && bitOf (s.rd (MBUS.TXFMT k b)) 4 then
    let r := s.free
    r.2.setF (MBUS.STAT_TDCV k) (r.1.toNat % 256)
  else s

/-- A frame that ended early: whether it came as far as the measurement is open. -/
def State.mbTdcMay (s : State) (k b : Nat) : State :=
  let r := s.free
  if r.1.toNat % 2 = 1 then r.2.mbTdc k b else r.2

/-- The frame on the bus, if any, is cut short: the controller leaves the bus. -/
def State.mbCut (s : State) (k : Nat) : State :=
  match s.mbActive k with
  | some b => s.mbTdcMay k b
  | none => s

/-- A change among ACTIVE, PASSIVE and BUSOFF (R368). -/
def State.mbState (s : State) (k st : Nat) : State :=
  let was := s.f (MBUS.STAT_STATE k)
  let s := s.setF (MBUS.STAT_STATE k) st
  if was = st then s
  else if 2 ≤ was ∧ was ≤ 4 ∧ 2 ≤ st ∧ st ≤ 4 then ((s.mbEvt k 3).kevt 11).postEvent 0x8980 [k, st] else s

/-- Entry to INIT: off the bus, buffers OFFLINE (Tables 13.3, 13.5, R386). -/
def State.mbInit (s : State) (k : Nat) : State :=
  { ((s.mbCut k).setF (MBUS.STAT_STATE k) 0).mbOffline k [1, 2] with mbRecov := s.mbRecov.filter (fun x => x != k) }

/-- The state the error counters give on the bus. -/
def State.mbByCount (s : State) (k : Nat) : Nat := if s.f (MBUS.ERRC_TEC k) > 127 ∨ s.on (MBUS.ERRC_RP k) then 3 else 2

/-- Do the timing registers keep the limits of R367? -/
def State.mbTimingOk (s : State) (k : Nat) : Bool :=
  let nbt := (s.f (MBUS.NBT_BRP k) + 1) * (1 + (s.f (MBUS.NBT_TSEG1 k) + 1) + (s.f (MBUS.NBT_TSEG2 k) + 1))
  let dbt := (s.f (MBUS.DBT_BRP k) + 1) * (1 + (s.f (MBUS.DBT_TSEG1 k) + 1) + (s.f (MBUS.DBT_TSEG2 k) + 1))
  decide (1000 ≤ nbt) && decide (125 ≤ dbt) && decide (s.f (MBUS.NBT_SJW k) ≤ s.f (MBUS.NBT_TSEG2 k))
    && decide (s.f (MBUS.DBT_SJW k) ≤ s.f (MBUS.DBT_TSEG2 k))

/-- Is `a` a word of controller `k`? -/
def mbWordOf (k a : Nat) : Bool := decide (MBUS.CTL k ≤ a) && decide (a < MBUS.CTL k + 0x1000)

/-- The activated words of controller `k` reach it. -/
def State.mbMove (s : State) (k : Nat) : State :=
  let l := s.mbPend.filter (fun e => mbWordOf k e.1)
  let s := l.foldl (fun s e => s.wrReg e.1 e.2.toNat) s
  { s with mbPend := s.mbPend.filter (fun e => !mbWordOf k e.1) }

/-- Activated words that wait are taken at once in INIT (R369); a timing error sets CFGERR (R367). -/
def State.mbCatch (s : State) (k : Nat) : State :=
  if (s.mbPend.filter (fun e => mbWordOf k e.1)).isEmpty then s
  else
    let s := s.mbMove k
    if s.mbTimingOk k then s else s.setF (MBUS.STAT_CFGERR k) 1

/-- INIT is entered with EN = 0, on a timing error or while the channel is not Normal; else the controller leaves INIT for INTEG
(Table 13.3, R379). -/
def State.mbSettle (s : State) (k : Nat) : State :=
  let up := s.on (MBUS.CTL_EN k) && s.f (WAKE.FSSTAT_STATE k) == 0 && s.mbTimingOk k
  if up then (if s.f (MBUS.STAT_STATE k) = 0 then s.setF (MBUS.STAT_STATE k) 1 else s)
  else if s.f (MBUS.STAT_STATE k) = 0 then s else (s.mbInit k).mbCatch k

/-- Changed configuration words of controller `k` have been written: INIT and INTEG follow; a timing error sets CFGERR (R367, R369). -/
def State.mbTaken (s : State) (k : Nat) : State :=
  let s := if s.mbTimingOk k then s else s.setF (MBUS.STAT_CFGERR k) 1
  (s.mbInit k).mbSettle k

/-- The words of controller `k` have been written, from `s` on: one whose value changed takes it through INIT and INTEG (R369). -/
def State.mbChanged (t s : State) (k : Nat) : State := if t.regs = s.regs then t else t.mbTaken k

/-- Takes the activated words of controller `k` (R369). -/
def State.mbTake (s : State) (k : Nat) : State :=
  if (s.mbPend.filter (fun e => mbWordOf k e.1)).isEmpty then s else (s.mbMove k).mbChanged s k

/-- Entry to BUSOFF; activated words that wait are taken there at once (R368, R369). -/
def State.mbBusoff (s : State) (k : Nat) : State :=
  let s := ((s.mbCut k).mbState k 4).mbOffline k [2]
  (if s.on (MBUS.CTL_BOREC k) then { s with mbRecov := k :: s.mbRecov } else s).mbTake k

/-! ## Error counters (ISO 11898-1) -/

/-- TEC or REC moves; WARN when one reaches 96. -/
def State.mbCounters (s : State) (k tec rec : Nat) (rp : Bool) : State :=
  let t0 := s.f (MBUS.ERRC_TEC k)
  let r0 := s.f (MBUS.ERRC_REC k)
  let s := s.setFs [(MBUS.ERRC_TEC k, min tec 255), (MBUS.ERRC_REC k, min rec 127), (MBUS.ERRC_RP k, b2n rp)]
  if (t0 < 96 ∧ 96 ≤ tec) ∨ (r0 < 96 ∧ 96 ≤ rec) then s.mbEvt k 4 else s

/-- ACTIVE or PASSIVE follows the counters. -/
def State.mbFollow (s : State) (k : Nat) : State :=
  let st := s.f (MBUS.STAT_STATE k)
  if st = 2 ∨ st = 3 then s.mbState k (s.mbByCount k) else s

/-- Is the controller in restricted operation or bus monitoring (R373)? -/
def State.mbSilent (s : State) (k : Nat) : Bool := s.on (MBUS.CTL_ROM k) || s.on (MBUS.CTL_MON k)

/-- An error seen as transmitter (TEC + 8, or none where ISO 11898-1 excepts it) or as receiver (REC + 1, or + 8). -/
def State.mbError (s : State) (k : Nat) (tx exempt heavy : Bool) (lec : Nat) : State :=
  let s := s.setF (MBUS.ERRC_LEC k) lec
  if s.mbSilent k then s.setF (MBUS.STAT_STATE k) 1
  else
    let tec := s.f (MBUS.ERRC_TEC k)
    let rec_ := s.f (MBUS.ERRC_REC k)
    if tx then
      let t := if exempt then tec else tec + 8
      let s := s.mbCounters k t rec_ (s.on (MBUS.ERRC_RP k))
      if t > 255 then s.mbBusoff k else s.mbFollow k
    else
      let r := rec_ + (if heavy then 8 else 1)
      (s.mbCounters k tec r (s.on (MBUS.ERRC_RP k) || decide (r > 127))).mbFollow k

/-- A frame received without error: REC falls; from above 127 it takes a value between 119 and 127 (ISO 11898-1), a free value. -/
def State.mbRxOk (s : State) (k : Nat) : State :=
  if s.mbSilent k then s
  else if s.on (MBUS.ERRC_RP k) then
    let x := s.free
    (x.2.setFs [(MBUS.ERRC_REC k, 119 + x.1.toNat % 9), (MBUS.ERRC_RP k, 0)]).mbFollow k
  else s.setF (MBUS.ERRC_REC k) (s.f (MBUS.ERRC_REC k) - 1)

/-! ## Frames -/

/-- Data bytes of a DLC (Table 13.4). -/
def mbLen (fd : Bool) (dlc : Nat) : Nat :=
  if dlc ≤ 8 then dlc
  else if !fd then 8
  else match dlc with
    | 9 => 12
    | 10 => 16
    | 11 => 20
    | 12 => 24
    | 13 => 32
    | 14 => 48
    | _ => 64

/-- Arbitration field as a number, most significant bit first on the bus, dominant 0 (R371). -/
def arbKey (id : Nat) : Nat :=
  let b11 := bitsOf id 18 11
  let rtr := b2n (bitOf id 30 && !bitOf id 31)
  if bitOf id 29 then b11 * 2 ^ 21 + 2 ^ 20 + 2 ^ 19 + bitsOf id 0 18 * 2 + rtr else b11 * 2 ^ 21 + rtr * 2 ^ 20

/-! ### Bits of a frame up to its CRC (ISO 11898-1, PRESUMED, log 80); dominant is false -/

/-- Bits of a number, highest first. -/
def msbBits (v w : Nat) : List Bool := (List.range w).map (fun i => bitOf v (w - 1 - i))

/-- From the start of frame to the DLC. -/
def canHead (id fmt : Nat) : List Bool :=
  let ide := bitOf id 29
  let rtr := bitOf id 30
  [false] ++ msbBits (bitsOf id 18 11) 11 ++ (if ide then [true, true] ++ msbBits (bitsOf id 0 18) 18 else [])
    ++ (if bitOf id 31 then (if ide then [false] else [false, false]) ++ [true, false, bitOf fmt 4, bitOf fmt 5] else [rtr, false, false])
    ++ msbBits (bitsOf fmt 0 4) 4

/-- Dynamic stuffing: after five equal bits one of the other level, but for the last bit, which a fixed stuff bit follows. -/
def canStuff (l : List Bool) (last : Bool) (run : Nat) : List Bool :=
  match l with
  | [] => []
  | b :: t =>
    let n := if run ≠ 0 ∧ b = last then run + 1 else 1
    if n = 5 ∧ !t.isEmpty then b :: (!b) :: canStuff t (!b) 1 else b :: canStuff t b n

/-- A cyclic redundancy check of `w` bits. -/
def canCrc (w poly init : Nat) (l : List Bool) : Nat :=
  l.foldl (fun c b =>
    let x := c * 2 % 2 ^ w
    if bitOf c (w - 1) != b then x ^^^ poly else x) init

/-- Stuff count field and CRC of a frame: CRC-15 for a classical frame, CRC-17 for an FD frame of up to 16 data bytes, else CRC-21 (R365). -/
def canCheck (id fmt : Nat) (data : List Byte) : Nat × Nat :=
  let raw := canHead id fmt ++ data.flatMap (fun x => msbBits x.toNat 8)
  if !bitOf id 31 then (0, canCrc 15 0x4599 0 raw)
  else
    let stuffed := canStuff raw false 0
    let n := (stuffed.length - raw.length) % 8
    let gray := n ^^^ n / 2
    let field := gray * 2 + (gray + gray / 2 + gray / 4) % 2
    let l := stuffed ++ msbBits field 4
    (field, if data.length ≤ 16 then canCrc 17 0x1685B (2 ^ 16) l else canCrc 21 0x102899 (2 ^ 20) l)

/-- The buffer a start decision selects (R371): with CTL.FD = 0 no FD frame is sent (Table 13.7), and its buffer waits (DESIGN CHOICE, log 80). -/
def State.mbSelect (s : State) (k : Nat) : Option Nat :=
  let l := [0, 1, 2].filter (fun b => s.f (MBUS.TXSTAT_STATE k b) == 1 && (s.on (MBUS.CTL_FD k) || !bitOf (s.rd (MBUS.TXID k b)) 31))
  if s.on (MBUS.CTL_TXSEL k) then l.head?
  else l.foldl (fun (best : Option Nat) b =>
    match best with
    | none => some b
    | some a => if arbKey (s.rd (MBUS.TXID k b)) < arbKey (s.rd (MBUS.TXID k a)) then some b else best) none

/-- The frame of a buffer as it goes on the bus; ESI is set in PASSIVE. -/
def State.mbFrame (s : State) (k b : Nat) : Output :=
  let id := s.rd (MBUS.TXID k b)
  let fd := bitOf id 31
  let fmt := s.rd (MBUS.TXFMT k b) + (if fd ∧ s.f (MBUS.STAT_STATE k) = 3 then 32 else 0)
  let n := if bitOf id 30 && !fd then 0 else mbLen fd (bitsOf fmt 0 4)
  let data := ((List.range 16).flatMap (fun w => leBytes 4 (s.rd (MBUS.TXD k b w)))).take n
  let chk := canCheck id fmt data
  .canFrame k id fmt data chk.1 chk.2

/-- The stamp of a frame whose SOF passed the synchroniser `ago` ticks before now (R377). -/
def State.mbStamp (s : State) (k ago : Nat) : Nat := State.mbCount { s with ticks := s.ticks - ago } k

/-- The RX window and LEVEL follow the FIFO (R376). -/
def State.mbWindow (s : State) (k : Nat) : State :=
  let q := tabGet s.mbRx [] k
  let e : MbEntry := q.headD ⟨0, 0, 0, []⟩
  let s := ((s.wr (MBUS.RXID k) e.id).wr (MBUS.RXFMT k) e.fmt).wr (MBUS.RXSTAMP k) e.stamp
  let s := (List.range 16).foldl (fun s w => s.wr (MBUS.RXD k w) (leNat (sub e.data (4 * w) 4))) s
  s.setF (MBUS.RXSTAT_LEVEL k) q.length

/-- A pop (R376). -/
def State.mbPop (s : State) (k : Nat) : State :=
  match tabGet s.mbRx [] k with
  | [] => s
  | _ :: t =>
    ({ s with mbRx := tabPut s.mbRx k t }.mbWindow k).setF (MBUS.RXSTAT_POPCNT k) ((s.f (MBUS.RXSTAT_POPCNT k) + 1) % 65536)

/-- The lowest matching filter; 0 with no filter enabled; `none` when the frame is not accepted (R375). -/
def State.mbFilter (s : State) (k id : Nat) : Option Nat :=
  let en := (List.range 16).filter (fun f => s.on (MBUS.FILT_EN k f))
  if en.isEmpty then some 0
  else en.find? (fun f =>
    bitsOf id 29 1 == s.f (MBUS.FILT_IDE k f)
      && (bitsOf id 0 29 &&& s.f (MBUS.FMSK_MSK k f)) == (s.f (MBUS.FILT_ID k f) &&& s.f (MBUS.FMSK_MSK k f)))

/-- The identifier word of a received frame: a base identifier stands in [28:18], the bits below it are 0 (Table 13.9). -/
def mbId (id : Nat) : Nat := if bitOf id 29 then id else setBits id 0 18 0

/-- A frame received without error: acknowledged, but in bus monitoring (R373). -/
def State.mbReceive (s : State) (k id fmt : Nat) (data : List Byte) (stamp : Nat) : State :=
  let s := if s.on (MBUS.CTL_MON k) then s else s.emit (.canAck k)
  let s := s.mbRxOk k
  match s.mbFilter k id with
  | none => s
  | some f =>
    let q := tabGet s.mbRx [] k
    if q.length ≥ 64 then (s.bump (MBUS.RXSTAT_OVF k)).mbEvt k 2
    else
      let fd := bitOf id 31
      let n := if bitOf id 30 && !fd then 0 else mbLen fd (bitsOf fmt 0 4)
      let e : MbEntry := ⟨id, bitsOf fmt 0 6 + f * 2 ^ 8 + n * 2 ^ 16, stamp, data.take n⟩
      let s := { s with mbRx := tabPut s.mbRx k (q ++ [e]) }.mbWindow k
      if q.isEmpty then s.mbEvt k 0 else s

/-- The local reset of a controller (R379). -/
def State.mbReset (s : State) (k : Nat) : State :=
  let s := ([0, 1, 2].foldl (fun (s : State) b => s.setF (MBUS.TXSTAT_STATE k b) 0) (s.mbCut k)).freshCredits (0xB0 + k)
  let s := { s with
    mbRx := tabDel s.mbRx k
    mbAbort := s.mbAbort.filter (fun x => x / 4 != k)
    mbRecov := s.mbRecov.filter (fun x => x != k)
    mbBase := tabPut s.mbBase k s.runTick }
  let s := ((((s.wr (MBUS.ERRC k) 0).wr (MBUS.EVT k) 0).wr (MBUS.RXSTAT k) 0).setF (MBUS.STAT_STATE k) 0).mbWindow k
  (s.mbCatch k).mbSettle k

/-! ## Rights (R380) -/

/-- Engine threads, application cores, the Keyblock and the debug port. -/
def mbRights (rq : Rq) : Bool :=
  let id := rq.id.toNat
  isKbDbg id || (decide (0x10 ≤ id) && decide (id ≤ 0x27)) || (decide (0x30 ≤ id) && decide (id ≤ 0x3F))

/-- A write of TXCTL (R370, R372). -/
def State.mbTxctl (s : State) (k b v : Nat) : State :=
  let st := s.f (MBUS.TXSTAT_STATE k b)
  let s :=
    if bitOf v 0 then (if st = 0 ∨ st = 3 then s.setF (MBUS.TXSTAT_STATE k b) 1 else s.bump (MBUS.TXSTAT_REQIGN k b)) else s
  if bitOf v 1 then
    match s.f (MBUS.TXSTAT_STATE k b) with
    | 1 => s.mbDone k b 4
    | 2 => { s with mbAbort := (4 * k + b) :: s.mbAbort }
    | _ => s
  else s

/-- A write of OP. -/
def State.mbOp (s : State) (k v : Nat) : State :=
  let s := if bitOf v 0 then s.mbPop k else s
  let s := if bitOf v 1 ∧ s.f (MBUS.STAT_STATE k) = 4 ∧ !s.mbRecov.contains k then { s with mbRecov := k :: s.mbRecov } else s
  if bitOf v 2 then s.mbReset k else s

/-! ## Meanings -/

/-- A write that R380 opens. -/
def mbCmd (rq : Rq) (g : State → State) (s : State) : Out := if mbRights rq then .next ((g s).answer 0) else .next (s.answer 2)

/-- TX_REQUEST (R370). -/
def execTxRequest (rq : Rq) (k : Fin 8) (b : Fin 3) (s : State) : Out := mbCmd rq (fun s => s.mbTxctl k b 1) s

/-- TX_ABORT (R372). -/
def execTxAbort (rq : Rq) (k : Fin 8) (b : Fin 3) (s : State) : Out := mbCmd rq (fun s => s.mbTxctl k b 2) s

/-- START_DECISION (R371, R373). -/
def execStartDecision (k : Fin 8) (s : State) : Out :=
  let st := s.f (MBUS.STAT_STATE k)
  if (st = 2 ∨ st = 3) ∧ !s.mbSilent k ∧ (s.mbActive k).isNone then
    match s.mbSelect k with
    | some b => .next (s.setF (MBUS.TXSTAT_STATE k b) 2)
    | none => .next s
  else .next s

/-- TRANSMISSION_ATTEMPT_END (Table 13.5): 0 success, 1 arbitration lost, 2 error; the SOF passed `ago` ticks before. -/
def execTransmissionAttemptEnd (k : Fin 8) (result : Fin 3) (ago : Nat) (s : State) : Out :=
  match s.mbActive k with
  | none => .next s
  | some b =>
    if result.val = 0 then
      let s := ((s.mbTdc k b).emit (s.mbFrame k b)).wr (MBUS.TXSTAMP k b) (s.mbStamp k ago)
      let s := s.setF (MBUS.TXSTAT_TXCNT k b) ((s.f (MBUS.TXSTAT_TXCNT k b) + 1) % 65536)
      let s := (s.setF (MBUS.ERRC_TEC k) (s.f (MBUS.ERRC_TEC k) - 1)).mbFollow k
      .next (s.mbDone k b 0)
    else
      let s := if result.val = 2 then s.mbTdcMay k b else s
      if s.mbAbort.contains (4 * k + b) then .next (s.mbDone k b 4)
      else if s.on (MBUS.CTL_ONESHOT k) then .next (s.mbDone k b result)
      else .next (s.setF (MBUS.TXSTAT_STATE k b) 1)

/-- MB_FRAME_RECEIVE (R375–R377): RXID word, DLC, BRS and ESI, data. An FD frame with CTL.FD = 0 is a form error (R365). -/
def execMbFrameReceive (k : Fin 8) (id : Word) (fmt : BitVec 6) (data : List Byte) (ago : Nat) (s : State) : Out :=
  let st := s.f (MBUS.STAT_STATE k)
  if st ≠ 2 ∧ st ≠ 3 then .next s
  else if bitOf id.toNat 31 && !s.on (MBUS.CTL_FD k) then .next (s.mbError k false false false 2)
  else .next (s.mbReceive k (mbId id.toNat) fmt.toNat data (s.mbStamp k ago))

/-- BUS_ERROR (R365, R368): LEC 0 is a protocol exception. -/
def execBusError (k : Fin 8) (tx : Bool) (lec : Fin 7) (exempt heavy : Bool) (s : State) : Out :=
  let st := s.f (MBUS.STAT_STATE k)
  if st ≠ 2 ∧ st ≠ 3 then .next s
  else if lec.val = 0 then
    if s.on (MBUS.CTL_FD k) && s.on (MBUS.CTL_PXE k) then .next ((s.bump (MBUS.ERRC_PXCNT k)).setF (MBUS.STAT_STATE k) 1)
    else .next (s.mbError k false false false 2)
  else .next (s.mbError k tx exempt heavy lec)

/-- BUS_INTEGRATION (Table 13.3). -/
def execBusIntegration (k : Fin 8) (s : State) : Out :=
  if s.f (MBUS.STAT_STATE k) = 1 then .next (s.setF (MBUS.STAT_STATE k) (s.mbByCount k)) else .next s

/-- BUSOFF_RECOVER (R368). -/
def execBusoffRecover (rq : Rq) (k : Fin 8) (s : State) : Out := mbCmd rq (fun s => s.mbOp k 2) s

/-- BUSOFF_RECOVERY_DONE (R368). -/
def execBusoffRecoveryDone (k : Fin 8) (s : State) : Out :=
  if s.f (MBUS.STAT_STATE k) = 4 ∧ s.mbRecov.contains k.val then
    let s := { s with mbRecov := s.mbRecov.filter (fun x => x != k.val) }
    .next ((s.setFs [(MBUS.ERRC_TEC k, 0), (MBUS.ERRC_REC k, 0), (MBUS.ERRC_RP k, 0)]).mbState k 2)
  else .next s

/-- RX_POP (R376). -/
def execRxPop (rq : Rq) (k : Fin 8) (s : State) : Out := mbCmd rq (fun s => s.mbOp k 1) s

/-- A read of the window's last word (R376). -/
def State.mbLastWord (s : State) (k : Nat) : Nat × State :=
  (s.rd (MBUS.RXD k 15), if s.on (MBUS.RXCTL_AUTOPOP k) then s.mbPop k else s)

/-- RX_WINDOW_AUTOPOP (R376). -/
def execRxWindowAutopop (rq : Rq) (k : Fin 8) (s : State) : Out :=
  if mbRights rq then
    let x := s.mbLastWord k
    .next (x.2.answer 0 (leBytes 4 x.1))
  else .next (s.answer 2)

/-- MB_LOCAL_RESET (R379). -/
def execMbLocalReset (rq : Rq) (k : Fin 8) (s : State) : Out := mbCmd rq (fun s => s.mbOp k 4) s

/-- MB_CONFIG_TAKE (R369): a bus-idle point; there is none while a frame of the controller is on the bus. -/
def execMbConfigTake (k : Fin 8) (s : State) : Out := .next (if (s.mbActive k).isSome then s else s.mbTake k)

end Sys2Proof.Machine
end

