-- ==== Sys2Proof/Machine/Nm.lean ====
section
/-! DEFINITION. Consent rings (R382–R389), channel supervisors and the fail-safe (R390), INH (R391). -/
namespace Sys2Proof.Machine

/-- Channels of the media of ring `r` (R382, R390). -/
def State.ringMedia (s : State) (r : Nat) : List Nat := (List.range 12).filter (fun c => bitOf (s.rd (NMG.RINGMED r)) c)

/-- Rings that are enabled. -/
def State.ringsOn (s : State) : List Nat := [0, 1, 2, 3].filter (fun r => s.on (NMG.RINGCFG_EN r))

/-- INH (R391). -/
def State.refreshInh (s : State) : State :=
  let v := b2n (s.ringsOn.any (fun r => s.f (NMG.RINGSTAT_STATE r) != 3) || !s.on WAKE.INHCFG_REL)
  if s.f WAKE.INHCFG_INH = v then s else (s.setF WAKE.INHCFG_INH v).emit (.pin "INH" v)

/-- Name of the standby pin of message-bus channel `c`. -/
def stbName (c : Nat) : String :=
  match c with
  | 0 => "MB0_STB"
  | 1 => "MB1_STB"
  | 2 => "MB2_STB"
  | 3 => "MB3_STB"
  | 4 => "MB4_STB"
  | 5 => "MB5_STB"
  | 6 => "MB6_STB"
  | _ => "MB7_STB"

/-- MBn_STB follows the channel's state, which was `was`: level 1 stands for active, as in Standby and Sleep (Table 13.12; log 81). -/
def State.stbPin (s : State) (c was : Nat) : State :=
  if c < 8 ∧ (was = 0 ↔ s.f (WAKE.FSSTAT_STATE c) ≠ 0) then s.emit (.pin (stbName c) (b2n (s.f (WAKE.FSSTAT_STATE c) != 0))) else s

/-- The pins of the wake domain follow its registers after a reset that found them as in `was`: INH, MBn_STB, FAULT_N (R390, R391, R458). -/
def State.wakePins (s was : State) : State :=
  let inh := b2n (s.ringsOn.any (fun r => s.f (NMG.RINGSTAT_STATE r) != 3) || !s.on WAKE.INHCFG_REL)
  let s := s.setF WAKE.INHCFG_INH inh
  let s := if was.f WAKE.INHCFG_INH = inh then s else s.emit (.pin "INH" inh)
  let s := (List.range 8).foldl (fun s c => s.stbPin c (was.f (WAKE.FSSTAT_STATE c))) s
  if was.f FLT.STAT_FAULTN = s.f FLT.STAT_FAULTN then s else s.emit (.pin "FAULT_N" (1 - s.f FLT.STAT_FAULTN))

/-- REL clears (R391). -/
def State.clearRel (s : State) : State := (s.setF WAKE.INHCFG_REL 0).refreshInh

/-- The fail-safe timer of a channel restarts (R390). -/
def State.fsRestart (s : State) (c : Nat) : State := { s with fsKick := tabPut s.fsKick c s.ticks }

/-- REMAIN: ms left on the timer. -/
def State.fsRemain (s : State) (c : Nat) : Nat :=
  match s.fsKick.find? (fun e => e.1 == c) with
  | some e => max (s.f (WAKE.FSCFG_TFS c)) 1 - (s.ticks - e.2) / 500000
  | none => 0

/-- Channel `c` enters a state (Table 13.12): its controller or port follows. -/
def State.setChan (s : State) (c st : Nat) : State :=
  if s.f (WAKE.FSSTAT_STATE c) = st then s
  else
    let s := (s.setF (WAKE.FSSTAT_STATE c) st).stbPin c (s.f (WAKE.FSSTAT_STATE c))
    if c < 8 then s.mbSettle c
    else
      let ps := s.f (PORT.STAT_STATE c)
      if st = 0 then (if ps = 4 then s.setLink c 2 else s)
      else if ps = 0 ∨ ps = 4 then s
      else
        s.leaveTo c 4

/-- A ring asks for state `st` of channel `c`: it writes REQ (R386, R387, R390). -/
def State.ringChan (s : State) (c st : Nat) : State := (s.setF (WAKE.FSCTL_REQ c) st).setChan c st

/-- A ring event (R382): the flag is set and the owner rung. -/
def State.ringEvent (s : State) (r : Nat) (flag : FldAt) : State :=
  let s := s.setF flag 1
  if s.on (NMG.RINGCFG_OV r) then s.ringDoorbell (0x10 + s.f (NMG.RINGCFG_OWNKEY r) / 8) (s.f (NMG.RINGCFG_DBBIT r)) else s

/-- Time `j` of ring `r` starts: 0 the ring timer, 1 the time to the owner's own message, 2 the wait timer (R384). -/
def State.ringStart (s : State) (r j : Nat) : State := { s with ringAt := tabPut s.ringAt (3 * r + j) s.runTick }

/-- Time `j` of ring `r` has run since it started: `ms`, where 0 acts as 1. -/
def State.ringDue (s : State) (r j ms : Nat) : Bool :=
  tabHas s.ringAt (3 * r + j) && decide (tabGet s.ringAt 0 (3 * r + j) + max ms 1 * 500000 ≤ s.runTick)

/-- A time of ring `r` has come; it stands until it starts again. -/
def State.ringStop (s : State) (r j : Nat) : State := { s with ringAt := tabDel s.ringAt (3 * r + j) }

/-- A report restarts the ring timer and the time to the owner's message (R384). -/
def State.ringRestart (s : State) (r : Nat) : State := (s.ringStart r 0).ringStart r 1

/-- A change among AWAKE, SLEEP_PENDING and ASLEEP (R383); the wait timer starts with SLEEP_PENDING (R384). -/
def State.ringState (s : State) (r st : Nat) : State :=
  if s.f (NMG.RINGSTAT_STATE r) = st then s
  else ((((if st = 2 then s.ringStart r 2 else s).setF (NMG.RINGSTAT_STATE r) st).kevt 12).postEvent 0x8A80 [r, st]).refreshInh

/-- OFF follows EN (Table 13.11). -/
def State.ringSettle (s : State) (r : Nat) : State :=
  let st := s.f (NMG.RINGSTAT_STATE r)
  if s.on (NMG.RINGCFG_EN r) then
    (if st = 0 then (((s.ringRestart r).setF (NMG.RINGSTAT_CONSCNT r) 0).setF (NMG.RINGSTAT_STATE r) 1).refreshInh else s)
  else if st = 0 then s else (s.setF (NMG.RINGSTAT_STATE r) 0).refreshInh

/-- A wake request of ring `r` (R385, R387). -/
def State.wakeRing (s : State) (r : Nat) (local_ : Bool) : State :=
  match s.f (NMG.RINGSTAT_STATE r) with
  | 2 => ((s.ringState r 1).setF (NMG.RINGSTAT_CONSCNT r) 0).ringEvent r (NMG.RINGSTAT_ABORT r)
  | 3 =>
    let s := s.ringState r 1
    let s := (s.ringMedia r).foldl (fun s c => ({ s with fsExp := tabDel s.fsExp c }.ringChan c 0).fsRestart c) s
    if local_ then (s.setF WAKE.LINE_DRIVE 1).emit (.pin "WAKE" 0) else s
  | _ => s

/-- LOCAL changes (R384, R385). -/
def State.ringLocal (s : State) (r : Nat) (v : Bool) : State :=
  let s := s.setF (NMG.RINGSTAT_LOCAL r) (b2n v)
  if v then s else s.wakeRing r true

/-- A report (R384): CONSCNT counts consents; consent complete starts the wait. -/
def State.ringReport (s : State) (r : Nat) (si : Bool) : State :=
  if s.f (NMG.RINGSTAT_STATE r) = 0 then s
  else if !si then ((s.ringRestart r).setF (NMG.RINGSTAT_CONSCNT r) 0).wakeRing r false
  else
    let s := (s.ringRestart r).bump (NMG.RINGSTAT_CONSCNT r)
    let len := min (max (s.f (NMG.RINGCFG_RINGLEN r)) 2) 64
    if s.f (NMG.RINGSTAT_STATE r) = 1 ∧ s.on (NMG.RINGSTAT_LOCAL r) ∧ s.f (NMG.RINGSTAT_CONSCNT r) ≥ len then s.ringState r 2 else s

/-- A write of RINGCTLr. -/
def State.ringCtl (s : State) (r v : Nat) : State :=
  let s := if bitOf v 1 then s.ringLocal r (bitOf v 0) else s
  if bitOf v 2 then s.wakeRing r true else s

/-- May `rq` act as the owner context of key `key`? -/
def ownerOk (rq : Rq) (v : Bool) (key : Nat) : Bool :=
  v && decide (0x10 ≤ rq.id.toNat) && decide (rq.id.toNat ≤ 0x27) && rq.key == some (BitVec.ofNat 8 key)

/-- Rights of R382. -/
def State.ringRights (s : State) (rq : Rq) (r : Nat) : Bool :=
  isKbDbg rq.id.toNat || ownerOk rq (s.on (NMG.RINGCFG_OV r)) (s.f (NMG.RINGCFG_OWNKEY r))

/-- Rights of R390. -/
def State.fsRights (s : State) (rq : Rq) (c : Nat) : Bool :=
  isKbDbg rq.id.toNat || ownerOk rq (s.on (WAKE.FSOWN_V c)) (s.f (WAKE.FSOWN_KEY c))

/-- A write of FSCTLc.REQ (R390): an expired channel also needs the KICK that follows. -/
def State.fsReq (s : State) (c req : Nat) : State :=
  let st := min req 2
  let s := s.setF (WAKE.FSCTL_REQ c) req
  if tabHas s.fsExp c then { s with fsExp := tabPut s.fsExp c 2 } else s.setChan c st

/-- A KICK (R390). -/
def State.fsKickWrite (s : State) (c v : Nat) : State :=
  if v ≠ 0x0A5 then s.bump (WAKE.FSSTAT_BADKICK c)
  else
    let s := s.fsRestart c
    if tabGet s.fsExp 0 c = 2 then { s with fsExp := tabDel s.fsExp c }.setChan c (min (s.f (WAKE.FSCTL_REQ c)) 2) else s

/-- A write of FSCTLc: REQ, then a KICK where the field is not 0. -/
def State.fsCtl (s : State) (c v : Nat) : State :=
  let s := s.fsReq c (bitsOf v 0 2)
  if bitsOf v 8 12 = 0 then s else s.fsKickWrite c (bitsOf v 8 12)

/-! ## Meanings -/

/-- A write that R382 opens. -/
def ringCmd (rq : Rq) (r : Nat) (g : State → State) (s : State) : Out :=
  if s.ringRights rq r then .next ((g s).answer 0) else .next (s.answer 2)

/-- RING_REPORT (R384). -/
def execRingReport (rq : Rq) (r : Fin 4) (si : Bool) (s : State) : Out := ringCmd rq r (fun s => s.ringReport r si) s

/-- RING_TIMER_EXPIRY (R384): TMAX since the last report. -/
def execRingTimerExpiry (r : Fin 4) (s : State) : Out :=
  if s.f (NMG.RINGSTAT_STATE r) ≠ 0 ∧ s.ringDue r 0 (s.f (NMG.RINGTMR_TMAX r)) then
    .next (((s.ringStop r 0).setF (NMG.RINGSTAT_CONSCNT r) 0).ringEvent r (NMG.RINGSTAT_RLOST r))
  else .next s

/-- TOKEN_DUE (R384): TTYP since the last report. -/
def execTokenDue (r : Fin 4) (s : State) : Out :=
  if s.f (NMG.RINGSTAT_STATE r) ≠ 0 ∧ s.ringDue r 1 (s.f (NMG.RINGTMR_TTYP r)) then
    .next ((s.ringStop r 1).ringEvent r (NMG.RINGSTAT_TOKEN r))
  else .next s

/-- RINGCTL_LOCAL (R384): a write with LSET = 1. -/
def execRingctlLocal (rq : Rq) (r : Fin 4) (local_ : Bool) (s : State) : Out :=
  ringCmd rq r (fun s => s.ringCtl r (2 + b2n local_)) s

/-- RINGCTL_WAKE (R385). -/
def execRingctlWake (rq : Rq) (r : Fin 4) (s : State) : Out := ringCmd rq r (fun s => s.ringCtl r 4) s

/-- SLEEP_WAIT_EXPIRY (R385, R386): the wait timer cannot expire while the WAKE line is qualified low. -/
def execSleepWaitExpiry (r : Fin 4) (s : State) : Out :=
  if s.f (NMG.RINGSTAT_STATE r) = 2 ∧ !s.on WAKE.LINE_LOW ∧ s.ringDue r 2 (s.f (NMG.RINGWAIT_WAIT r)) then
    .next ((s.ringMedia r).foldl (fun s c => s.ringChan c 2) (s.ringState r 3))
  else .next s

/-- WAKE_PULSE_END (R387). -/
def execWakePulseEnd (s : State) : Out :=
  if s.on WAKE.LINE_DRIVE then .next ((s.setF WAKE.LINE_DRIVE 0).emit (.pin "WAKE" 1)) else .next s

/-- WAKE_LINE_QUALIFIED (R388): the device's own pulse is not seen as a request (R387). -/
def execWakeLineQualified (s : State) : Out :=
  if s.on WAKE.LINE_DRIVE then .next (s.setF WAKE.LINE_LOW 1)
  else
    let s := (s.setF WAKE.LINE_LOW 1).clearRel
    .next (s.ringsOn.foldl (fun s r => s.wakeRing r false) s)

/-- WAKE_LINE_RELEASE (R388). -/
def execWakeLineRelease (s : State) : Out := .next (s.setF WAKE.LINE_LOW 0)

/-- REMOTE_WAKE (R389, R391). -/
def execRemoteWake (c : Fin 12) (s : State) : Out :=
  if s.f (WAKE.FSSTAT_STATE c) = 0 then .next s
  else
    let s := s.clearRel
    match s.ringsOn.find? (fun r => (s.ringMedia r).contains c.val) with
    | some r => .next (s.wakeRing r false)
    | none => .next ((s.setF (WAKE.FSSTAT_RWAKE c) 1).kevt 12)

/-- A write that R390 opens. -/
def fsCmd (rq : Rq) (c : Nat) (g : State → State) (s : State) : Out :=
  if s.fsRights rq c then .next ((g s).answer 0) else .next (s.answer 2)

/-- FAILSAFE_REQUEST (R390). -/
def execFailsafeRequest (rq : Rq) (c : Fin 12) (req : BitVec 2) (s : State) : Out := fsCmd rq c (fun s => s.fsReq c req.toNat) s

/-- FAILSAFE_KICK (R390). -/
def execFailsafeKick (rq : Rq) (c : Fin 12) (val : BitVec 12) (s : State) : Out :=
  fsCmd rq c (fun s => s.fsKickWrite c val.toNat) s

/-- FAILSAFE_EXPIRY (R390): the timer has run down and the channel is not in Sleep. -/
def execFailsafeExpiry (c : Fin 12) (s : State) : Out :=
  if s.f (WAKE.FSSTAT_STATE c) = 2 ∨ s.fsRemain c ≠ 0 then .next s
  else
    let s := ((s.setF (WAKE.FSSTAT_EXP c) 1).kevt 12).setChan c 2
    .next { s with fsExp := tabPut s.fsExp c 1 }

end Sys2Proof.Machine
end

