-- ==== Sys2Proof/Machine/Switch.lean ====
section
/-! DEFINITION. The switch core (chapter 8): tables, classification and lookup, meters, RED and admission, HSR and PRP, the guardian,
Stencil gates and transmission selection, descriptor rings. -/
namespace Sys2Proof.Machine

/-! ## Tables (Table 8.15) -/

/-- TABLE 6 and 7 act as 0. -/
def tblIx (t : Nat) : Nat := if t ≤ 5 then t else 0

/-- Entries of a table. -/
def tblRoom (t : Nat) : Nat :=
  match t with
  | 0 => 8192
  | 1 => 4096
  | 2 => 4096
  | 3 => 256
  | 4 => 512
  | _ => 1024

/-- Bits in use of an entry's four words. -/
def tblMask (t : Nat) : Nat :=
  match t with
  | 0 => 0xFFFFFFFF + 0xCFFFFFFF * 2 ^ 32 + 0x3FFFFF * 2 ^ 64
  | 1 => 0x3FFFFF + 0x3FFFFF * 2 ^ 32
  | 2 => 0xFFFFFFFF + 0xBFFFFFFF * 2 ^ 32 + 0x7FFFFFF * 2 ^ 64 + 0x7FFFFFFF * 2 ^ 96
  | 3 => 0x1FFFFFF + 0xFFFFFF * 2 ^ 32 + 0xFFFFF * 2 ^ 64 + 0xFFFFF * 2 ^ 96
  | 4 => 0x7FFFFFF + 0x7FFFFFF * 2 ^ 32 + 0x8000003F * 2 ^ 64
  | _ => 0

/-- Entry `i` of table `t` as a 128-bit number. -/
def State.tblEntry (s : State) (t i : Nat) : Nat := tabGet s.tbl 0 (t * 0x10000 + i)

/-- Pseudo-address of word `w` of an entry (R517). -/
def tblWordAt (t i w : Nat) : Nat := 0xE0000000 + t * 0x1000000 + i * 0x10 + w * 4

/-- Do the words of the entry `v` belong to the sealed class (Table 19.11)? -/
def tblSealed (t v : Nat) : Bool := decide (t ≤ 4) && (t != 0 || bitOf v 62)

/-- Contribution of an entry to the Seal. -/
def tblSeal (t i v : Nat) : Nat :=
  if tblSealed t v then (List.range 4).foldl (fun x w => x ^^^ sealH (tblWordAt t i w) (bitsOf v (32 * w) 32)) 0 else 0

/-- Sets a table entry; the Seal follows (R518). -/
def State.tblPut (s : State) (t i v : Nat) : State :=
  let old := s.tblEntry t i
  if old = v then s
  else { s with
    tbl := cellPut s.tbl 0 (t * 0x10000 + i) v
    sealDiff := s.sealDiff ^^^ tblSeal t i old ^^^ tblSeal t i v }

/-- The first entry of table `t` that satisfies `p`. -/
def State.tblFind (s : State) (t : Nat) (p : Nat → Bool) : Option (Nat × Nat) :=
  (s.tbl.find? (fun e => e.1 / 0x10000 == t && p e.2)).map (fun e => (e.1 % 0x10000, e.2))

/-- MAC, VID and V of an FDB or stream entry. -/
def entryMac (v : Nat) : Nat := bitsOf v 0 48
def entryVid (v : Nat) : Nat := bitsOf v 48 12
def entryV (v : Nat) : Bool := bitOf v 63

/-- Milliseconds of device time, for aging. -/
def State.nowMs (s : State) : Nat := s.ticks / 500000

/-- The FDB entry of {MAC, VID}. -/
def State.fdbFind (s : State) (mac vid : Nat) : Option (Nat × Nat) :=
  s.tblFind 0 (fun v => entryV v && entryMac v == mac && entryVid v == vid)

/-- Lowest FDB index without a valid entry, from `i` on. -/
def fdbFree (l : List (Nat × Nat)) (i : Nat) : Nat :=
  match l with
  | [] => i
  | (k, v) :: t => if k = i ∧ entryV v then fdbFree t (i + 1) else i

/-- Learning (R232). -/
def State.learn (s : State) (p mac vid : Nat) : State :=
  let v := mac + vid * 2 ^ 48 + 2 ^ 63 + 2 ^ p * 2 ^ 64
  match s.fdbFind mac vid with
  | some (i, old) => if bitOf old 62 then s else { s.tblPut 0 i v with tblSeen := tabPut s.tblSeen i s.ticks }
  | none =>
    let i := fdbFree s.tbl 0
    if i ≥ 8192 then s.countG 0 else { s.tblPut 0 i v with tblSeen := tabPut s.tblSeen i s.ticks }

/-- Member and untagged mask of a VLAN. -/
def State.members (s : State) (vid : Nat) : Nat := bitsOf (s.tblEntry 1 vid) 0 22
def State.untagged (s : State) (vid : Nat) : Nat := bitsOf (s.tblEntry 1 vid) 32 22

/-- The stream entry of a received frame: TYPE 0 first, then TYPE 1 (R245). -/
def State.streamOf (s : State) (dst src vid : Nat) : Option Nat :=
  let key (ty mac : Nat) (v : Nat) : Bool := entryV v && bitsOf v 60 2 == ty && entryMac v == mac && entryVid v == vid
  match s.tblFind 2 (key 0 dst) with
  | some e => some e.1
  | none => (s.tblFind 2 (key 1 src)).map (fun e => e.1)

/-- Fields of a stream entry. -/
structure StreamCfg where
  mask : Nat
  ovr : Bool
  cls : Nat
  mtrEn : Bool
  meter : Nat
  seqsrc : Nat
  win : Nat
  ring : Nat
  reset : Nat
deriving DecidableEq, Repr

def State.streamCfg (s : State) (i : Nat) : StreamCfg :=
  let v := s.tblEntry 2 i
  let w := bitsOf v 106 6
  ⟨bitsOf v 64 22, bitOf v 86, bitsOf v 87 3, bitOf v 90, bitsOf v 96 8, bitsOf v 104 2, if w = 0 then 64 else w, bitsOf v 112 4,
    bitsOf v 116 11⟩

/-! ## Duplicates (R246, R249) -/

def Dup.reset : Dup := ⟨false, 0, 0, 0⟩

/-- One frame with sequence number `q` at time `now` ms, window `w`, reset time `rst`: is it accepted, and the state after. -/
def Dup.take (d : Dup) (w rst now q : Nat) : Bool × Dup :=
  if !d.valid || decide (now - d.last > rst) then (true, ⟨true, q, 1, now⟩)
  else
    let fwd := (q + 65536 - d.rsn) % 65536
    let back := (d.rsn + 65536 - q) % 65536
    if fwd ≠ 0 ∧ fwd < 32768 then (true, ⟨true, q, (d.hist * 2 ^ fwd + 1) % 2 ^ w, now⟩)
    else if back < w ∧ !bitOf d.hist back then (true, { d with hist := d.hist ||| 2 ^ back, last := now })
    else (false, d)

/-- Index of {source MAC, pair} in the node table. -/
def nodeIx (l : List NodeEnt) (mac pair i : Nat) : Option Nat :=
  match l with
  | [] => none
  | e :: t => if e.mac = mac ∧ e.pair = pair then some i else nodeIx t mac pair (i + 1)

/-- What the node table says of a tagged frame from pair port `p`: forwarded to the other switch ports, sent on to the other pair
port; the state after (R248, R249). -/
def State.nodeTake (s : State) (mac pair p q : Nat) : Bool × Bool × State :=
  let now := s.nowMs
  let new : NodeEnt := ⟨mac, pair, Dup.reset, Dup.reset, Dup.reset, now⟩
  let found := nodeIx s.nodes mac pair 0
  if found.isNone && decide (s.nodes.length ≥ 1024) then (true, true, s.countG 6)
  else
    let e := match found with | some i => s.nodes.getD i new | none => new
    let a := e.dup.take 64 400 now q
    let toOdd := p % 2 == 0
    let b := if toOdd then e.sentOdd.take 64 400 now q else e.sentEven.take 64 400 now q
    let e := { e with dup := a.2, seen := now }
    let e := if toOdd then { e with sentOdd := b.2 } else { e with sentEven := b.2 }
    let nodes := match found with | some i => listSet s.nodes i e | none => s.nodes ++ [e]
    (a.1, b.1, { s with nodes := nodes })

/-! ## Colour (R238, R239) -/

/-- Class and colour that PCPMAP gives a PCP. -/
def State.pcpClass (s : State) (p pcp : Nat) : Nat := bitsOf (s.rd (SW.PCPMAP p)) (4 * pcp) 3
def State.pcpColour (s : State) (p pcp dei : Nat) : Nat := if bitOf (s.rd (SW.PCPMAP p)) (4 * pcp + 3) ∨ dei = 1 then 1 else 0

/-- A meter (R239): colour after, for a frame of `len` bytes at `t` ns with initial colour `col`. -/
def State.meter (s : State) (m len t col : Nat) : Nat × State :=
  let v := s.tblEntry 3 m
  let unit := 1000000
  let cbs := bitsOf v 64 20 * unit
  let pbs := bitsOf v 96 20 * unit
  let x := tabGet s.meters ⟨cbs, pbs, t⟩ m
  let tc := min cbs (x.tc + bitsOf v 0 24 * (t - x.last))
  let tp := min pbs (x.tp + bitsOf v 32 24 * (t - x.last))
  let ca := bitOf v 24
  let b := len * unit
  let r : Nat × Nat × Nat :=
    if (ca ∧ col = 2) ∨ tp < b then (2, tc, tp)
    else if (ca ∧ col = 1) ∨ tc < b then (1, tc, tp - b)
    else (0, tc - b, tp - b)
  (r.1, { s with meters := tabPut s.meters m ⟨r.2.1, r.2.2, t⟩ })

/-- Highest launch time that is accepted, in ns. -/
def State.launchMax (s : State) : Nat := s.now + max (s.f TMU.LTCFG_HORIZON) 1 * 1000000

/-- Does a late launch-time frame of class `c` at port `p`, whose transmission has not been attempted, get dropped (R281)? -/
def State.lateDrops (s : State) (p c : Nat) : Bool := bitOf (s.f (TMU.LTPOL_DROP p)) c

/-- Has a launch time been passed by more than 8 ns (R281)? -/
def State.launchLate (s : State) (t : Nat) : Bool := decide (t + 8 < s.now)

def State.countLateDrop (s : State) (p : Nat) : State := (s.bump (TMU.LTCNT_LATEDROP p)).countG 13
def State.countLateSent (s : State) (p : Nat) : State := (s.bump (TMU.LTCNT_LATESENT p)).countG 12
def State.countInvalid (s : State) (p : Nat) : State := (s.bump (TMU.LTPOL_INVALID p)).countG 14

/-! ## Stencil gates (R242–R244) -/

/-- CYCLE, BASE, LEN of a bank. -/
def State.stCycle (s : State) (p b : Nat) : Nat := min (max (s.f (SW.STH_CYCLE_CYCLE p b)) 1000) 1000000000
def State.stBase (s : State) (p b : Nat) : Nat := s.fullTime (s.f (SW.STH_BASENS_BASENS p b)) (s.f (SW.STH_BASESEC_BASESEC p b))
def State.stLen (s : State) (p b : Nat) : Nat := min (max (s.f (SW.STH_LEN_LEN p b)) 1) 256

/-- Spans of one cycle as (start, end, gates), from entry `e` at offset `off` on. -/
def State.stSpans (s : State) (p b e off n : Nat) : List (Nat × Nat × Nat) :=
  match n with
  | 0 => []
  | n + 1 =>
    let cyc := s.stCycle p b
    if off ≥ cyc then []
    else
      let stop := if n = 0 then cyc else min cyc (off + max (s.f (SW.STE_INTERVAL p b e)) 8)
      (off, stop, s.f (SW.STE_GATES p b e)) :: s.stSpans p b (e + 1) stop n

/-- Offset in the cycle of bank `b` at network time `t`. -/
def State.stOffset (s : State) (p b t : Nat) : Nat := (((t : Int) - s.stBase p b) % (s.stCycle p b : Int)).toNat

/-- Gate state that the operative bank gives at network time `t`. -/
def State.stGates (s : State) (p t : Nat) : Nat :=
  let b := s.opbank p
  let o := s.stOffset p b t
  match (s.stSpans p b 0 0 (s.stLen p b)).find? (fun x => decide (o < x.2.1)) with
  | some x => x.2.2
  | none => 0xFF

/-- Gate state enforced at port `p`. -/
def State.gateMask (s : State) (p : Nat) : Nat := if s.on (SW.STCFG_EN p) then tabGet s.gates 0xFF p else 0xFF

/-- The gates follow the bank. -/
def State.refreshGates (s : State) (p : Nat) : State :=
  if s.on (SW.STCFG_EN p) then { s with gates := tabPut s.gates p (s.stGates p s.now) } else { s with gates := tabDel s.gates p }

/-- Spans of the current and the following cycle, by offset from the start of the current one. -/
def State.stTwo (s : State) (p : Nat) : List (Nat × Nat × Nat) :=
  let b := s.opbank p
  let l := s.stSpans p b 0 0 (s.stLen p b)
  l ++ l.map (fun x => (x.1 + s.stCycle p b, x.2.1 + s.stCycle p b, x.2.2))

/-- ns from now to the next close of gate `c` within the current and the following cycle (R243). -/
def State.nextClose (s : State) (p c : Nat) : Option Nat :=
  let o := s.stOffset p (s.opbank p) s.now
  ((s.stTwo p).find? (fun x => decide (o < x.2.1) && !bitOf x.2.2 c)).map (fun x => x.1 - o)

/-- Longest time gate `c` is open without a break; `none` when it never closes. -/
def State.longestOpen (s : State) (p c : Nat) : Option Nat :=
  let l := s.stTwo p
  if l.all (fun x => bitOf x.2.2 c) then none
  else some (l.foldl (fun (r : Nat × Nat) x =>
    let run := if bitOf x.2.2 c then r.1 + (x.2.1 - x.1) else 0
    (run, max r.2 run)) (0, 0)).2

/-! ## Transmission selection (R241, R243, R280–R282) -/

/-- The bytes of the next frame of a copy as they leave port `p`, without FCS and before PTP editing: large-send segment, tags,
padding. -/
def Frame.wire (fr : Frame) (p : Nat) : List Byte :=
  let b := if fr.txrec.isEmpty then fr.bytes else (TxRec.ofBytes fr.txrec).segment fr.bytes fr.seg
  let b := if fr.tagIn then b.take 12 ++ b.drop 16 else b
  let tci := fr.pcp % 8 * 8192 + fr.pcp / 8 * 4096 + fr.vid
  let tag (x : List Byte) : List Byte := if fr.tagOut then insertAt12 x (beBytes 2 0x8100 ++ beBytes 2 tci) else x
  let pad (x : List Byte) : List Byte := x ++ List.replicate (60 - x.length) 0
  match fr.pairTag with
  | 1 => pad (tag (insertAt12 b (beBytes 2 0x892F
      ++ beBytes 2 ((Config.hsrPath (p % 2 == 1)).toNat * 4096 + (Config.lsduSize b).toNat) ++ beBytes 2 fr.pairSeq)))
  | 2 => pad (tag b) ++ beBytes 2 fr.pairSeq ++ beBytes 2 ((if p % 2 = 0 then 0xA else 0xB) * 4096 + (Config.lsduSize b).toNat)
      ++ beBytes 2 0x88FB
  | _ => pad (tag b)

/-- The bytes of a frame of class `c` as they leave port `p`, before PTP editing: a Ruling frame, class 8, as it is. -/
def Frame.sent (fr : Frame) (c p : Nat) : List Byte := if c = 8 then fr.bytes else fr.wire p

/-- MAXFRM of an external port. -/
def State.maxFrm (s : State) (p : Nat) : Nat := if p < 16 then min (max (s.f (PORT.CTL_MAXFRM p)) 64) 9216 else 9216

/-- Time a copy's next frame takes from the first preamble bit to the end of the FCS (R243). -/
def State.sendTime (s : State) (p : Nat) (fr : Frame) : Nat :=
  s.byteTime p (8 + (if fr.ct then s.maxFrm p else (fr.wire p).length + 4))

/-- Launch time that still applies to a copy. -/
def Frame.due (fr : Frame) : Option Nat := if fr.seg = 0 then fr.launch else none

/-- What selection makes of the head of queue (p, c): 0 it waits, 1 eligible, 2 it fits no open interval, 3 late and dropped,
4 eligible and late. A launch-time frame starts so that its time-stamp point leaves the pins at the launch time (R280); a start up to 8 ns before
that is in time, one that can no longer make it is sent at once (log 36). In half duplex the launch time is the earliest start (R282). -/
def State.verdict (s : State) (p c : Nat) (fr : Frame) : Nat :=
  let en := s.on (SW.STCFG_EN p)
  let guarded := en && s.on (SW.STCFG_GUARD p)
  let dur := s.sendTime p fr
  let start := match fr.due with | some t => t - s.now | none => 0
  let never := guarded && (match s.longestOpen p c with | some m => decide (m < dur) | none => false)
  let fits := !guarded || (match s.nextClose p c with | some d => decide (start + dur ≤ d) | none => true)
  let free := bitOf (s.gateMask p) c && fits
  if never then 2
  else
    match fr.due with
    | none => if free then 1 else 0
    | some t =>
      if s.launchLate t then (if s.lateDrops p c then 3 else if free then 4 else 0)
      else if (if s.halfDuplex p then (s.now : Int) else s.now + s.txDelay p + 8) < t then 0
      else if free then 1 else 0

/-- Drops the heads that selection drops (R243, R281): of a large send the segment that fits nowhere (R217), of a late one the send. -/
def State.dropHeads (s : State) (p c n : Nat) : State :=
  match n with
  | 0 => s
  | n + 1 =>
    match s.queue (8 * p + c) with
    | [] => s
    | fr :: t =>
      let v := s.verdict p c fr
      let gone (s : State) : State := (s.freeCells (8 * p + c) fr.cells).setQueue (8 * p + c) t
      if v = 3 then ((gone s).countLateDrop p).dropHeads p c n
      else if v = 2 then
        let s := s.countSw p 1
        (match fr.rest with
          | some r => s.setQueue (8 * p + c) (r :: t)
          | none => gone s).dropHeads p c n
      else s

/-- ns by which the first preamble bit of a launch leads its launch time: in half duplex the launch time is the earliest start (R280, R282). -/
def State.launchLead (s : State) (p : Nat) : Int := if s.halfDuplex p then 0 else s.txDelay p

/-- Does instance `n` launch its own frames (R295, R296)? -/
def State.rulLaunches (s : State) (n : Nat) : Bool :=
  s.f (RUL.STAT_STATE n) == 3 || (s.f (RUL.STAT_STATE n) == 4 && s.topo n != 0 && !s.on (RUL.STAT_SILENT n))

/-- ns from now to the next launch of frame `k` of instance `n` (R295). -/
def State.rulNext (s : State) (n k : Nat) : Nat :=
  let o := s.ttOffset n s.now
  let l := s.f (RUL.LOFF_LOFF n k)
  if o ≤ l then l - o else l + s.ttCycle n - o

/-- Does a Ruling frame of port `p`, due or waiting, forbid another frame that takes `dur` ns (R295)? -/
def State.rulBlocks (s : State) (p dur : Nat) : Bool :=
  [0, 1, 2, 3].any (fun n => s.rulLaunches n && [0, 1].any (fun c =>
    s.chOn n c && (s.chPorts n c).contains p
      && ((tabGet s.rul RulSt.reset n).wait.any (fun w => w.1 == c)
        || (List.range (s.f (RUL.CTL_NFRAME n) + 1)).any (fun k => decide ((dur : Int) > s.rulNext n k - s.launchLead p)))))

/-- Does a launch-time head of another class (R280) or a Ruling frame (R295) forbid a frame of class `c` that takes `dur` ns? -/
def State.launchBlocks (s : State) (p c dur : Nat) : Bool :=
  s.rulBlocks p dur ||
  (List.range 8).any (fun k =>
    k != c && (match s.queue (8 * p + k) with
      | [] => false
      | fr :: _ => match fr.due with
        | some t => !s.launchLate t && decide ((s.now : Int) + dur > t - s.launchLead p)
        | none => false))

/-- The highest eligible class, with its head. -/
def State.pickFrom (s : State) (p n : Nat) : Option (Nat × Frame × Bool) :=
  match n with
  | 0 => none
  | c + 1 =>
    match s.queue (8 * p + c) with
    | [] => s.pickFrom p c
    | fr :: _ =>
      let v := s.verdict p c fr
      if (v = 1 ∨ v = 4) ∧ !s.launchBlocks p c (s.sendTime p fr) then some (c, fr, v == 4) else s.pickFrom p c

/-- Selection at port `p`: heads that are to be dropped go, then the head of the highest eligible class leaves its queue. -/
def State.select (s : State) (p : Nat) : Option (Nat × Frame) × State :=
  let s := (List.range 8).foldl (fun s c => s.dropHeads p c ((s.queue (8 * p + c)).foldl (fun n fr => n + fr.toGo) 0)) s
  match s.pickFrom p 8 with
  | none => (none, s)
  | some (c, fr, late) =>
    let s := s.setQueue (8 * p + c) ((s.queue (8 * p + c)).drop 1)
    (some (c, fr), if late then s.countLateSent p else s)

/-- After a step, launch times beyond the horizon are dropped (R281). -/
def State.rejudge (s : State) : State :=
  s.queues.foldl (fun s e =>
    let gone (fr : Frame) : Bool := match fr.due with | some t => decide (t > s.launchMax) | none => false
    let q := e.1
    let s := (e.2.filter gone).foldl (fun s fr => (s.freeCells q fr.cells).countInvalid (q / 8)) s
    s.setQueue q ((s.queue q).filter (fun fr => !gone fr))) s

/-! ## Admission (R235, R236, R240) -/

/-- RED at an admission attempt: is the copy dropped? Average and LFSR step at every attempt (R240). -/
def State.red (s : State) (q colour : Nat) : Bool × State :=
  let prof := match colour with | 0 => s.f (SW.QCFG_GPROF q) | 1 => s.f (SW.QCFG_YPROF q) | _ => s.f (SW.QCFG_RPROF q)
  let w := s.f (SW.REDP1_W prof)
  let old := tabGet s.redAvg 0 q
  let avg := ((old : Int) + ((s.f (SW.QSTAT_Q q) * 256 : Nat) - (old : Int)) / (2 ^ w : Nat)).toNat
  let s := { s with redAvg := tabPut s.redAvg q avg }.setF (SW.QSTAT_AVG q) (avg / 256)
  let l := lfsrStep s.redLfsr
  let s := { s with redLfsr := l }
  if !s.on (SW.QCFG_REDEN q) then (false, s)
  else
    let lo := s.f (SW.REDP0_MINTH prof) * 256
    let hi := s.f (SW.REDP0_MAXTH prof) * 256
    let drop :=
      if avg < lo then false
      else if avg ≥ hi then true
      else decide (l * 256 * (hi - lo) < s.f (SW.REDP1_MAXP prof) * (avg - lo) * 65536)
    (drop, s)

/-- `admit` of R235 on numbers: queue length `q`, cells `c`, minimum `mn`, free shared cells `f`, ALPHA `a`. -/
def admits (q c mn : Nat) (f : Int) (a : Nat) : Bool :=
  let held := q + c - mn
  let add := held - (q - mn)
  decide ((add : Int) ≤ f) && decide (((held * 64 : Nat) : Int) ≤ f * 2 ^ (min a 9))

/-- R235 for queue `q`: the cells are taken. -/
def State.takeIn (s : State) (q c : Nat) : Option State :=
  if admits (s.f (SW.QSTAT_Q q)) c (s.f (SW.QCFG_MIN q)) s.freeShared (s.f (SW.QCFG_ALPHA q)) then some (s.takeCells q c) else none

/-- Is the copy one that R230 lets cut through? -/
def State.cutsThrough (s : State) (fr : Frame) (p c : Nat) : Bool :=
  s.on (SW.QCFG_CTEN (8 * p + c)) && decide (fr.port < 16) && decide (s.portBit fr.port ≤ s.portBit p) && fr.ct

/-- Would a copy to (p, c) start at once: the port idle, its queue empty, nothing else eligible, its gate open (R231)? -/
def State.startsNow (s : State) (p c : Nat) (fr : Frame) : Bool :=
  (s.queue (8 * p + c)).isEmpty && (s.port p).tx.isNone && (s.pickFrom p 8).isNone && s.verdict p c { fr with ct := true } == 1
    && !s.launchBlocks p c (s.sendTime p { fr with ct := true })

/-- One copy towards port `p`, class `c` (stages 5 and 6): was it queued? -/
def State.copyTo (s : State) (fr : Frame) (p c : Nat) : Bool × State :=
  let q := 8 * p + c
  if !s.portUp p then (false, s.countSw p 1)
  else if s.isRingPort p && !s.ringTakes p fr.port fr.bytes then (false, s.countG 9)
  else
    let s := { s with clkStop := s.clkStop.filter (fun x => x != p) }
    let ct := s.cutsThrough fr p c
    let r := s.red q fr.colour
    if r.1 then (false, r.2.countSw p 2)
    else if fr.bad ∧ !fr.cut ∧ !(ct && s.startsNow p c fr) then (false, r.2.countSw p 3)
    else
      match r.2.takeIn q fr.cells with
      | none => (false, r.2.countSw p 1)
      | some s1 =>
        match fr.launch with
        | some t =>
          if t > s.launchMax then (false, r.2.countInvalid p)
          else if s.launchLate t ∧ s.lateDrops p c then (false, r.2.countLateDrop p)
          else (true, s1.setQueue q (s1.queue q ++ [{ fr with ct := ct }]))
        | none => (true, s1.setQueue q (s1.queue q ++ [{ fr with ct := ct }]))

/-- The pairs (R248) that a destination mask reaches from ingress port `p`, each with its next sequence number. -/
def State.pairSeqs (s : State) (p mask : Nat) : List (Nat × Nat × Nat) × State :=
  [0, 2, 4, 6, 12, 14].foldl (fun (r : List (Nat × Nat × Nat) × State) e =>
    match r.2.pairOf e with
    | some (_, k) =>
      if p / 2 * 2 ≠ e ∧ (bitOf mask e ∨ bitOf mask (e + 1)) then
        let n := tabGet r.2.pairSeq 0 e
        (r.1 ++ [(e, k, n)], { r.2 with pairSeq := tabPut r.2.pairSeq e ((n + 1) % 65536) })
      else r
    | none => r) ([], s)

/-- Copies of a frame to a destination mask, in increasing port index (R236); `onward` is the copy that goes on in an HSR ring.
Answers the mask of the ports that queued one. -/
def State.copies (s : State) (fr : Frame) (mask c : Nat) (onward : Option (Nat × Frame)) : Nat × State :=
  let r := s.pairSeqs fr.port mask
  let own := fr.vid
  (List.range 22).foldl (fun (x : Nat × State) p =>
    let tag := fr.tagOut && !bitOf (x.2.untagged own) p
    let plain : Frame := { fr with tagOut := tag }
    let cp : Option Frame :=
      match r.1.find? (fun e => e.1 == p / 2 * 2 && decide (p < 16)) with
      | some (_, k, n) => some { plain with pairTag := k, pairSeq := n }
      | none => if bitOf mask p then some plain else none
    let cp := match onward with | some (o, f) => if o = p then some { f with tagOut := tag } else cp | none => cp
    match cp with
    | some f => let y := x.2.copyTo f p c; (if y.1 then x.1 + 2 ^ p else x.1, y.2)
    | none => x) (0, r.2)

/-! ## Central-star guardian (R250–R252) -/

/-- The running instance whose guardian watches branch `p`. -/
def State.guardOf (s : State) (p : Nat) : Option Nat :=
  [0, 1, 2, 3].find? (fun n => s.on (SW.GDCFG_EN n) && s.f (RUL.CTL_TOPO n) == 1
    && (bitOf (s.f (RUL.BRMASK_BRA n)) p || bitOf (s.f (RUL.BRMASK_BRB n)) p))

/-- Branch windows {OPEN, CLOSE} of instance `n` and branch `p`. -/
def State.guardWindows (s : State) (n p : Nat) : List (Nat × Nat) :=
  s.tbl.filterMap (fun e =>
    let v := e.2
    if e.1 / 0x10000 = 4 ∧ bitOf v 95 ∧ bitsOf v 64 4 = p ∧ bitsOf v 68 2 = n then some (bitsOf v 0 27, bitsOf v 32 27) else none)

/-- The window that accepts a start at offset `d` of the cycle, with the offset it was accepted at (a window near the cycle start also
accepts in the cycle before). -/
def State.guardHit (s : State) (n p d : Nat) : Option (Int × Nat) :=
  let m := s.f (SW.GDCFG_MARGIN n)
  let tmin := s.byteTime p 64
  let ok (x : Int) (w : Nat × Nat) : Bool := decide ((w.1 : Int) - m ≤ x) && decide (x ≤ (w.2 : Int) - tmin)
  let at_ (x : Int) : Option (Int × Nat) := ((s.guardWindows n p).find? (ok x)).map (fun w => (x, w.2))
  match at_ d with
  | some r => some r
  | none => at_ ((d : Int) - s.ttCycle n)

/-- The watch of a branch. -/
def State.gdOf (s : State) (p : Nat) : GdSt := tabGet s.gd ⟨false, false, 0⟩ p
def State.setGd (s : State) (p : Nat) (g : GdSt) : State := { s with gd := tabPut s.gd p g }

/-- A violation (R252): the branch is isolated when CONSEC reaches NVIOL. -/
def State.violation (s : State) (n p : Nat) : State :=
  let k := min (s.f (SW.GDSTAT_CONSEC p) + 1) 7
  let s := (s.setF (SW.GDSTAT_CONSEC p) k).countG 10
  if k ≥ max (s.f (SW.GDCFG_NVIOL n)) 1 ∧ !s.on (SW.GDSTAT_ISO p) then
    (((s.setF (SW.GDSTAT_ISO p) 1).kevt 6).setGd p ⟨false, true, 0⟩).postEvent 0x8480 [n, p, 1]
  else s

/-- What the guardian makes of a frame of `len` bytes with FCS received on `p` at `at16`: `none` blocked, `some none` forwarded,
`some (some k)` cut after `k` bytes. -/
def State.guardian (s : State) (p at16 len : Nat) : Option (Option Nat) × State :=
  match s.guardOf p with
  | none => (some none, s)
  | some n =>
    if s.f (RUL.STAT_STATE n) ≠ 3 ∧ s.f (RUL.STAT_STATE n) ≠ 4 then (some none, s)
    else
      let d := s.ttOffset n (at16 / 65536)
      let hit := s.guardHit n p d
      let g := s.gdOf p
      if s.on (SW.GDSTAT_ISO p) then
        let s := s.bump (SW.GDSTAT_VIOL p)
        (none, s.setGd p (if hit.isSome then { g with sent := true } else ⟨false, true, 0⟩))
      else
        let s := s.setGd p { g with sent := true }
        match hit with
        | none => (none, (s.bump (SW.GDSTAT_VIOL p)).violation n p)
        | some (x, close) =>
          if x + s.byteTime p len > (close : Int) then
            let k := (((close : Int) - x).toNat) * 100 / (8 * s.portBit p)
            (some (some k), (((s.bump (SW.GDSTAT_CUT p)).countG 11).violation n p))
          else (some none, s.setF (SW.GDSTAT_CONSEC p) 0)

/-! ## Classification and lookup (R232, R245–R249) -/

/-- Colours of the segments of a frame with meter `m` (R217, R239): each segment of a large send is metered as one frame. -/
def State.meterAll (s : State) (m : Nat) (fr : Frame) (col n k : Nat) : List Nat × State :=
  match n with
  | 0 => ([], s)
  | n + 1 =>
    let len := if fr.txrec.isEmpty then fr.len else max ((TxRec.ofBytes fr.txrec).segment fr.bytes k).length 60 + 4
    let x := s.meter m len (fr.at_ / 65536) col
    let r := x.2.meterAll m fr col n (k + 1)
    (x.1 :: r.1, r.2)

/-- Colour of a frame with initial colour `col` (R238): by the meter `m`, if it has one. A large send is admitted with the worst colour of its
segments (DESIGN CHOICE, log 35). -/
def State.colourOf (s : State) (m : Option Nat) (fr : Frame) (col : Nat) : Frame × State :=
  match m with
  | none => ({ fr with colour := col, cols := [col] }, s)
  | some m =>
    let n := if fr.txrec.isEmpty then 1 else (TxRec.ofBytes fr.txrec).segments fr.bytes
    let r := s.meterAll m fr col n 0
    ({ fr with colour := r.1.foldl max 0, cols := r.1 }, r.2)

/-- The pipeline for a frame that the guardian let through (stages 2 to 6). `fr.bytes` are as received or posted; `direct` is the
egress mask of a descriptor with DIRECT, which takes the place of R232, `cls` the class of a descriptor. Answers the mask of the ports that
queued a copy. -/
def State.pipeline (s : State) (fr : Frame) (direct cls : Option Nat) : Nat × State :=
  let p := fr.port
  let s := { s with clkStop := s.clkStop.filter (fun x => x != p) }
  let posted := !fr.txrec.isEmpty
  let tagged := isVlanType (be16 fr.bytes 12)
  let tci := be16 fr.bytes 14
  let pvid := s.f (SW.PCFG_PVID p)
  let vid := if tagged ∧ tci % 4096 ≠ 0 then tci % 4096 else pvid
  let pcp := if tagged then tci / 8192 else s.f (SW.PCFG_PPCP p)
  let dei := if tagged then tci / 4096 % 2 else 0
  let dst := macDst fr.bytes
  let src := macSrc fr.bytes
  let handle := match fr.stream with | some i => if entryV (s.tblEntry 2 i) then some i else none | none => none
  match direct with
  | some mask =>
    let sc : Option StreamCfg := handle.map s.streamCfg
    let m := match sc with | some c => if c.mtrEn then some c.meter else none | none => none
    let x := s.colourOf m fr (s.pcpColour p pcp dei)
    let c := match sc with | some c => c.cls | none => cls.getD 0
    x.2.copies { x.1 with tagIn := false, tagOut := false, vid := vid, pcp := pcp + 8 * dei, stream := handle } mask c none
  | none =>
    if s.isRingPort p && !linkLocal dst then (0, s.countG 9)
    else if tagged && s.on (SW.PCFG_IFILT p) && !bitOf (s.members vid) p then (0, s.countG 1)
    else
      -- the outer tag of a received frame comes off here, that of a posted frame at the egress (its record counts it)
      let inner := if tagged then fr.bytes.take 12 ++ fr.bytes.drop 16 else fr.bytes
      let pair := s.pairOf p
      let hsr := if posted then none else hsrSeq inner
      let prp := if posted then none else prpSeq inner
      let seq := match pair with | some (_, 1) => hsr | some (_, _) => prp | none => none
      if pair.isSome && (pair.map (fun x => x.2)) == some 1 && seq.isNone then (0, s.countG 5)
      else
        let stream := match fr.stream with
          | some _ => handle
          | none => s.streamOf dst src vid
        let sc : StreamCfg := match stream with | some i => s.streamCfg i | none => ⟨0, false, 0, false, 0, 0, 64, 0, 0⟩
        let sseq : Option Nat := match sc.seqsrc with | 1 => hsr | 2 => prp | _ => none
        -- duplicates (R246, R249): pass to the other switch ports, pass on in the ring
        let d : Bool × Bool × State :=
          match pair, seq with
          | some (e, _), some q =>
            let r := s.nodeTake src e p q
            if sc.seqsrc ≠ 0 then (true, r.2.1, { s with nodes := r.2.2.nodes })
            else (r.1, r.2.1, if r.1 then r.2.2 else r.2.2.countG 4)
          | _, _ => (true, false, s)
        let s := d.2.2
        let dd : Bool × State :=
          match stream, sseq with
          | some i, some q =>
            let r := (tabGet s.dups Dup.reset i).take sc.win sc.reset s.nowMs q
            let s := { s with dups := tabPut s.dups i r.2 }
            (r.1, if r.1 then s else s.countG 3)
          | _, _ => (true, s)
        let s := dd.2
        let pass := d.1 && dd.1
        -- lookup and learning
        let mem := s.members vid
        let found := s.fdbFind dst vid
        let s := if found.isNone && !sc.ovr then s.countG 2 else s
        let base := match found with | some (_, v) => bitsOf v 64 22 &&& mem | none => mem
        let base := if sc.ovr then sc.mask else setBits base p 1 0
        let pairMask := match pair with | some (e, _) => 3 * 2 ^ e | none => 0
        let mask := if pass then base - (base &&& pairMask) else 0
        let proxied := match s.fdbFind src vid with
          | some (_, v) => (bitsOf v 64 22 - (bitsOf v 64 22 &&& pairMask)) != 0
          | none => false
        let s := if decide (p < 16) && s.on (SW.PCFG_LEARN p) && !(pair.isSome && proxied) then s.learn p src vid else s
        -- colour and class
        let col := s.pcpColour p pcp dei
        let m := s.colourOf (if stream.isSome && sc.mtrEn then some sc.meter else none) fr col
        let c := if stream.isSome then sc.cls else cls.getD (s.pcpClass p pcp)
        let body := match pair with
          | some (_, 1) => hsrStrip inner
          | some (_, _) => if prp.isSome then prpStrip inner else inner
          | none => if posted then fr.bytes else inner
        let prpWait := (pair.map (fun x => x.2)) == some 2 && seq.isSome
        let fr := { m.1 with bytes := body, tagIn := posted && tagged, vid := vid, pcp := pcp + 8 * dei, stream := stream,
                             tagOut := true, ct := decide (p < 16) && !prpWait && !(sc.seqsrc == 2 && sseq.isSome) }
        let onward : Option (Nat × Frame) := match pair with
          | some (e, 1) => if d.2.1 && !proxied then some (2 * e + 1 - p, { fr with bytes := inner }) else none
          | _ => none
        m.2.copies fr mask c onward

/-! ## PTP editing (R274–R278) -/

def State.noField (s : State) : State := (s.bump TMU.PTPCNT_NOFIELD).countG 15
def State.resRange (s : State) : State := (s.bump TMU.PTPCNT_RESRANGE).countG 16

/-- An addition to correctionField of the message at `m`, beside the replacements `pre`, or NOFIELD. -/
def State.ptpCorrect (s : State) (bs : List Byte) (udp : Option Nat) (m : Nat) (x : Int) (pre : List (Nat × List Byte) := []) :
    List Byte × State :=
  if inWindow bs (m + 8) 8 then
    match ptpSum bs m x with
    | some e => (ptpPut bs udp (pre ++ e), s)
    | none => (ptpPut bs udp pre, s.resRange)
  else (bs, s.noField)

/-- The egress edit of a frame that leaves external port `p` with egress time `e16` (Table 9.4, R276). -/
def State.ptpEdit (s : State) (p : Nat) (fr : Frame) (bs : List Byte) (e16 : Nat) : List Byte × State :=
  match ptpAt bs with
  | none => (bs, s)
  | some (m, udp) =>
    let ty := ptpType bs m
    -- a frame in the switch across a step of the time is out of range (Table 9.3)
    let now := decide (fr.epoch = s.stepNo)
    if 16 ≤ fr.port then
      let d : Int := if now then (e16 : Int) - fr.tref * 65536 else -1
      if !s.on (TMU.PTPCFG_ONESTEP p) || ptpTwoStep bs m then (bs, s)
      else if ty = 0 then
        if inWindow bs (m + 34) 10 then
          let ns := e16 / 65536
          s.ptpCorrect bs udp m ((e16 % 65536 : Nat) : Int) [(m + 34, beBytes 6 (ns / 1000000000) ++ beBytes 4 (ns % 1000000000))]
        else s.ptpCorrect bs udp m d
      else if ty = 3 then s.ptpCorrect bs udp m d
      else (bs, s)
    else
      let a := s.f (TMU.PTPCFG_TCMODE fr.port)
      let b := s.f (TMU.PTPCFG_TCMODE p)
      let d : Int := if now then (e16 : Int) - fr.at_ else -1
      let pl : Int := if now then s.f (TMU.PLD_PLD fr.port) else 0
      if a ≠ b then (bs, s)
      else if a = 1 then s.ptpCorrect bs udp m d
      else if a = 2 ∧ ty = 0 then s.ptpCorrect bs udp m (d + pl)
      else (bs, s)

end Sys2Proof.Machine
end

