-- ==== Sys2Proof/Machine/Rings.lean ====
section
/-! DEFINITION. Descriptor rings of the internal ports (R253–R260), replay entries of the switch (R256), and the meanings of the
switch commands. -/
namespace Sys2Proof.Machine

/-! ## Replay entries of units whose valid bits stand in `rplOk` -/

/-- Is entry `k` of unit `u` (0 switch, 1 scheduler, 2 + n Pantograph block n) valid? -/
def State.rplValid (s : State) (u k : Nat) : Bool := s.rplOk.contains (u * 256 + k)

/-- Entry `k` of unit `u` becomes valid. -/
def State.rplSet (s : State) (u k : Nat) : State :=
  if s.rplValid u k then s else { s with rplOk := (u * 256 + k) :: s.rplOk }

/-- Entry `k` of unit `u` becomes invalid. -/
def State.rplClear (s : State) (u k : Nat) : State := { s with rplOk := s.rplOk.filter (fun x => x != u * 256 + k) }

/-! ## Rights -/

/-- Region of a cluster identity. -/
def regionOfId (id : Nat) : Option Nat := if 0x10 ≤ id ∧ id ≤ 0x27 then some ((id - 0x10) / 6) else none

/-- May `rq` write the indices of ring `r` of I n (R253)? -/
def State.ringOk (s : State) (rq : Rq) (n r : Nat) : Bool :=
  isKbDbg rq.id.toNat || (regionOfId rq.id.toNat == some n && s.on (SW.RCFG_OV n r) && rq.key == some (BitVec.ofNat 8 (s.f (SW.RCFG_OWNKEY n r))))

/-- Entries of a ring: SZ outside 4–10 acts as the nearer limit. -/
def ringSize (sz : Nat) : Nat := 2 ^ min (max sz 4) 10

/-- Bytes of a receive buffer: BUFLOG2 outside 8–14 acts as the nearer limit. -/
def bufSize (l : Nat) : Nat := 2 ^ min (max l 8) 14

/-! ## Posts and releases -/

/-- A write of SW.RPInr (R253, R255, R256): response code and state. The index of a receive ring is read-only: an owner's write is one of the
others of R253, the Keyblock's and the debug port's change nothing. -/
def State.ringPost (s : State) (rq : Rq) (n r rpi : Nat) : Nat × State :=
  if !s.ringOk rq n r then (2, s)
  else if s.on (SW.RCFG_DIR n r) then (if isKbDbg rq.id.toNat then 0 else 2, s)
  else if s.staleAt (s.rplValid 0) (fun k => s.f (SW.RPL_LAST_COS k)) rq.key rq.cos.toNat then
    (0, (s.bump SW.ABSCNT_ABSORBED).countG 8)
  else
    let s := match rq.key with
      | some k => (s.setF (SW.RPL_LAST_COS k.toNat) rq.cos.toNat).rplSet 0 k.toNat
      | none => s
    (0, s.setF (SW.RPI_RPI n r) (rpi % ringSize (s.f (SW.RCFG_SZ n r))))

/-- A write of SW.RCInr (R253, R258): response code and state; of a transmit ring it is read-only. -/
def State.ringRelease (s : State) (rq : Rq) (n r rci : Nat) : Nat × State :=
  if !s.ringOk rq n r then (2, s)
  else if !s.on (SW.RCFG_DIR n r) then (if isKbDbg rq.id.toNat then 0 else 2, s)
  else
    let i := rci % ringSize (s.f (SW.RCFG_SZ n r))
    let s := s.setF (SW.RCI_RCI n r) i
    match rq.key with
    | some k => (0, { s with ringRel := tabPut s.ringRel (n * 16 + r) k.toNat })
    | none => (0, { s.setF (SW.RFI_RFI n r) i with ringRel := tabDel s.ringRel (n * 16 + r) })

/-- The pending releases of `key`: their rings. -/
def State.ringsOf (s : State) (key : Nat) : List Nat := (s.ringRel.filter (fun e => e.2 == key)).map (fun e => e.1)

/-- A checkpoint of `key` has completed: RFI advances to the released index (R258). -/
def State.swCheckpoint (s : State) (key : Nat) : State :=
  (s.ringsOf key).foldl (fun s x =>
    let s := s.setF (SW.RFI_RFI (x / 16) (x % 16)) (s.f (SW.RCI_RCI (x / 16) (x % 16)))
    { s with ringRel := tabDel s.ringRel x }) s

/-- SW.CTXOP OP 1 (Table 8.14). -/
def State.swClear (s : State) (key : Nat) : State := (s.setF (SW.RPL_LAST_COS key) 0).rplClear 0 key

/-- SW.CTXOP OP 2: RCI := RFI on every ring with releases pending for the key (R258). -/
def State.swRevert (s : State) (key : Nat) : State :=
  (s.ringsOf key).foldl (fun s x =>
    let s := s.setF (SW.RCI_RCI (x / 16) (x % 16)) (s.f (SW.RFI_RFI (x / 16) (x % 16)))
    { s with ringRel := tabDel s.ringRel x }) s

/-- A write of SW.CTXOP. -/
def State.swCtxop (s : State) (rq : Rq) (key op : Nat) : Nat × State :=
  if !isKbDbg rq.id.toNat then (2, s)
  else (0, match op with | 1 => s.swClear key | 2 => s.swRevert key | _ => s)

/-! ## Transmit descriptors -/

/-- What a transmit descriptor comes to: status (Table 8.4) and state. -/
def State.sendDesc (s : State) (port : Nat) (d : List Byte) : Nat × State :=
  let w1 := leNat (sub d 4 4)
  let buf := leNat (d.take 4)
  let len := bitsOf w1 0 17
  let ns := leNat (sub d 24 4)
  let t := s.fullTime ns (leNat (sub d 28 4))
  let sv := leNat (sub d 20 2)
  if len < 14 ∨ len > 65536 then (1, s)
  else if !inPlate buf len then (3, s.countG 7)
  else
    let r := s.plateRead rqHw buf len
    if r.1 ≠ 0 then (3, r.2.2.countG 7)
    else
      let l := max len 60 + 4
      let fr : Frame :=
        { bytes := r.2.1, len := l, port := port, at_ := s.now16, rxst := 0, tagIn := false, vid := 0, pcp := 0, colour := 0
          stream := if bitOf sv 15 then some (sv % 4096) else none
          txrec := sub d 8 8
          launch := if bitOf w1 21 then some (if ns > 999999999 then 2 ^ 128 else t) else none
          tref := t, ct := false, bad := false, cut := false, epoch := s.stepNo, cols := [], seg := 0, cells := (l + 255) / 256, tagOut := false, pairTag := 0, pairSeq := 0 }
      let direct := if bitOf w1 20 then some (leNat (sub d 16 4) % 2 ^ 22) else none
      let x := r.2.2.pipeline fr direct (some (bitsOf w1 17 3))
      let refused := (List.range 22).all (fun p => !bitOf x.1 p || (TxRec.ofBytes fr.txrec).refused fr.bytes (s.maxFrm p))
      (if x.1 = 0 then 1 else if refused then 2 else 0, x.2)

/-- Bytes of the frame of a transmit descriptor, padded and with FCS. -/
def descLen (d : List Byte) : Nat := max (bitsOf (leNat (sub d 4 4)) 0 17) 60 + 4

/-- The descriptor at the consumer index of a region ring is read and its frame goes to cells (R255), in the Bulk class of the port's queue; without
credits it waits (R34, R237). -/
def State.txFetch (s : State) (n r : Nat) : State :=
  if s.on (SW.RCFG_EN n r) && !s.on (SW.RCFG_DIR n r) && s.f (SW.RCI_RCI n r) != s.f (SW.RPI_RPI n r) then
    let i := s.f (SW.RCI_RCI n r)
    let a := s.f (SW.RBASE_RBASE n r) * 32 + i * 32
    let on (x : State) : State := x.setF (SW.RCI_RCI n r) ((i + 1) % ringSize (s.f (SW.RCFG_SZ n r)))
    if inPlate a 32 then
      let d := s.plateRead rqHw a 32
      if d.1 ≠ 0 then on (d.2.2.countG 7)
      else if s.hasCredits (0x3C + n) 3 0 (entries (descLen d.2.1)) then
        on ((d.2.2.lendFrame (0x3C + n) 0 (descLen d.2.1)).sendDesc (16 + n) d.2.1).2
      else s
    else on (s.countG 7)
  else s

/-- Register fields of an H or K ring: EN, DIR, SZ, BUFLOG2, RBASE, RBUF, IDX. -/
structure HkRing where
  en : FldAt
  dir : FldAt
  sz : FldAt
  buflog : FldAt
  base : FldAt
  buf : FldAt
  idx : FldAt

def hkRing (k : Bool) (r : Nat) : HkRing :=
  if k then ⟨SW.KRCFG_EN r, SW.KRCFG_DIR r, SW.KRCFG_SZ r, SW.KRCFG_BUFLOG2 r, SW.KRBASE_RBASE r, SW.KRBUF_RBUF r, SW.KIDX_IDX r⟩
  else ⟨SW.HRCFG_EN r, SW.HRCFG_DIR r, SW.HRCFG_SZ r, SW.HRCFG_BUFLOG2 r, SW.HRBASE_RBASE r, SW.HRBUF_RBUF r, SW.HIDX_IDX r⟩

/-- The switch reads the descriptor at the current index of an H or K transmit ring, and again after each descriptor it completes
(R259). -/
def State.hkPoll (s : State) (k : Bool) (r n : Nat) : State :=
  match n with
  | 0 => s
  | n + 1 =>
    let x := hkRing k r
    if !s.on x.en || s.on x.dir then s
    else
      let i := s.f x.idx
      let a := s.f x.base * 32 + i * 32
      if !inPlate a 32 then s
      else
        let d := s.plateRead rqHw a 32
        if d.1 ≠ 0 ∨ !bitOf (leNat (sub d.2.1 4 4)) 22 then d.2.2
        else
          let y := d.2.2.sendDesc (if k then 21 else 20) d.2.1
          let s := (y.2.plateWrite rqHw (a + 22) (leBytes 2 y.1)).2
          let s := (s.plateWrite rqHw (a + 4) (leBytes 4 (setBits (leNat (sub d.2.1 4 4)) 22 1 0))).2
          (s.setF x.idx ((i + 1) % ringSize (s.f x.sz))).hkPoll k r n

/-! ## Receive descriptors -/

/-- The receive descriptor of a frame of `b` bytes (Table 8.5), without OWN. -/
def rxDesc (fr : Frame) (buf room : Nat) (b : List Byte) : List Byte :=
  let ns := fr.at_ / 65536
  let w1 := b.length % 2 ^ 17 + fr.port * 2 ^ 17 + fr.rxst * 2 ^ 22 + fr.cols.getD fr.seg fr.colour * 2 ^ 26 + b2n (decide (b.length > room)) * 2 ^ 28
  leBytes 4 buf ++ leBytes 4 w1 ++ leBytes 4 (ns % 1000000000) ++ leBytes 4 (ns / 1000000000 % 2 ^ 32)
    ++ leBytes 2 (match fr.stream with | some i => i + 2 ^ 15 | none => 0) ++ leBytes 2 (fr.vid + fr.pcp % 8 * 2 ^ 12)
    ++ List.replicate 12 0

/-- The ring of I n that takes a frame of class `c` (R257). -/
def State.ringFor (s : State) (n c : Nat) (fr : Frame) : Nat :=
  match fr.stream with
  | some i => (s.streamCfg i).ring
  | none => bitsOf (s.rd (SW.CLSRING n)) (4 * c) 4

/-- The H or K ring that takes a frame: the stream entry's RING, else the lowest enabled receive ring (DESIGN CHOICE, log 31). -/
def State.hkRingFor (s : State) (k : Bool) (fr : Frame) : Option Nat :=
  match fr.stream with
  | some i => some ((s.streamCfg i).ring % (if k then 4 else 16))
  | none => (List.range (if k then 4 else 16)).find? (fun r => s.on (hkRing k r).en && s.on (hkRing k r).dir)

/-- Writes a frame and its descriptor; a buffer or descriptor outside Plate drops the frame (R253). -/
def State.putRx (s : State) (fr : Frame) (b : List Byte) (desc buf room : Nat) : Bool × State :=
  let body := b.take room
  if !inPlate desc 32 || !inPlate buf (max body.length 1) then (false, s.countG 7)
  else (true, ((s.plateWrite rqHw buf body).2.plateWrite rqHw desc (rxDesc fr buf room b)).2)

/-- Delivers the frame `b` of class `c` at internal port 16 + p; `none` when its ring is full or the Bulk credits of its queue are spent (R34). -/
def State.deliverRx (s : State) (p c : Nat) (fr : Frame) (b : List Byte) : Option State :=
  if p < 4 then
    let r := s.ringFor p c fr
    let size := ringSize (s.f (SW.RCFG_SZ p r))
    let i := s.f (SW.RPI_RPI p r)
    if !s.on (SW.RCFG_EN p r) || !s.on (SW.RCFG_DIR p r) || (i + 1) % size == s.f (SW.RFI_RFI p r)
        || !s.hasCredits (0x3C + p) 3 1 (entries (b.length + 4)) then none
    else
      let room := bufSize (s.f (SW.RCFG_BUFLOG2 p r))
      let x := (s.lendFrame (0x3C + p) 1 (b.length + 4)).putRx fr b (s.f (SW.RBASE_RBASE p r) * 32 + i * 32) (s.f (SW.RBUF_RBUF p r) * 256 + i * room) room
      if x.1 then some ((x.2.setF (SW.RPI_RPI p r) ((i + 1) % size)).fireFor (fun th => th / 48 == p) (0x70 + r)) else some x.2
  else
    let k := p == 5
    match s.hkRingFor k fr with
    | none => none
    | some r =>
      let x := hkRing k r
      let i := s.f x.idx
      let desc := s.f x.base * 32 + i * 32
      if !s.on x.en || !s.on x.dir then none
      else if inPlate desc 32 && !bitOf (leNat (s.bytes (desc + 4) 4)) 31 then none
      else
        let room := bufSize (s.f x.buflog)
        let y := s.putRx fr b desc (s.f x.buf * 256 + i * room) room
        if y.1 then
          let s := y.2.setF x.idx ((i + 1) % ringSize (s.f x.sz))
          some (if k then s.kevt 2 else s.ringDoorbell (1 + s.f (SW.HRCFG_FN r)) (s.f (SW.HRCFG_DBBIT r)))
        else some y.2

/-- Selection and delivery at internal port 16 + p. A copy to be ended with a forced bad FCS is no frame there: it is dropped and counted
(R231, R251). -/
def State.internalSend (s : State) (p : Nat) : State :=
  let port := 16 + p
  let x := s.select port
  match x.1 with
  | none => x.2
  | some (c, fr) =>
    let q := 8 * port + c
    let rec_ := TxRec.ofBytes fr.txrec
    let done (t : State) : State := t.freeCells q fr.cells
    if fr.bad then (done x.2).countSw port 3
    else if !fr.txrec.isEmpty && rec_.refused fr.bytes 9216 then done x.2
    else
      let b := fr.wire port
      match x.2.deliverRx p c fr b with
      | none => x.2.setQueue q (fr :: x.2.queue q)
      | some t =>
        let t := (t.countSw port 0).sample 1 port ((t.now16 - fr.at_) / 65536)
        match fr.rest with
        | some r => t.setQueue q (r :: t.queue q)
        | none => done t

/-! ## External ports -/

/-- The egress MAC has sent the frame handed to it (R213–R218, R221, R222, R231), over the die link, for whose Bulk credits it waits (R34). A
launch-time frame that the medium delayed counts as late, once (R282). A Ruling frame, class 8, leaves as it is (R228). -/
def State.macSend (s : State) (p : Nat) : State :=
  let x := s.port p
  match x.tx with
  | none => s
  | some (c, fr) =>
    if s.f (PORT.STAT_STATE p) != 3 || s.tclkOff || x.backoff.isSome || s.stopped then s
    else
      let rec_ := TxRec.ofBytes fr.txrec
      if !fr.txrec.isEmpty && rec_.refused fr.bytes (s.maxFrm p) then ((s.txOver p).bump (PORT.ERRCNT1_SEGERR p)).countExt p 8
      else
        let e := x.egress
        let ed := if c = 8 then (fr.bytes, s) else s.ptpEdit p fr (fr.wire p) e
        let b := ed.1 ++ (if fr.bad then badFcsOf ed.1 else fcsOf ed.1)
        if !s.hasCredits 0xC0 3 0 (entries b.length) then s
        else
          let t := (ed.2.lendFrame 0xC0 0 b.length).emit (.frame p b)
          let t :=
            if c = 8 then t
            else
              let t := t.sample 1 p ((e - fr.at_) / 65536)
              let t := if !fr.txrec.isEmpty && rec_.tsreq && fr.seg == 0 then t.pushTs p rec_.tag e else t
              let t := if fr.bad then t.countSw p 3 else t.countSw p 0
              if fr.due.isSome && x.delayed && !x.lateSent then t.countLateSent p else t
          let t := if x.plcaTx then t.plcaFrame p true b.length else t
          t.frameOver p

/-! ## Stencil change-over (R244) -/

/-- Words of bank `b` of port `p`, with their masks and their addresses in bank 0. -/
def bankWords (p b : Nat) : List (Nat × Nat × Nat) :=
  [(SW.STH_CYCLE p b, 0x3FFFFFFF, SW.STH_CYCLE p 0), (SW.STH_BASENS p b, 0x3FFFFFFF, SW.STH_BASENS p 0),
    (SW.STH_BASESEC p b, 0xFFFFFFFF, SW.STH_BASESEC p 0), (SW.STH_LEN p b, 0x1FF, SW.STH_LEN p 0)]
    ++ (List.range 256).map (fun e => (SW.STE p b e, 0xFFFFFFFF, SW.STE p 0 e))

/-- XOR by which the Seal changes when bank `b` of port `p` becomes operative in place of the other. -/
def State.bankSeal (s : State) (p b : Nat) : Nat :=
  ((bankWords p b).zip (bankWords p (1 - b))).foldl (fun x w =>
    let v := s.rd w.1.1 &&& w.1.2.1
    let u := s.rd w.2.1 &&& w.2.2.1
    if u = v then x else x ^^^ sealH w.1.2.2 v ^^^ sealH w.1.2.2 u) 0

/-- The change-over of port `p`, when it is pending and its instant has come: a cycle boundary, or with EN = 0 before the activation its
instant. -/
def State.changeOver (s : State) (p : Nat) : State :=
  let from_ := (tabGet s.stFrom (0, false) p).1
  let b := s.opbank p
  let base := s.stBase p b
  let cyc : Int := s.stCycle p b
  let first := ((from_ : Int) - base + cyc - 1) / cyc
  let due := if (tabGet s.stFrom (0, false) p).2 then decide (first ≤ ((s.now : Int) - base) / cyc) else true
  if s.on (SW.STCFG_PEND p) && decide (from_ ≤ s.now) && due then
    let x := s.bankSeal p (1 - b)
    let s := s.setFs [(SW.STCFG_OPBANK p, 1 - b), (SW.STCFG_PEND p, 0)]
    { s with sealDiff := s.sealDiff ^^^ x, stFrom := tabDel s.stFrom p }.refreshGates p
  else s

/-! ## Meanings -/

/-- SWITCH_FRAME_INGRESS (R229): the oldest frame of the port's staging passes the die link, for whose Bulk credits it waits (R34, R237), the
guardian and the pipeline. -/
def execSwitchFrameIngress (p : Fin 16) (s : State) : Out :=
  let x := s.port p
  match x.rx with
  | [] => .next s
  | fr :: t =>
    if s.tclkOff || !s.hasCredits 0xC1 3 0 (entries fr.len) then .next s
    else
    let s := { s.setPort p { x with rx := t } with clkStop := s.clkStop.filter (fun y => y != p.val) }.lendFrame 0xC1 0 fr.len
    let g := s.guardian p fr.at_ fr.len
    match g.1 with
    | none => .next g.2
    | some none => .next (g.2.pipeline fr none none).2
    | some (some k) => .next (g.2.pipeline { fr with bytes := fr.bytes.take k, bad := true, cut := true } none none).2

/-- BRANCH_READMIT (R312): silent for a whole cycle, then INTEG cycles without a violation. -/
def execBranchReadmit (p : Fin 16) (s : State) : Out :=
  let g := s.gdOf p
  match s.guardOf p with
  | none => .next s
  | some n =>
    if s.on (SW.GDSTAT_ISO p) && g.silent && decide (g.ok ≥ max (s.f (RUL.CS2_INTEG n)) 1) then
      .next (((s.setFs [(SW.GDSTAT_ISO p, 0), (SW.GDSTAT_CONSEC p, 0)]).kevt 6).postEvent 0x8480 [n, p, 0])
    else .next s

/-- FDB_AGE_OUT (R232): a learned entry goes; AGE 0 is no aging. -/
def execFdbAgeOut (i : Fin 8192) (s : State) : Out :=
  let v := s.tblEntry 0 i
  if entryV v && !bitOf v 62 && s.f SW.FDBCFG_AGE != 0 then .next { s.tblPut 0 i 0 with tblSeen := tabDel s.tblSeen i } else .next s

/-- NODE_TABLE_AGE_OUT (R249): after EntryForgetTime the duplicate state resets, after NodeForgetTime (`entry`) the entry goes. -/
def execNodeTableAgeOut (i : Fin 1024) (entry : Bool) (s : State) : Out :=
  match s.nodes[i.val]? with
  | none => .next s
  | some e =>
    if entry then .next { s with nodes := listDel s.nodes i }
    else .next { s with nodes := listSet s.nodes i { e with dup := Dup.reset, sentEven := Dup.reset, sentOdd := Dup.reset } }

/-- TRANSMISSION_SELECTION (R241): the port is UP, sends nothing and is not stopped by a Fatal fault. The copy starts, and its egress time is
fixed (R277); where the medium of a half-duplex port is busy, or its PLCA opportunity has not come, it waits in the MAC (R208, R282). -/
def execTransmissionSelection (at_ : PortTurn) (s : State) : Out :=
  let p := at_.port
  if !s.portUp p || (s.port p).tx.isSome || s.stopped then .next s
  else
    let x := s.select p
    match x.1 with
    | none => .next x.2
    | some (c, fr) =>
      let t := x.2
      let late := match fr.due with | some l => s.launchLate l | none => false
      let go := t.mayStart p (t.plcaOn p) at_.busy
      .next (t.setPort p { t.port p with
        tx := some (c, fr), tries := 0, backoff := if go then none else some 0, delayed := !go, lateSent := late
        egress := t.egressTime p, plcaTx := go && t.plcaOn p })

/-- Does the frame that waits in the MAC of port `p` give way to a Ruling frame (R295)? -/
def State.rulHolds (s : State) (p : Nat) : Bool :=
  match (s.port p).tx with
  | some (c, fr) => decide (c < 8) && s.rulBlocks p (s.sendTime p fr)
  | none => false

/-- BACKOFF_EXPIRY (R208, R209): the frame starts anew, its egress time fixed again, unless it still defers to the medium, to its
PLCA opportunity or to a Ruling frame; once it has started it keeps its access method (R212). -/
def execBackoffExpiry (at_ : PortTurn) (s : State) : Out :=
  let p := at_.port
  let x := s.port p
  let plca := if x.tries = 0 then s.plcaOn p else x.plcaTx
  if x.backoff.isNone then .next s
  else if !s.mayStart p plca at_.busy || s.rulHolds p then .next (s.setPort p { x with backoff := some 0, delayed := true })
  else .next (s.setPort p { x with backoff := none, egress := s.egressTime p, plcaTx := plca })

/-- STENCIL_GATE_CHANGE (R242). -/
def execStencilGateChange (p : Fin 22) (s : State) : Out := .next (s.refreshGates p)

/-- PIPELINE_CLOCK_STOP (R261). -/
def execPipelineClockStop (p : Fin 22) (s : State) : Out :=
  let busy := !(s.port p).rx.isEmpty || (s.port p).tx.isSome || (List.range 8).any (fun c => !(s.queue (8 * p + c)).isEmpty)
  if busy || s.clkStop.contains p.val then .next s else .next { s with clkStop := p.val :: s.clkStop }

/-- RING_POST (R255, R256). -/
def execRingPost (rq : Rq) (n : Fin 4) (r : Fin 16) (rpi : BitVec 10) (s : State) : Out :=
  let x := s.ringPost rq n r rpi.toNat
  .next (x.2.answer x.1)

/-- TX_DESCRIPTOR_FETCH (R255). -/
def execTxDescriptorFetch (n : Fin 4) (r : Fin 16) (s : State) : Out := .next (s.txFetch n r)

/-- RX_RING_DELIVERY (R257, R259, R260) at switch port 16 + p. -/
def execRxRingDelivery (p : Fin 6) (s : State) : Out := .next (s.internalSend p)

/-- RING_RELEASE (R258). -/
def execRingRelease (rq : Rq) (n : Fin 4) (r : Fin 16) (rci : BitVec 10) (s : State) : Out :=
  let x := s.ringRelease rq n r rci.toNat
  .next (x.2.answer x.1)

/-- SW_CTXOP_CLEAR (Table 8.14). -/
def execSwCtxopClear (rq : Rq) (key : BitVec 8) (s : State) : Out :=
  let x := s.swCtxop rq key.toNat 1
  .next (x.2.answer x.1)

/-- SW_CTXOP_REVERT (R258). -/
def execSwCtxopRevert (rq : Rq) (key : BitVec 8) (s : State) : Out :=
  let x := s.swCtxop rq key.toNat 2
  .next (x.2.answer x.1)

/-- HK_RING_POLL (R259); K has rings 0–3. -/
def execHkRingPoll (k : Bool) (r : Fin 16) (s : State) : Out :=
  if k && decide (4 ≤ r.val) then .next s else .next (s.hkPoll k r (ringSize (s.f (hkRing k r).sz)))

/-- The four words of an entry as a read of table `t` gives them (Table 8.15): the FDB age in s, the node table from its state. -/
def State.tblRead (s : State) (t i : Nat) : Nat :=
  if t = 0 then
    let v := s.tblEntry 0 i
    if entryV v && !bitOf v 62 then v + min 0xFFFF ((s.ticks - tabGet s.tblSeen s.ticks i) / 500000000) * 2 ^ 96 else v
  else if t = 5 then
    match s.nodes[i]? with
    | none => 0
    | some e => e.mac + e.pair / 2 % 8 * 2 ^ 48 + 2 ^ 63 + e.dup.rsn * 2 ^ 64 + (s.nowMs - e.seen) % 2 ^ 32 * 2 ^ 96
  else s.tblEntry t i

/-- A draft copy's table entry: each word drafted, else running (R519). -/
def State.tblDraft (s : State) (t i : Nat) : Nat :=
  (List.range 4).foldl (fun x w =>
    x + (tabGet s.draft (BitVec.ofNat 32 (bitsOf (s.tblEntry t i) (32 * w) 32)) (tblWordAt t i w)).toNat * 2 ^ (32 * w)) 0

/-- A table operation by TBLSEL with RD or WR (Tables 8.14, 8.15): TBLDATA holds the data. With DMODE = 1 the Keyblock's access to a
sealed entry meets the draft copy (R519). -/
def State.tblOp (s : State) (rq : Rq) (t i : Nat) (wr : Bool) : State :=
  let t := tblIx t
  let drafting := s.on OBS.ACTCTL_DMODE && rq.id.toNat == idKeyblock
  if i ≥ tblRoom t then s.setF SW.TBLSEL_ERR 1
  else if wr then
    let v := (List.range 4).foldl (fun x w => x + s.rd (SW.TBLDATA w) * 2 ^ (32 * w)) 0 &&& tblMask t
    if t = 5 then s
    else if drafting && (tblSealed t v || tblSealed t (s.tblDraft t i)) then
      { s with draft := (List.range 4).foldl (fun d w => tabPut d (tblWordAt t i w) (BitVec.ofNat 32 (bitsOf v (32 * w) 32))) s.draft }
    else
      let s := s.tblPut t i v
      if t = 0 then { s with tblSeen := tabPut s.tblSeen i s.ticks }
      else if t = 3 then { s with meters := tabDel s.meters i }
      else if t = 2 then { s with dups := tabDel s.dups i } else s
  else
    let v := if drafting && tblSealed t (s.tblDraft t i) then s.tblDraft t i else s.tblRead t i
    (List.range 4).foldl (fun s w => s.wr (SW.TBLDATA w) (bitsOf v (32 * w) 32)) s

/-- A write of SW.TBLSEL: WR before RD. -/
def State.tblSel (s : State) (rq : Rq) (v : Nat) : State :=
  let s := s.wrReg SW.TBLSEL v
  let t := s.f SW.TBLSEL_TABLE
  let i := s.f SW.TBLSEL_INDEX
  let s := if bitOf v 30 then s.tblOp rq t i true else s
  if bitOf v 31 then s.tblOp rq t i false else s

/-- TABLE_WRITE (R262): TBLDATA0–3, then TBLSEL with WR. -/
def execTableWrite (rq : Rq) (table : BitVec 3) (index : BitVec 13) (d0 d1 d2 d3 : Word) (s : State) : Out :=
  if !isKbDbg rq.id.toNat then .next (s.answer 2)
  else
    let s := (((s.wr (SW.TBLDATA 0) d0.toNat).wr (SW.TBLDATA 1) d1.toNat).wr (SW.TBLDATA 2) d2.toNat).wr (SW.TBLDATA 3) d3.toNat
    .next ((s.tblSel rq (table.toNat + index.toNat * 2 ^ 16 + 2 ^ 30)).answer 0)

/-- TABLE_READ (R262): TBLSEL with RD. -/
def execTableRead (rq : Rq) (table : BitVec 3) (index : BitVec 13) (s : State) : Out :=
  if !isKbDbg rq.id.toNat then .next (s.answer 2)
  else
    let s := s.tblSel rq (table.toNat + index.toNat * 2 ^ 16 + 2 ^ 31)
    .next (s.answer 0 ((List.range 4).flatMap (fun w => leBytes 4 (s.rd (SW.TBLDATA w)))))

end Sys2Proof.Machine
end

