-- ==== Sys2Proof/Machine/Activation.lean ====
section
/-! DEFINITION. Drafts and their activation (R518–R521, R297): draft copies, taking them at a governing boundary, REVERT and ARM. -/
namespace Sys2Proof.Machine

/-- The Ruling instance whose sealed words include address `a` (Table 10.7). -/
def rulOf (a : Nat) : Option Nat :=
  if RUL.CTL 0 ≤ a ∧ a < RUL.CTL 0 + 0x400 then some ((a - RUL.CTL 0) / 0x100)
  else if RUL.WINA 0 0 ≤ a ∧ a < RUL.WINA 0 0 + 0x4000 then some ((a - RUL.WINA 0 0) / 0x1000)
  else none

/-- The message-bus controller whose sealed words include `a`. -/
def mbOf (a : Nat) : Option Nat :=
  if MBUS.CTL 0 ≤ a ∧ a < MBUS.CTL 0 + 0x8000 then some ((a - MBUS.CTL 0) / 0x1000) else none

/-- A register word takes a new value with what its block does on a change: port modes (R202), PLCA off (R211), gates (R242), rings
(R383). -/
def State.takeWord (s : State) (a v : Nat) : State :=
  let b := a / 0x10000
  if 0x4010 ≤ b ∧ b < 0x4020 ∧ a % 0x10000 = 0 then s.portCtl (b - 0x4010) v
  else if 0x4010 ≤ b ∧ b < 0x4020 ∧ a % 0x10000 = 0x10 then
    let p := b - 0x4010
    let s := s.wrReg a v
    if s.f (PORT.PLCA_NODE_ID p) = 255 then s.setF (PORT.STAT_PLCA_UP p) 0 else s
  else
    let s := s.wrReg a v
    if SW.STCFG 0 ≤ a ∧ a < SW.STCFG 22 ∧ (a - SW.STCFG 0) % 0x10 = 0 then s.refreshGates ((a - SW.STCFG 0) / 0x10)
    else if SW.QCFG 0 ≤ a ∧ a < SW.QCFG 176 then s.refreshBuf
    else if NMG.RINGCFG 0 ≤ a ∧ a < NMG.RINGCFG 0 + 0x80 then s.ringSettle ((a - NMG.RINGCFG 0) / 0x20)
    else s

/-- Windows of instance `n` that do not apply, and marks that never fire, set CFGERR (R300, R301, R318). -/
def State.rulConfigOk (s : State) (n : Nat) : Bool :=
  let area (k : Nat) : Nat := min (max (s.f (RUL.LEN_LEN n k)) 30) 1500
  let win := s.regs.all (fun e =>
    let o := e.1 - RUL.WINA n 0
    if RUL.WINA n 0 ≤ e.1 ∧ o < 0x1000 ∧ o % 0x10 = 0 ∧ e.2.toNat % 2 = 1 then
      let w := o / 0x10
      let i := s.f (RUL.WINB_IMG n w)
      let owned := !(s.on (RUL.WINC_OV n w) && s.on (RUL.WINA_DIR n w))
        || (s.f (PLT.IMGCFG_WRK i) == 0 && s.f (PLT.IMGCFG_WKEY i) == s.f (RUL.WINC_OWNKEY n w))
      decide (s.f (RUL.WINA_OFFSET n w) + s.f (RUL.WINA_LEN n w) ≤ area (s.f (RUL.WINA_FRAME n w))) && owned
    else true)
  let marks := (List.range 16).all (fun m => !s.on (RUL.MARK_EN n m) || decide (s.markOffset n m < s.ttCycle n))
  win && marks

/-- Changed words of instance `n` take effect: CFGERR is set where they are wrong. -/
def State.rulChanged (s : State) (n : Nat) : State := if s.rulConfigOk n then s else s.setF (RUL.STAT_CFGERR n) 1

/-- Does draft copy `e` differ from its running value? -/
def State.draftDiffers (s : State) (e : Nat × Word) : Bool :=
  if e.1 ≥ 0xE0000000 then
    bitsOf (s.tblEntry ((e.1 - 0xE0000000) / 0x1000000) ((e.1 - 0xE0000000) % 0x1000000 / 0x10)) (32 * (e.1 / 4 % 4)) 32 != e.2.toNat
  else s.running e.1 != e.2.toNat

/-- Takes the draft copies whose address satisfies `p`: register words, with CTL.RUN kept (R297), and table entries. A boundary at which
a word changes marks the epoch (R521). -/
def State.takeDraft (s : State) (p : Nat → Bool) : State :=
  let l := s.draft.filter (fun e => p e.1)
  let changed := l.any s.draftDiffers
  let s := l.foldl (fun s e =>
    let a := e.1
    if a ≥ 0xE0000000 then
      let t := (a - 0xE0000000) / 0x1000000
      let i := (a - 0xE0000000) % 0x1000000 / 0x10
      s.tblPut t i (s.tblDraft t i)
    else
      match rulOf a with
      | some n => if a = RUL.CTL n then s.wrReg a (setBits e.2.toNat 0 1 (s.f (RUL.CTL_RUN n))) else s.wrReg a e.2.toNat
      | none =>
        match mbOf a with
        | some _ => if s.running a = e.2.toNat then s else { s with mbPend := tabPut s.mbPend a e.2 }
        | none => s.takeWord a e.2.toNat) s
  let s := { s with draft := s.draft.filter (fun e => !p e.1) }
  let s := [0, 1, 2, 3, 4, 5, 6, 7].foldl (fun s k =>
    if s.f (MBUS.STAT_STATE k) = 0 ∨ s.f (MBUS.STAT_STATE k) = 4 then s.mbTake k else s) s
  if changed then s.epFlag 8 else s

/-- Does a draft copy differ from its running value? -/
def State.draftOpen (s : State) : Bool :=
  s.draft.any s.draftDiffers

/-- When every governing boundary has passed: DONE, RUNEPOCH, ARMED (R521). -/
def State.activationDone (s : State) : State :=
  if s.on OBS.ACTSTAT_ARMED && decide (s.actAt ≤ s.now) && !s.draftOpen && s.f LPE.STAT_NPEND == 0
      && (List.range 22).all (fun p => !s.on (SW.STCFG_PEND p)) then
    let e := s.f OBS.ACTEPOCH_E
    let s := s.setFs [(OBS.ACTSTAT_DONE, 1), (OBS.ACTSTAT_ARMED, 0), (OBS.ACTCTL_ARM, 0), (OBS.RUNEPOCH_E, e)]
    ({ s with draft := [], doneAt := s.ticks / 500000 }).postEvent 0x8D80 [e]
  else s

/-- STENCIL_CHANGE_OVER (R244, R521): a change-over is a governing boundary. -/
def execStencilChangeOver (p : Fin 22) (s : State) : Out :=
  let t := s.changeOver p
  .next (if s.on (SW.STCFG_PEND p) && !t.on (SW.STCFG_PEND p) then (t.epFlag 8).activationDone else t)

/-- The boundary of the words that belong to no Ruling instance (R520). -/
def State.otherBoundary (s : State) : State :=
  if s.on OBS.ACTSTAT_ARMED && decide (s.actAt ≤ s.now) then
    (s.takeDraft (fun a => (rulOf a).isNone)).activationDone
  else s

/-- Does the boundary of the other words lie at a cycle start of instance `n`? -/
def State.refBoundary (s : State) (n : Nat) : Bool :=
  s.on OBS.ACTCTL_REFEN && s.f OBS.ACTCTL_REFTT == n && s.ttRuns n

/-- What activation does at a cycle start of instance `n` (R297, R520). -/
def State.rulBoundary (s : State) (n : Nat) : State :=
  if s.on OBS.ACTSTAT_ARMED && decide (s.actAt ≤ s.now) then
    let other := s.refBoundary n
    let x := tabGet s.rul RulSt.reset n
    let s : State := { s with rul := tabPut s.rul n { x with bound := some (x.bound.getD (s.now - s.ttOffset n s.now)) } }
    ((s.takeDraft (fun a => rulOf a == some n)).rulChanged n |> fun s => if other then s.takeDraft (fun a => (rulOf a).isNone) else s).activationDone
  else s

/-- A write of ARM = 1 (R520, R244). -/
def State.arm (s : State) : State :=
  if s.on OBS.ACTSTAT_ARMED then s
  else
    let t := s.fullTime (s.f OBS.ACTNS_NS) (s.f OBS.ACTSEC_SEC)
    if t ≤ s.now then s.setFs [(OBS.ACTSTAT_LATE, 1), (OBS.ACTCTL_ARM, 0)]
    else
      let fresh (e : Nat × RulSt) : Nat × RulSt := (e.1, { e.2 with bound := none })
      let s : State := { s.setFs [(OBS.ACTSTAT_ARMED, 1), (OBS.ACTCTL_ARM, 1)] with actAt := t, rul := s.rul.map fresh }
      let s := s.stMark.foldl (fun s p => { s.setF (SW.STCFG_PEND p) 1 with stFrom := tabPut s.stFrom p (t, s.on (SW.STCFG_EN p)) }) s
      { s with stMark := [] }

/-- A write of a sealed RUL word by the Keyblock or the debug port with DMODE = 0 (R297): at the next cycle start while the instance
runs, at once while it does not, and then in place of one that still waits; a node that FSIL makes silent is so at once (R296). -/
def State.rulDirect (s : State) (n a v : Nat) : State :=
  if s.ttRuns n then { s with rulPend := tabPut s.rulPend a (BitVec.ofNat 32 v) }
  else (({ s with rulPend := tabDel s.rulPend a }.wrReg a v).rulChanged n).refreshSilent n false

/-- The direct writes that waited for this cycle start. -/
def State.rulTakeDirect (s : State) (n : Nat) : State :=
  let l := s.rulPend.filter (fun e => rulOf e.1 == some n)
  if l.isEmpty then s
  else
    let s := l.foldl (fun s e =>
      s.wrReg e.1 (if e.1 = RUL.CTL n then setBits e.2.toNat 0 1 (s.f (RUL.CTL_RUN n)) else e.2.toNat)) s
    ({ s with rulPend := s.rulPend.filter (fun e => rulOf e.1 != some n) }).rulChanged n

end Sys2Proof.Machine
end

