-- ==== Sys2Proof/Machine/Ruling.lean ====
section
/-! DEFINITION. Ruling instances (chapter 10): channels and frames, windows, the ring on the fly, star and multidrop, cold start, and the
receive checks of the MACs (R219). -/
namespace Sys2Proof.Machine

def State.ru (s : State) (n : Nat) : RulSt := tabGet s.rul RulSt.reset n
def State.setRu (s : State) (n : Nat) (x : RulSt) : State := { s with rul := tabPut s.rul n x }

/-! ## Channels (Table 10.1) -/

/-- Does a port carry a mode that Table 10.1 allows? -/
def State.chModeOk (s : State) (n p : Nat) : Bool :=
  let m := s.portMode p
  if s.topo n = 2 then decide (8 ≤ p) && decide (p < 12)
  else if p < 8 then
    m == 4 || (m == 0 && (s.f (PORT.STAT_SPEED p) == 2 || (s.f (PORT.STAT_SPEED p) == 1 && s.on (PORT.STAT_FDX p))))
  else decide (12 ≤ p) && (m == 0 || m == 1)

/-- The checks of R291. -/
def State.rulChecks (s : State) (n : Nat) : Bool :=
  [0, 1].all (fun c =>
    !s.chOn n c || (
      let ps := s.chPorts n c
      let others := (if s.chOn n (1 - c) then s.chPorts n (1 - c) else [])
        ++ [0, 1, 2, 3].flatMap (fun m =>
            if m ≠ n ∧ s.ttRuns m then [0, 1].flatMap (fun d => if s.chOn m d then s.chPorts m d else []) else [])
      ps.all (fun p => s.chModeOk n p && (s.pairOf p).isNone && !others.contains p)
        && (s.topo n != 0 || s.portBit (s.chOut n c) == s.portBit (s.chRet n c))))

/-! ## Frames (Table 10.2) -/

/-- AREA of frame `k`. -/
def State.rulArea (s : State) (n k : Nat) : Nat := min (max (s.f (RUL.LEN_LEN n k)) 30) 1500

/-- A frame without FCS: byte 15 `flags`, payload area. -/
def State.rulFrame (s : State) (n typ flags cyc sender : Nat) (area : List Byte) : List Byte :=
  s.rulDa n ++ beBytes 2 (s.f RUL.SAH_A) ++ beBytes 4 (s.f RUL.SAL_A) ++ beBytes 2 (s.f RUL.GLOB_ETYPE)
    ++ [BitVec.ofNat 8 (0x10 + typ), BitVec.ofNat 8 flags] ++ beBytes 2 area.length ++ beBytes 4 cyc ++ beBytes 2 sender
    ++ List.replicate 6 0 ++ area

/-- Fields of a received frame. -/
def rfVer (b : List Byte) : Nat := byteAt b 14 / 16
def rfType (b : List Byte) : Nat := byteAt b 14 % 16
def rfCh (b : List Byte) : Nat := b2n (bitOf (byteAt b 15) 7)
def rfDir (b : List Byte) : Nat := b2n (bitOf (byteAt b 15) 6)
def rfLoop (b : List Byte) : Bool := bitOf (byteAt b 15) 5
def rfRep (b : List Byte) : Nat := b2n (bitOf (byteAt b 15) 4)
def rfK (b : List Byte) : Nat := byteAt b 15 % 4
def rfCycle (b : List Byte) : Nat := beNat (sub b 18 4)
def rfSender (b : List Byte) : Nat := be16 b 22
def rfClaim (b : List Byte) : Nat := be16 b 24
def rfArea (b : List Byte) : List Byte := sub b 30 (be16 b 16)

/-- The instance and channel that take a frame received on `p` (R299). -/
def State.rulMatch (s : State) (p : Nat) (b : List Byte) : Option (Nat × Nat) :=
  ([0, 1, 2, 3].flatMap (fun n => [(n, 0), (n, 1)])).find? (fun x =>
    s.ttRuns x.1 && s.chOn x.1 x.2 && (s.chPorts x.1 x.2).contains p && s.rulFits x.1 x.2 b)

/-- A Ruling frame is due at port `p`, with a good or an inverted FCS. It starts as soon as the frame in transmission, if any, has ended; the port
starts no other before it (R295). A frame of the switch that has not started, because it still waits for the medium, goes back to its queue. -/
def State.rulSend (s : State) (p : Nat) (b : List Byte) (good : Bool) : State :=
  let fr := rulingFrame b good
  let x := s.port p
  if !s.portUp p then s
  else
    match x.tx with
    | none => s.rulStart p fr
    | some (c, held) =>
      if c < 8 ∧ x.backoff.isSome ∧ x.tries = 0 ∧ held.due = none then (s.setQueue (8 * p + c) (held :: s.queue (8 * p + c))).rulStart p fr
      else s.setPort p { x with rulq := x.rulq ++ [fr] }

/-! ## Windows (R300–R302) -/

/-- Enabled windows of (n, channel, frame) in one direction that apply to an area of `len` bytes, lowest first. -/
def State.windows (s : State) (n c k dir len : Nat) : List Nat :=
  s.regs.filterMap (fun e =>
    let o := e.1 - RUL.WINA n 0
    if RUL.WINA n 0 ≤ e.1 ∧ o < 0x1000 ∧ o % 0x10 = 0 then
      let v := e.2.toNat
      let l := bitsOf v 16 11
      if bitOf v 0 ∧ bitsOf v 1 1 = c ∧ bitsOf v 2 2 = k ∧ bitsOf v 4 1 = dir ∧ l ≠ 0 ∧ bitsOf v 5 11 + l ≤ len then some (o / 0x10)
      else none
    else none)

/-- Bytes of the write windows of a frame as staged now. -/
def State.windowBytes (s : State) (n c k len : Nat) : List (Nat × List Byte) :=
  (s.windows n c k 1 len).filterMap (fun w =>
    let i := s.f (RUL.WINB_IMG n w)
    let ours := !s.on (RUL.WINC_OV n w) || (s.f (PLT.IMGCFG_WRK i) == 0 && s.f (PLT.IMGCFG_WKEY i) == s.f (RUL.WINC_OWNKEY n w))
    if ours then (s.winStage.find? (fun e => e.1 == n * 256 + w)).map (fun e => (w, e.2.take (s.f (RUL.WINA_LEN n w)))) else none)

/-- Substitutes window bytes, the higher-numbered window last (R300). -/
def State.putWindows (s : State) (n : Nat) (l : List (Nat × List Byte)) (area : List Byte) : List Byte :=
  l.foldl (fun a e => patch a (s.f (RUL.WINA_OFFSET n e.1)) e.2) area

/-- A read window's bytes go to the write buffer of its image, when the instance is its writer, through the instance's queue; a write that finds no
credits there is made late, and counted (R302, R34). -/
def State.storeWindow (s : State) (n w : Nat) (area : List Byte) : State :=
  let i := s.f (RUL.WINB_IMG n w)
  if s.on (PLT.IMGCFG_EN i) && s.isWriter i (rqTT n) then
    let len := s.f (RUL.WINA_LEN n w)
    let s := if s.mayIssue (0xA8 + n) 0 len true then s else s.bump (RUL.CNTB_IMGLATE n)
    ((s.lendQ (0xA8 + n) 0 len true).plateWrite (rqTT n) (s.imgBuf i (s.imgW i) + s.f (RUL.WINB_IMGOFF n w))
      (sub area (s.f (RUL.WINA_OFFSET n w)) (s.f (RUL.WINA_LEN n w)))).2
  else s

/-- Every read window of a list takes its bytes from `area`. -/
def State.storeWindows (s : State) (n : Nat) (l : List Nat) (area : List Byte) : State :=
  l.foldl (fun s w => s.storeWindow n w area) s

/-- A payload area before any window: its bytes are free values. -/
def State.freeArea (s : State) (len : Nat) : List Byte × State :=
  ((List.range len).map (fun i => Config.freeByte s.freeIx i), { s with freeIx := s.freeIx + 1 })

/-! ## States (Table 10.6) -/

/-- A change of STATE or MASTER (R317, Table 17.5); a node that is no master any more may be silent at once (R296). -/
def State.setRul (s : State) (n st master : Nat) : State :=
  if s.f (RUL.STAT_STATE n) = st ∧ s.f (RUL.STAT_MASTER n) = master then s
  else (((s.setFs [(RUL.STAT_STATE n, st), (RUL.STAT_MASTER n, master)]).kevt 7).refreshSilent n false).postEvent 0x8680 [n, st, master]

/-- STAT.LOOPA or LOOPB. -/
def loopFld (n c : Nat) : FldAt := if c = 0 then RUL.STAT_LOOPA n else RUL.STAT_LOOPB n

/-- Counters. -/
def State.cycMism (s : State) (n : Nat) : State := s.bump (RUL.CNTB_CYCMISM n)

/-! ## The ring (R303–R308) -/

/-- STAT.LOOPA or LOOPB follows the two ports of the channel at each copy (R306). -/
def State.ringLoops (s : State) (n c : Nat) : State :=
  let looping := !s.portUp (s.chOut n c) || !s.portUp (s.chRet n c)
  if s.on (loopFld n c) == looping then s else (s.setF (loopFld n c) (b2n looping)).kevt 7

/-- A copy leaves a ring node by `q`, or turns back on `p` with LOOP = 1 while `q` is not UP (R306). -/
def State.ringOn (s : State) (n c p : Nat) (b : List Byte) (good : Bool) : State :=
  let q := if p = s.chOut n c then s.chRet n c else s.chOut n c
  let s := s.ringLoops n c
  if s.portUp q then s.rulSend q b good
  else s.rulSend p (patch b 15 [BitVec.ofNat 8 (setBits (byteAt b 15) 5 1 1)]) good

/-- Both copies of a pair are back (R305). -/
def State.rulDeliver (s : State) (n c k : Nat) (o r : Nat × List Byte) : State :=
  let key := c * 4 + k
  let t := match (s.ru n).launched.find? (fun e => e.1 == key) with | some (_, t, _) => t | none => s.now
  let s := ({ s with rulDone := tabPut s.rulDone (n * 8 + key) 2 }.countG (17 + 2 * n)).sample 6 (n + c * 4 + k * 8) (s.now - t)
  let nodes := min (max (s.f (RUL.NODE_NODES n)) 1) 512
  if o.1 + r.1 > nodes then s.bump (RUL.CNTB_POSERR n)
  else
    let l := s.windows n c k 0 o.2.length
    let pos (w : Nat) : Nat := s.f (RUL.WINC_POS n w)
    let missing := l.any (fun w => decide (o.1 < pos w) && decide (pos w ≤ nodes - r.1))
    let s := if missing then s.bump (RUL.CNTA_MISSING n) else s
    l.foldl (fun s w =>
      if pos w ≤ o.1 then s.storeWindow n w o.2
      else if pos w > nodes - r.1 then s.storeWindow n w r.2
      else s) s

/-- A copy returns to the master. -/
def State.rulReturn (s : State) (n c : Nat) (b : List Byte) (good : Bool) : State :=
  let k := rfK b
  let key := c * 4 + k
  let s := s.ringLoops n c
  let x := s.ru n
  let s :=
    if rfLoop b then
      let s' := s.setRu n { x with loopSeen := c :: x.loopSeen, looped := if x.looped.contains c then x.looped else c :: x.looped }
      if x.looped.contains c then s' else s'.postEvent 0x8680 [n, s.f (RUL.STAT_STATE n), s.f (RUL.STAT_MASTER n), 1 + c]
    else s
  if rfCycle b ≠ s.f (RUL.CYCNT_N n) then s.cycMism n
  else
    let x := s.ru n
    let s := s.setRu n { x with back := tabPut x.back (key * 4 + rfRep b * 2 + rfDir b) (good, rfClaim b, rfArea b) }
    if !good || tabHas s.rulDone (n * 8 + key) then s
    else
      let at_ (d : Nat) : Option (Nat × List Byte) :=
        match (s.ru n).back.find? (fun e => e.1 == key * 4 + rfRep b * 2 + d) with
        | some (_, true, cl, a) => some (cl, a)
        | _ => none
      match at_ 0, at_ 1 with
      | some o, some r => s.rulDeliver n c k o r
      | _, _ => s

/-! ## Launches (R295, R307) -/

/-- Launches a pair of summation frame `k` now: the original pair with the windows as staged, the repair pair with the bytes of the original
(R302). DEDUCED (R306): a copy whose port is not UP turns back in the master, with LOOP = 1. -/
def State.pairNow (s : State) (n c k rep : Nat) : State :=
  let id := s.f (RUL.NODE_NODEID n)
  let key := c * 4 + k
  let x := s.ru n
  let r : List Byte × State :=
    if rep = 0 then
      let y := s.freeArea (s.rulArea n k)
      let area := y.2.putWindows n (y.2.windowBytes n c k (s.rulArea n k)) y.1
      (area, y.2.setRu n { x with launched := tabPut x.launched key (s.now, area) })
    else
      ((tabGet x.launched (0, []) key).2, (s.setRu n { x with repaired := key :: x.repaired }).bump (RUL.CNTA_REPAIRS n))
  let area := r.1
  let s := r.2
  let fl := c * 128 + rep * 16 + k
  let cyc := s.f (RUL.CYCNT_N n)
  [(s.chOut n c, fl), (s.chRet n c, fl + 64)].foldl (fun (s : State) e =>
    if s.portUp e.1 then s.rulSend e.1 (s.rulFrame n 1 e.2 cyc id area) true
    else s.rulReturn n c (s.rulFrame n 1 (e.2 + 32) cyc id area) true) s

/-- Are both ports of a ring channel free? -/
def State.pairFree (s : State) (n c : Nat) : Bool := [s.chOut n c, s.chRet n c].all (fun p => !s.portUp p || (s.port p).tx.isNone)

/-- A pair is due: it leaves at the first instant both ports are free (R307). -/
def State.launchPair (s : State) (n c k rep : Nat) : State :=
  if s.pairFree n c then s.pairNow n c k rep else s.setRu n { s.ru n with wait := (s.ru n).wait ++ [(c, k, rep)] }

/-- The pairs that waited for their ports leave where these are free now. -/
def State.pairsGo (s : State) : State :=
  [0, 1, 2, 3].foldl (fun (s : State) n =>
    (s.ru n).wait.foldl (fun (s : State) w =>
      if s.pairFree n w.1 then (s.setRu n { s.ru n with wait := (s.ru n).wait.filter (fun x => x != w) }).pairNow n w.1 w.2.1 w.2.2
      else s) s) s

/-- Frame `k` of a channel is due (R295, R296). -/
def State.rulLaunch (s : State) (n c k : Nat) : State :=
  let st := s.f (RUL.STAT_STATE n)
  let s := s.refreshSilent n false
  if !s.chOn n c || decide (k > s.f (RUL.CTL_NFRAME n)) then s
  else if s.rulLaunches n then
    if s.topo n = 0 then s.launchPair n c k 0
    else
      let len := s.rulArea n k
      let x := s.freeArea len
      let s := x.2
      let area := s.putWindows n (s.windowBytes n c k len) x.1
      let b := s.rulFrame n (if st = 3 then 2 else 3) (c * 128 + k) (s.f (RUL.CYCNT_N n)) (s.f (RUL.NODE_NODEID n)) area
      (s.chPorts n c).foldl (fun s p => s.rulSend p b true) s
  else s

/-- The repair pair of frame `k` (R307). -/
def State.rulRepair (s : State) (n c k : Nat) : State :=
  let key := c * 4 + k
  let x := s.ru n
  if s.on (RUL.CTL_REPAIR n) && s.f (RUL.RPT_RPT n k) != 0 && s.f (RUL.STAT_STATE n) == 3 && s.topo n == 0
      && tabGet s.rulDone 0 (n * 8 + key) != 2 && !x.repaired.contains key && !x.wait.contains (c, k, 1) && tabHas x.launched key then
    s.launchPair n c k 1
  else s

/-- The fields that tell a copy from the other of its pair (R303). -/
def rfCopy (b : List Byte) : Nat × Nat × Nat × Bool × Nat := (rfType b, rfK b, rfRep b, rfLoop b, rfCycle b)

/-- Does the copy with DIR = 0 of the same pair have its byte 15 complete at this very edge (R303)? No time passes while a command waits. -/
def State.twinWaits (s : State) (n c : Nat) (b : List Byte) : Bool :=
  let twin (p : Fin 16) (d : List Byte) : Bool := rfDir d == 0 && rfCopy d == rfCopy b && s.rulMatch p d == some (n, c)
  s.pending.any (fun i => match i with | .frameReceive p d _ _ => twin p d | .rulingFrameReceive p d => twin p d | _ => false)

/-- A member takes a copy on the fly (R303, R304). -/
def State.rulMember (s : State) (n c p : Nat) (b : List Byte) (good : Bool) : State :=
  let s := s.refreshSilent n false
  let id := c * 8 + rfK b * 2 + rfRep b
  let x := s.ru n
  if rfCycle b ≠ s.f (RUL.CYCNT_N n) then (s.cycMism n).ringOn n c p b good
  else if rfLoop b ∨ rfType b ≠ 1 ∨ x.claims.contains id ∨ (rfDir b = 1 ∧ s.twinWaits n c b) then s.ringOn n c p b good
  else
    let silent := s.on (RUL.STAT_SILENT n)
    let key := c * 4 + rfK b
    let area := rfArea b
    let wb := if silent then [] else
      match x.used.find? (fun e => e.1 == key && rfRep b == 1) with
      | some e => e.2
      | none => s.windowBytes n c (rfK b) area.length
    let out := patch b 24 (beBytes 2 (rfClaim b + 1))
    let out := if silent then out else patch out 26 (beBytes 2 (be16 b 26 + 1))
    let out := patch out 30 (s.putWindows n wb area)
    let s := s.setRu n { x with claims := id :: x.claims, heard := true, used := tabPut x.used key wb }
    let s := if s.f (RUL.STAT_STATE n) = 1 ∨ s.f (RUL.STAT_STATE n) = 4 then s.setRul n 4 (rfSender b % 1024) else s
    let s := s.ringOn n c p out good
    if !good || silent then s
    else
      let s := s.storeWindows n (s.windows n c (rfK b) 0 area.length) area
      { s with rulDone := tabPut s.rulDone (n * 8 + key) 3 }

/-! ## Star and multidrop (R310–R317) -/

/-- Entry to LISTEN of a node. -/
def State.rulListen (s : State) (n : Nat) : State :=
  (s.setRul n 1 (s.f (RUL.STAT_MASTER n))).setRu n { s.ru n with quiet := 0, next := none }

/-- The node's own processing of a good frame (Tables 10.3, 10.6). -/
def State.rulRole (s : State) (n c : Nat) (b : List Byte) : State :=
  let st := s.f (RUL.STAT_STATE n)
  let me := s.f (RUL.NODE_NODEID n)
  let snd := rfSender b
  let ty := rfType b
  let area := rfArea b
  let ws := s.windows n c (rfK b) 0 area.length
  if st = 0 then s
  else if (ty = 2 ∨ ty = 4) ∧ snd = me then
    ((s.bump (RUL.CNTB_DUPID n)).postEvent 0x8E81 [n, me]).rulListen n
  else if ty = 4 then (if st = 2 ∧ snd < me then s.rulListen n else s)
  else if rfCycle b ≠ s.f (RUL.CYCNT_N n) then s.cycMism n
  else if ty = 2 then
    match st with
    | 1 => (((s.setRul n 4 (snd % 1024)).setRu n { s.ru n with heard := true, quiet := 0 }).storeWindows n ws area)
    | 3 => if snd < me then s.setRu n { s.ru n with next := some snd } else s
    | 4 => (((s.setRul n 4 (snd % 1024)).setRu n { s.ru n with heard := true }).storeWindows n ws area)
    | _ => s
  else if ty = 3 then
    if st = 3 then s.storeWindows n (ws.filter (fun w => s.f (RUL.WINC_POS n w) == snd)) area
    else if st = 4 then s.storeWindows n (ws.filter (fun w => s.f (RUL.WINC_POS n w) == snd && s.f (RUL.WINC_POS n w) != me)) area
    else s
  else s

/-- A type 4 frame on a guarded branch while the instance is in RUN_MASTER or RUN_MEMBER: a violation, and no frame that starts in an acceptance
interval (R310, R312). -/
def State.guardClaim (s : State) (n p : Nat) : State :=
  let s := s.bump (SW.GDSTAT_VIOL p)
  if s.on (SW.GDSTAT_ISO p) then s.setGd p ⟨false, true, 0⟩ else (s.setGd p { s.gdOf p with sent := true }).violation n p

/-- A Ruling frame at a star or multidrop port. -/
def State.rulStar (s : State) (n c p : Nat) (b : List Byte) (good : Bool) (at16 : Nat) : State :=
  let st := s.f (RUL.STAT_STATE n)
  let central := s.topo n == 1 && s.chMask n c != 0
  let g : Option (Option Nat) × State :=
    if central ∧ (st = 3 ∨ st = 4) then
      if rfType b = 4 ∧ s.on (SW.GDCFG_EN n) then (none, s.guardClaim n p)
      else s.guardian p at16 (b.length + 4)
    else (some none, s)
  let s := g.2
  if rfVer b ≠ 1 ∨ rfType b = 0 ∨ rfType b > 4 then s.cycMism n
  else
    match g.1 with
    | none => s
    | some cut =>
      let out := match cut with | some k => b.take k | none => b
      let ok := good && cut.isNone
      let s := if central then (s.chPorts n c).foldl (fun s q => if q = p then s else s.rulSend q out ok) s else s
      if ok then s.rulRole n c b else s

/-- A frame that R299 gives to instance `n`, channel `c`; one with a bad FCS is counted (Table 10.10). It crosses the die link (R32). -/
def State.rulRx (s : State) (n c p : Nat) (b : List Byte) (good : Bool) (at16 : Nat) : State :=
  let s := s.lendFrame 0xC1 0 (b.length + 4)
  let s := if good then s else s.bump (RUL.CNTA_BADFCS n)
  if s.topo n ≠ 0 then s.rulStar n c p b good at16
  else if rfVer b ≠ 1 ∨ rfType b = 0 ∨ rfType b > 4 then (s.cycMism n).ringOn n c p b good
  else if s.f (RUL.STAT_STATE n) = 3 then (if rfType b = 1 then s.rulReturn n c b good else s)
  else if s.f (RUL.STAT_STATE n) = 0 then s.ringOn n c p b good
  else s.rulMember n c p b good

/-! ## Cycle boundaries -/

/-- RDL of frame `k` passes: copies launched and not returned count as LOST, whether or not the other pair was delivered, and no pair is delivered
after it (R305). -/
def State.rulDeadline (s : State) (n c k : Nat) : State :=
  let key := c * 4 + k
  let x := s.ru n
  if x.judged.contains key then s
  else
    let lost (rep : Nat) : Nat := ([0, 1].filter (fun d => !tabHas x.back (key * 4 + rep * 2 + d))).length
    let k0 := if tabHas x.launched key then lost 0 else 0
    let k1 := if x.repaired.contains key then lost 1 else 0
    let s := ((s.bump (RUL.CNTA_LOST n) (k0 + k1)).countG (18 + 2 * n) (k0 + k1)).setRu n { x with judged := key :: x.judged }
    if tabHas s.rulDone (n * 8 + key) then s else { s with rulDone := tabPut s.rulDone (n * 8 + key) 1 }

/-- Loopback left after LBCLR cycles without a looped copy (R308). -/
def State.rulLoops (s : State) (n : Nat) : State :=
  [0, 1].foldl (fun s c =>
    let x := s.ru n
    if x.loopSeen.contains c then s.setRu n { x with loopFree := tabPut x.loopFree c 0 }
    else
      let k := tabGet x.loopFree 0 c + 1
      let s := s.setRu n { x with loopFree := tabPut x.loopFree c k }
      if x.looped.contains c ∧ k ≥ max (s.f (RUL.CS2_LBCLR n)) 1 then
        (s.setRu n { s.ru n with looped := x.looped.filter (fun d => d != c) }).postEvent 0x8680
          [n, s.f (RUL.STAT_STATE n), s.f (RUL.STAT_MASTER n), 0]
      else s) s

/-- The watch of each branch at a cycle start (R312). -/
def State.rulWatch (s : State) (n : Nat) : State :=
  (List.range 16).foldl (fun s p =>
    if s.guardOf p = some n then
      let g := s.gdOf p
      s.setGd p (if g.silent then { g with sent := false, ok := g.ok + 1 }
        else if g.sent then { g with sent := false } else ⟨true, false, 0⟩)
    else s) s

/-- What the completed cycle leaves: FVAL, missing masters, and the marks of the new cycle. -/
def State.rulClose (s : State) (n : Nat) : State :=
  let frames := (List.range 8).filter (fun key => s.f (RUL.STAT_STATE n) == 3 && tabHas (s.ru n).launched key)
  let s := frames.foldl (fun s key => s.rulDeadline n (key / 4) (key % 4)) s
  let bits := s.deliveredBits n
  let s := s.setFs [(RUL.STAT_FVALA n, bits % 16), (RUL.STAT_FVALB n, bits / 16)]
  let s := s.rulLoops n
  let x := s.ru n
  let quiet : Nat := if x.heard then 0 else x.quiet + 1
  let s := s.setRu n { x with claims := [], heard := false, quiet := quiet, launched := [], used := [], back := [], repaired := [], loopSeen := [],
                                  wait := [], judged := [] }
  let s : State := { s with rulDone := s.rulDone.filter (fun e => e.1 / 8 != n) }
  if s.f (RUL.STAT_STATE n) = 4 ∧ quiet ≥ max (s.f (RUL.CS2_CSLOSS n)) 1 then s.rulListen n else s

/-- Transitions at a cycle start (R297, R314–R316); RUN = 0, or checks that failed when RUN was set, are STOPPED (Table 10.6). -/
def State.rulAdvance (s : State) (n : Nat) : State :=
  let st := s.f (RUL.STAT_STATE n)
  let x := s.ru n
  let me := s.f (RUL.NODE_NODEID n)
  if !s.on (RUL.CTL_RUN n) || !x.ok then (if st = 0 then s else s.setRul n 0 (s.f (RUL.STAT_MASTER n)))
  else if st = 0 then
    if x.runAt + 1000 ≤ s.now then
      (if s.topo n = 0 ∧ s.on (RUL.CTL_ROLE n) then s.setRul n 3 me else s.rulListen n)
    else s
  else if st = 2 ∧ x.claimAt + s.ttCycle n ≤ s.now then s.setRul n 3 me
  else if st = 3 then
    match x.next with
    | some m => (s.setRul n 4 (m % 1024)).setRu n { x with next := none, quiet := 0 }
    | none => s
  else s

/-- CYCLE_START (R294, R297, R313–R318). -/
def execCycleStart (n : Fin 4) (s : State) : Out :=
  let s := s.rulClose n
  let s := (s.rulTakeDirect n).rulBoundary n
  let s := s.rulAdvance n
  let s := (s.refreshSilent n true).rulWatch n
  .next (s.setF (RUL.CYCNT_N n) (s.ttNumber n s.now))

/-- A write of CTL.RUN (R291, R297, R313): every write of 1 makes the checks; an instance that runs, or whose RUN is set, keeps the rest. -/
def State.runSet (s : State) (n : Nat) (run : Bool) : State :=
  if run then
    let ok := s.rulChecks n
    let x := s.ru n
    let set := s.on (RUL.CTL_RUN n) && x.ok
    let s := (s.setF (RUL.CTL_RUN n) 1).setRu n
      (if s.f (RUL.STAT_STATE n) ≠ 0 ∨ set then { x with ok := ok } else { RulSt.reset with ok := ok, runAt := s.now, bound := x.bound })
    if ok then s else s.setF (RUL.STAT_CFGERR n) 1
  else s.setF (RUL.CTL_RUN n) 0

/-- RUN_SET (R291, R297). -/
def execRunSet (rq : Rq) (n : Fin 4) (run : Bool) (s : State) : Out :=
  if isKbDbg rq.id.toNat then .next ((s.runSet n run).answer 0) else .next (s.answer 2)

/-- RULING_FRAME_LAUNCH (R295). -/
def execRulingFrameLaunch (n : Fin 4) (c : Fin 2) (k : Fin 4) (s : State) : Out := .next (s.rulLaunch n c k)

/-- RETURN_DEADLINE (R305). -/
def execReturnDeadline (n : Fin 4) (c : Fin 2) (k : Fin 4) (s : State) : Out := .next (s.rulDeadline n c k)

/-- REPAIR_POINT (R307). -/
def execRepairPoint (n : Fin 4) (c : Fin 2) (k : Fin 4) (s : State) : Out := .next (s.rulRepair n c k)

/-- LISTEN_TIMER_EXPIRY (R315): one claim frame on every port of the enabled channels, then CLAIM. -/
def execListenTimerExpiry (n : Fin 4) (s : State) : Out :=
  if s.f (RUL.STAT_STATE n) = 1 ∧ s.on (RUL.CTL_CSTART n) ∧ s.topo n ≠ 0 then
    let s := [0, 1].foldl (fun s c =>
      if s.chOn n c then
        (s.chPorts n c).foldl (fun s p =>
          s.rulSend p (s.rulFrame n 4 (c * 128) (s.f (RUL.CYCNT_N n)) (s.f (RUL.NODE_NODEID n)) (List.replicate 30 0)) true) s
      else s) s
    .next ((s.setRul n 2 (s.f (RUL.STAT_MASTER n))).setRu n { s.ru n with claimAt := s.now })
  else .next s

/-! ## Frames at a MAC (R207, R219, R237) -/

/-- The FCS of received bytes is good. -/
def fcsGood (b : List Byte) : Bool := decide (4 ≤ b.length) && sub b (b.length - 4) 4 == fcsOf (b.take (b.length - 4))

/-- Bytes held in a port's staging buffer. -/
def State.staged (s : State) (p : Nat) : Nat := (s.port p).rx.foldl (fun n f => n + f.len) 0

/-- A frame goes to the staging buffer of its port (R237); its first byte starts the clock of the port's pipeline (R261). -/
def State.stage (s : State) (p : Nat) (b : List Byte) (bad : Bool) : State :=
  let body := b.take (b.length - 4)
  let s := { s with clkStop := s.clkStop.filter (fun x => x != p) }
  if s.staged p + b.length > 4096 ∧ !(s.port p).rx.isEmpty then s.countExt p 10
  else
    let fr : Frame :=
      { bytes := body, len := b.length, port := p, at_ := s.ingressTime p, rxst := rxst body, tagIn := false, vid := 0, pcp := 0
        colour := 0, stream := none, txrec := [], launch := none, tref := 0, ct := false, bad := bad, cut := false, epoch := s.stepNo
        cols := [], seg := 0, cells := (b.length + 255) / 256, tagOut := false, pairTag := 0, pairSeq := 0 }
    s.setPort p { s.port p with rx := (s.port p).rx ++ [fr] }

/-- A frame that fails a check of Table 7.8: counted; ended with a bad FCS where it has started cut-through (R207, R231). -/
def State.failFrame (s : State) (p : Nat) (b : List Byte) (fld : FldAt) (k : Nat) (started : Bool) : State :=
  let s := (s.bump fld).countExt p k
  if started then s.stage p b true else s

/-- The check of Table 7.8 that received bytes fail first: counter field and counter; the Ruling path knows no MAXFRM (R299). -/
def State.macFails (s : State) (p : Nat) (b : List Byte) (sym ruling : Bool) : Option (FldAt × Nat) :=
  if sym then some (PORT.ERRCNT0_SYMBOL p, 4)
  else if b.length < 64 then some (PORT.ERRCNT0_RUNT p, 2)
  else if b.length > s.maxFrm p ∧ !ruling then some (PORT.ERRCNT0_OVERSIZE p, 3)
  else if !fcsGood b then some (PORT.ERRCNT0_FCS p, 1)
  else none

/-- A received frame passes the checks of Table 7.8 in order; an oversize frame is cut at MAXFRM + 1 bytes. -/
def State.macReceive (s : State) (p : Nat) (b : List Byte) (sym started : Bool) : State :=
  match s.macFails p b sym false with
  | some (fld, k) => s.failFrame p (if k = 3 then b.take (s.maxFrm p + 1) else b) fld k started
  | none =>
    if be16 b 12 = 0x8808 ∧ be16 b 14 = 1 then
      let s := s.countExt p 5
      if started then s.stage p b true else s
    else (s.countExt p 0).stage p b false

/-- A frame received on port `p`: Ruling frames take the Ruling path (R228, R299), with the checks of Table 7.8: a copy in a ring passes on the
fly whatever they find, and leaves with an inverted FCS (R304); a runt has no Ruling fields. The MAC receives only in UP (R203). -/
def State.receive (s : State) (p : Nat) (b : List Byte) (sym started : Bool) : State :=
  if !s.portUp p then s
  else
    let s := s.plcaFrame p false b.length
    match s.rulMatch p b with
    | some (n, c) =>
      match s.macFails p b sym true with
      | some (fld, k) =>
        let s := (s.bump fld).countExt p k
        if k = 2 then s else s.rulRx n c p (b.take (b.length - 4)) false (s.ingressTime p)
      | none => (s.countExt p 0).rulRx n c p (b.take (b.length - 4)) true (s.ingressTime p)
    | none => s.macReceive p b sym started

/-- A loss of link: the frame still being received counts as a symbol error; where it has started cut-through its end is bad (R207). -/
def State.lossCut (s : State) (p : Nat) (cut : Option (List Byte × Bool)) (fast : Bool) : State :=
  let t := match cut with
    | some (b, started) =>
      if !s.portUp p then s
      else
        match s.rulMatch p b with
        | some (n, c) =>
          ((s.bump (PORT.ERRCNT0_SYMBOL p)).countExt p 4).rulRx n c p (b.take (b.length - 4)) false (s.ingressTime p)
        | none => s.failFrame p b (PORT.ERRCNT0_SYMBOL p) 4 started
    | none => s
  t.lossOfLink p fast

/-- LOSS_OF_LINK (R204, R207). -/
def execLossOfLink (loss : LinkLoss) (s : State) : Out :=
  .next (s.lossCut loss.port loss.cut false).pairsGo

/-- FAST_LINK_FAIL (R205–R207). -/
def execFastLinkFail (loss : LinkLoss) (s : State) : Out :=
  if s.fastApplies loss.port then .next (s.lossCut loss.port loss.cut true).pairsGo else .next s

/-- FRAME_TRANSMIT (R213); a pair that waited for the port may leave then (R307). -/
def execFrameTransmit (p : Fin 16) (s : State) : Out := .next (s.macSend p).pairsGo

/-- COLLISION (R208–R210): of a half-duplex frame that did not begin in a PLCA transmit opportunity. The port sends the jam; the back-off is
drawn at its end, 32 bit times later. -/
def execCollision (p : Fin 16) (late : Bool) (s : State) : Out :=
  let x := s.port p
  if x.tx.isNone || s.on (PORT.STAT_FDX p) || s.f (PORT.STAT_STATE p) != 3 || x.plcaTx || x.backoff.isSome then .next s
  else
    let s := s.emit (.jam p)
    if late then .next (((s.frameOver p).bump (PORT.ERRCNT1_LATECOL p)).countExt p 6).pairsGo
    else if x.tries + 1 ≥ 16 then .next (((s.frameOver p).bump (PORT.ERRCNT1_EXCOL p)).countExt p 7).pairsGo
    else
      let l := lfsrSteps 32 (s.lfsrNow p)
      .next (s.setPort p { x with tries := x.tries + 1, delayed := true, backoff := some (backoffSlots l (x.tries + 1)) })

/-- FRAME_RECEIVE (R219): bytes from the destination address to the FCS; a symbol or alignment error; the frame has started
cut-through. -/
def execFrameReceive (p : Fin 16) (bytes : List Byte) (symbolError started : Bool) (s : State) : Out :=
  .next (s.receive p bytes symbolError started)

/-- RULING_FRAME_RECEIVE (R299, R303): a frame that no instance takes is ordinary traffic. -/
def execRulingFrameReceive (p : Fin 16) (bytes : List Byte) (s : State) : Out := .next (s.receive p bytes false false)

end Sys2Proof.Machine
end

