-- ==== Sys2Proof/Machine/Bar2.lean ====
section
/-! DEFINITION. BAR2 windows (R48, R49, R51). -/
namespace Sys2Proof.Machine

/-- Does enabled window `w` of function `f` hold `n` bytes at offset `o`? -/
def State.winHolds (s : State) (f w o n : Nat) : Bool :=
  s.on (PCI.B2ATTR_EN f w) && decide (s.f (PCI.B2BASE_PAGE f w) * 4096 ≤ o) && decide (o + n ≤ (s.f (PCI.B2LIM_PAGE f w) + 1) * 4096)

/-- Response code of a BAR2 access of `n` bytes at offset `o` before it is performed. One that touches the sealed bank and Plate is PERM, one that
touches the sealed bank and the unmapped range above it DECERR (R38, R48; DESIGN CHOICE, log 71). -/
def State.bar2Code (s : State) (f o n : Nat) (write : Bool) : Nat :=
  if 0x1880000 < o + n then 1
  else if 0x1800000 < o + n then 2
  else
    match (List.range 8).find? (fun w => s.winHolds f w o n) with
    | none => 2
    | some w =>
      if s.on (PCI.B2ATTR_REGION_BOUND f w) && s.f (SYS.RGCTL_STATE (s.f (PCI.B2ATTR_REGION f w))) != 0 then 3
      else if s.on (if write then PCI.B2ATTR_WR f w else PCI.B2ATTR_RD f w) then 0
      else 2

/-- Splits `n` bytes at `a` at 64-byte blocks (R49). -/
def blockParts (a n : Nat) : List (Nat × Nat) := chunks 64 a n (n / 64 + 2)

end Sys2Proof.Machine
end

