-- ==== Sys2Proof/Machine/Sched.lean ====
section
/-! DEFINITION. The work scheduler (chapter 14): submission, selection and dispatch, take and done, core failure and its recovery,
templates, load accounting, Tracing. -/
namespace Sys2Proof.Machine

/-! ## Descriptors (Table 14.1) -/

def descWord (d : List Byte) (w : Nat) : Nat := leNat (sub d (4 * w) 4)
def descFlow (d : List Byte) : Nat := bitsOf (descWord d 0) 0 24
def descPrio (d : List Byte) : Nat := bitsOf (descWord d 0) 24 4
def descScope (d : List Byte) : Nat := bitsOf (descWord d 0) 28 2
def descPre (d : List Byte) : Bool := bitOf (descWord d 0) 30
def descTarget (d : List Byte) : Nat := bitsOf (descWord d 1) 0 4

/-- Order 3 of Table 14.3: reserved fields are 0 and TARGET is in range. -/
def descOk (d : List Byte) : Bool :=
  !bitOf (descWord d 0) 31 && bitsOf (descWord d 1) 4 12 == 0
    && (descScope d == 0 || descScope d == 3 || decide (descTarget d < 4))

/-- The target's region of SCOPE 0–2. -/
def descRegion (d : List Byte) : Option Nat :=
  match descScope d with
  | 0 => some (descTarget d / 4)
  | 3 => none
  | _ => some (descTarget d)

/-- Queue index of QSTATq. -/
def descQueue (d : List Byte) : Nat :=
  match descScope d with
  | 0 => descTarget d
  | 1 => 16 + descTarget d % 4
  | 2 => 20 + descTarget d % 4
  | _ => 24

def Item.flow (x : Item) : Nat := descFlow x.desc
def Item.prio (x : Item) : Nat := descPrio x.desc

/-- The whole descriptor: bytes 0–47 and what the scheduler writes (R393). -/
def Item.bytes (x : Item) : List Byte :=
  x.desc ++ [BitVec.ofNat 8 x.src, BitVec.ofNat 8 (b2n x.replay + 2 * b2n x.tpl.isSome)] ++ leBytes 2 (x.tpl.getD 0)
    ++ leBytes 4 (x.ord % 2 ^ 32) ++ leBytes 4 x.tacc ++ leBytes 4 x.tdel

/-! ## Cores -/

/-- Does `x` lie above `y` on their core? A pre-empting item has a higher PRIO than the item it found there (R401), so PRIO tells them apart even when
the lower level had ended before the take and both carry one level. -/
def Item.above (x y : Item) : Bool := decide (y.prio < x.prio) || (y.prio == x.prio && decide (y.level < x.level))

/-- The item at a core's top level: the one taken last of those that have not ended. -/
def State.topItem (s : State) (n : Nat) : Option Item :=
  (s.itemsAt n 2).foldl (fun b x => match b with | none => some x | some y => if x.above y then some x else some y) none

/-- The offer that waits for a core. -/
def State.offerOf (s : State) (n : Nat) : Option Item := (s.itemsAt n 1).head?

/-- R394. -/
def State.admitted (s : State) (n : Nat) : Bool :=
  s.on (WSC.CORECFG_EN n) && s.f (WSC.CORESTAT_STATE n) != 2 && s.f (SYS.RGCTL_STATE (n / 4)) == 0

/-- KEYBUSY of a failed core's keys: an item that is frozen, or repeats a failed run, carries the key (Table 14.7). -/
def State.keyBusy (s : State) (n : Nat) : Nat :=
  (List.range 4).foldl (fun m d => m + b2n (s.items.any (fun x => x.key == 192 + 4 * n + d && (x.st == 3 || x.replay))) * 2 ^ d) 0

/-- CORESTATn follows the items. -/
def State.refreshCore (s : State) (n : Nat) : State :=
  let st := if s.f (WSC.CORESTAT_STATE n) = 2 then 2
    else if !(s.on (WSC.CORECFG_EN n) && s.f (SYS.RGCTL_STATE (n / 4)) == 0) then 3
    else if s.depth n = 0 then 0 else 1
  s.setFs [(WSC.CORESTAT_STATE n, st), (WSC.CORESTAT_DEPTH n, s.depth n), (WSC.CORESTAT_OFFER n, b2n (s.offerOf n).isSome),
    (WSC.CORESTAT_KEYBUSY n, s.keyBusy n)]

/-- Every CORESTAT and STAT.FREE. -/
def State.refreshSched (s : State) : State :=
  let s := (List.range 16).foldl State.refreshCore s
  s.setF WSC.STAT_FREE (32768 - s.items.length)

/-- Replaces an item, by its order. -/
def State.putItem (s : State) (x : Item) : State := { s with items := s.items.map (fun y => if y.ord = x.ord then x else y) }

/-- QSTATq (Table 14.13). -/
def State.qstat (s : State) (q : Nat) : Nat :=
  let l := s.items.filter (fun x => x.st == 0 && descQueue x.desc == q)
  let oldest := match l.head? with | some x => min ((s.ticks - x.tick) / 500) 0xFFFF | none => 0
  min l.length 0xFFFF + oldest * 2 ^ 16

/-! ## Load accounting (R410) -/

/-- The end of a 10 ms interval. -/
def State.loadEnd (s : State) : State :=
  (List.range 16).foldl (fun s n =>
    let s := s.coreClock n
    let c := s.load0 n
    let s := s.setFs [(WSC.LOAD_LOAD n, min (c.busy * 65536 / 5000000) 0xFFFF), (WSC.LOAD_ITEMS n, min c.items 0xFFFF)]
    { s with coreLoad := tabPut s.coreLoad n ⟨c.upTo, 0, 0⟩ }) s

/-! ## Tracing (R411) -/

/-- With MODE = 1 a RAM that is full stops the recording and sets FULL. -/
def State.trcFull (s : State) : State := if s.on WSC.TRCTL_MODE && s.traceN == 16384 then s.setF WSC.TRCTL_FULL 1 else s

/-- Records an event: core and level, queue, SRC, FLOW and PRIO, SEQ. Where an event has no core or no SEQ the field is a free value. -/
def State.trc (s : State) (ev : Nat) (core : Option (Nat × Nat)) (d : List Byte) (src : Nat) (seq : Option Nat) : State :=
  if !s.on WSC.TRCTL_EN || (s.on WSC.TRCTL_MODE && (s.on WSC.TRCTL_FULL || s.traceN == 16384)) then s
  else
    let q1 := match core with | some c => (c.1 + c.2 * 16, s) | none => let r := s.free; (r.1.toNat % 64, r.2)
    let q2 := match seq with | some n => (n % 2 ^ 32, q1.2) | none => let r := q1.2.free; (r.1.toNat, r.2)
    let s := q2.2
    let w := s.f WSC.TRCTL_WPTR
    let e : List Nat := [s.nowNs, ev + q1.1 * 2 ^ 8 + descQueue d * 2 ^ 16 + src % 256 * 2 ^ 24, descFlow d + descPrio d * 2 ^ 24, q2.1]
    let t := ((List.range 4).zip e).foldl (fun m p => cellPut m 0 (4 * w + p.1) (BitVec.ofNat 32 p.2)) s.trace
    ({ s with trace := t, traceN := min (s.traceN + 1) 16384 }.setF WSC.TRCTL_WPTR ((w + 1) % 16384)).trcFull

def State.trcItem (s : State) (ev : Nat) (x : Item) (at_ : Bool) : State :=
  s.trc ev (if at_ then some (x.core, x.level) else none) x.desc x.src (some x.ord)

/-! ## Submission (R395–R398) -/

/-- The item is accepted (order 6). -/
def State.acceptItem (s : State) (d : List Byte) (src : Nat) (tpl : Option Nat) : State :=
  let x : Item := ⟨s.itemOrd, d, src, tpl, false, s.ticks, s.nowNs, 0, 0, 0, 0, 0, 0, 0, false⟩
  (({ s with items := s.items ++ [x], itemOrd := s.itemOrd + 1 }.countG 29).trcItem 1 x false).setF WSC.STAT_FREE (32768 - (s.items.length + 1))

/-- Orders 3–5 of Table 14.3: 0 accepted, else the order that decides. `kb`: the requester may use the reserve. -/
def State.itemOrder (s : State) (d : List Byte) (kb : Bool) : Nat :=
  let free := 32768 - s.items.length
  if !descOk d then 3
  else if (match descRegion d with | some r => s.f (SYS.RGCTL_STATE r) != 0 | none => false) then 4
  else if free = 0 ∨ (free ≤ s.f WSC.CFG_RSV ∧ !kb) then 5
  else 0

/-- May this requester submit? -/
def State.submitter (id : Nat) : Bool := id == 8 || (decide (0x10 ≤ id) && decide (id ≤ 0x27)) || (decide (0x30 ≤ id) && decide (id ≤ 0x3F))

/-- Register word of the requester's staging slot. -/
def stageAt (rq : Rq) (w : Nat) : Nat :=
  match rq.key with | some k => WSC.STGKEY k.toNat w | none => WSC.STGID (rq.id.toNat % 64) w

/-- Bytes 0–47 of the requester's staging slot. -/
def State.stagedDesc (s : State) (rq : Rq) : List Byte := (List.range 12).flatMap (fun w => leBytes 4 (s.rd (stageAt rq w)))

/-- A SUBMIT write (Table 14.3): response code and state. -/
def State.submitW (s : State) (rq : Rq) : Nat × State :=
  let d := s.stagedDesc rq
  let src := rq.id.toNat
  if !State.submitter src then (2, s)
  else if s.staleAt (s.rplValid 1) (fun k => s.f (WSC.RPL_LAST_COS k)) rq.key rq.cos.toNat then
    (0, ((s.bump WSC.CNT_ABSORBED).countG 30).trc 2 none d src none)
  else
    match s.itemOrder d (src == 8) with
    | 3 => (2, (s.bump WSC.CNT_BADDESC).trc 3 none d src none)
    | 4 => (3, s.trc 3 none d src none)
    | 5 => (2, ((s.bump WSC.CNT_REFUSED).countG 31).trc 3 none d src none)
    | _ =>
      let s := match rq.key with
        | some k => (s.setF (WSC.RPL_LAST_COS k.toNat) rq.cos.toNat).rplSet 1 k.toNat
        | none => s
      (0, s.acceptItem d src none)

/-- A template submission (R398). -/
def State.tplSubmit (s : State) (i src : Nat) : State :=
  if s.on (WSC.TPLCFG_EN i) then
    let d := (List.range 12).flatMap (fun w => leBytes 4 (s.rd (WSC.TPL i w)))
    if s.itemOrder d true = 0 then s.acceptItem d src (some i)
    else ((s.bump WSC.CNT_TPLDROP).countG 32).trc 0xC none d src none
  else s

/-- The last step of loop batch `b` has ended: its templates are submitted (R398). -/
def State.tplBatch (s : State) (b : Nat) : State :=
  match s.lpBatches.find? (fun e => e.1 == b) with
  | some e =>
    let s : State := { s with lpBatches := tabDel s.lpBatches b }
    (List.range 16).foldl (fun s i => if e.2.contains (s.f (WSC.TPLCFG_TRIG (64 + i))) then s.tplSubmit (64 + i) 0x40 else s) s
  | none => s

/-- A host ring access of function `f`: code, bytes, state (R397). -/
def State.hsqRead (s : State) (f a n : Nat) : Nat × List Byte × State :=
  if !inPlate a n then (1, [], s)
  else
    let c := s.bar2Code f (a - plateLo) n false
    if c ≠ 0 then (c, [], s) else s.plateRead ⟨BitVec.ofNat 8 (1 + f), none, none, 0, false, false⟩ a n

def State.hsqWrite (s : State) (f a : Nat) (bs : List Byte) : Nat × State :=
  if !inPlate a bs.length then (1, s)
  else
    let c := s.bar2Code f (a - plateLo) bs.length true
    if c ≠ 0 then (c, s) else s.plateWrite ⟨BitVec.ofNat 8 (1 + f), none, none, 0, false, false⟩ a bs

/-- The ring stops. -/
def State.hsqErr (s : State) (f : Nat) : State := s.setF (WSC.HSQCFG_ERR f) 1

/-- log2 of the entries of a host submit ring. -/
def State.hsqSz (s : State) (f : Nat) : Nat := min (max (s.f (WSC.HSQCFG_SZ f)) 4) 10

/-- The entry at HSQIDXf is read (R397): was it completed, state. -/
def State.hsqEntry (s : State) (f : Nat) : Bool × State :=
  if !s.on (WSC.HSQCFG_EN f) || s.on (WSC.HSQCFG_ERR f) then (false, s)
  else
    let sz := s.hsqSz f
    let i := s.f (WSC.HSQIDX_IDX f) % 2 ^ sz
    let a := s.f (WSC.HSQBASE_ADDR f) * 64 + i * 64
    let r := s.hsqRead f a 64
    if r.1 ≠ 0 then (false, r.2.2.hsqErr f)
    else
      let s := r.2.2
      let d := r.2.1.take 48
      if leNat (sub r.2.1 48 1) % 2 = 0 then (false, s)
      else
        let o := s.itemOrder d false
        if o = 5 then (false, ((s.bump WSC.CNT_REFUSED).countG 31).trc 3 none d (1 + f) none)
        else
          let s := if o = 0 then s.acceptItem d (1 + f) none
            else (if o = 3 then s.bump WSC.CNT_BADDESC else s).trc 3 none d (1 + f) none
          let stat : Nat := if o = 0 then 0 else if o = 3 then 1 else 2
          let w1 := s.hsqWrite f (a + 49) [BitVec.ofNat 8 stat]
          if w1.1 ≠ 0 then (false, w1.2.hsqErr f)
          else
            let w2 := w1.2.hsqWrite f (a + 48) [BitVec.ofNat 8 (leNat (sub r.2.1 48 1) / 2 * 2)]
            if w2.1 ≠ 0 then (false, w2.2.hsqErr f) else (true, w2.2.setF (WSC.HSQIDX_IDX f) ((i + 1) % 2 ^ sz))

/-- Entries are read one after another, the next at once after each that is completed. -/
def State.hsqRun (s : State) (f fuel : Nat) : State :=
  match fuel with
  | 0 => s
  | k + 1 => let r := s.hsqEntry f; if r.1 then r.2.hsqRun f k else r.2

/-- A poll of a host submit ring (R397): at most every entry of it once, since a completed entry has OWN 0. -/
def State.hsqPoll (s : State) (f : Nat) : State := s.hsqRun f (2 ^ s.hsqSz f)

/-! ## Selection (R399–R402) -/

/-- Is the item a flow head that waits? -/
def State.selectable (s : State) (x : Item) : Bool :=
  x.st == 0 && (x.flow == 0 || !s.items.any (fun y => decide (y.ord < x.ord) && y.flow == x.flow))

/-- Table 14.2. -/
def Item.eligible (x : Item) (n : Nat) : Bool :=
  match descScope x.desc with
  | 0 => descTarget x.desc == n
  | 1 => descTarget x.desc == n / 4
  | 2 => descTarget x.desc == n / 4 || x.spilled
  | _ => true

/-- Affinity core of a flow. -/
def State.affinity (s : State) (flow : Nat) : Option Nat :=
  if flow = 0 then none else (s.affin.find? (fun e => e.1 == flow)).map (fun e => e.2)

/-- Highest PRIO in a list of items. -/
def topPrio (l : List Item) : Nat := l.foldl (fun m x => max m x.prio) 0

/-- The item core `n` is served (R400). -/
def State.choose (s : State) (n : Nat) : Option Item :=
  let cand := s.items.filter (fun x => s.selectable x && x.eligible n)
  let l := cand.filter (fun x => x.prio == topPrio cand)
  match l.find? (fun x => descScope x.desc == 0) with
  | some x => some x
  | none =>
    match l.find? (fun x => s.affinity x.flow == some n) with
    | some x => some x
    | none => l.head?

/-- Cores in rotating order. -/
def State.coreOrder (s : State) : List Nat := (List.range 16).map (fun i => (s.schedPtr + i) % 16)

/-- Offers `x` to core `n` at a level. -/
def State.offer (s : State) (x : Item) (n level ev : Nat) : State :=
  let y := { x with st := 1, core := n, level := level }
  (({ s.putItem y with schedPtr := (n + 1) % 16 }).trcItem ev y true).refreshCore n

/-- Is `n` a victim for `x` (R401)? -/
def State.victim (s : State) (x : Item) (n : Nat) : Bool :=
  s.admitted n && x.eligible n && (s.offerOf n).isNone && decide (1 ≤ s.depth n) && decide (s.depth n ≤ 3)
    && (match s.topItem n with | some y => decide (y.prio < x.prio) | none => false) && decide (s.f (WSC.CORECFG_PMIN n) ≤ x.prio)

/-- The victim of lowest current PRIO; on a tie the affinity core, then the rotating order. -/
def State.pickVictim (s : State) (x : Item) : Option Nat :=
  let vs := s.coreOrder.filter (s.victim x)
  let cur (n : Nat) : Nat := match s.topItem n with | some y => y.prio | none => 16
  let low := vs.foldl (fun m n => min m (cur n)) 16
  let l := vs.filter (fun n => cur n == low)
  match l.find? (fun n => s.affinity x.flow == some n) with
  | some n => some n
  | none => l.head?

/-- One dispatch decision (R400, R401). -/
def State.dispatch (s : State) : State :=
  let idle := s.coreOrder.filter (fun n => s.admitted n && s.depth n == 0 && (s.offerOf n).isNone)
  match idle.findSome? (fun n => (s.choose n).map (fun x => (n, x))) with
  | some (n, x) => s.offer x n 0 4
  | none =>
    let pre := s.items.filter (fun x => s.selectable x && descPre x.desc)
    match (pre.filter (fun x => x.prio == topPrio pre)).head? with
    | none => s
    | some x =>
      match s.pickVictim x with
      | some n => s.offer x n (s.depth n) 5
      | none => s

/-- Region-scope items that have waited SPILL µs become eligible on any core. -/
def State.spill (s : State) : State :=
  let lim := s.f WSC.CFG_SPILL
  if lim = 0 then s
  else
    let due := s.items.filter (fun x => x.st == 0 && descScope x.desc == 2 && !x.spilled && decide (lim * 500 ≤ s.ticks - x.tick))
    due.foldl (fun s x => (s.putItem { x with spilled := true }).trcItem 0xB x false) s

/-! ## Delivery (R404–R406) -/

/-- Affinity after a take: most recently used first, 4,096 entries. -/
def State.affinTake (s : State) (flow n : Nat) : State :=
  if flow = 0 then s else { s with affin := ((flow, n) :: s.affin.filter (fun e => e.1 != flow)).take 4096 }

/-- WSC.CUR for a core: NEW as given, RUN, LEVEL, KEY, SEQ. -/
def State.curWord (s : State) (n : Nat) (new : Bool) : Nat :=
  match s.topItem n with
  | some x => b2n new + 2 + x.level * 4 + x.key * 2 ^ 8 + x.ord % 2 ^ 16 * 2 ^ 16
  | none => 0

/-- A read of CUR by core `n`. -/
def State.take (s : State) (n : Nat) : Nat × State :=
  match s.offerOf n with
  | none => (s.curWord n false, s)
  | some x =>
    let s := s.coreClock n
    let key := if x.replay && x.key != 0 then x.key else 192 + 4 * n + x.level
    let cos := if x.replay && x.key != 0 then x.cos0 else s.f (WSC.KCOS_COS (key - 192))
    let y := { x with st := 2, tdel := s.nowNs, key := key, cos0 := cos, cos := cos }
    let wait := 2 * (s.ticks - x.tick)
    let s := (s.putItem y).affinTake y.flow n
    let s := s.setF (WSC.WAIT_WAITMAX n) (max (s.f (WSC.WAIT_WAITMAX n)) (min wait 0xFFFFFFFF))
    let s := ((s.countPart (0x60C + 3 * n) 1000 wait).sample 3 n wait).trcItem 6 y true
    let s := s.refreshSched
    (s.curWord n true, s)

/-- An item ends: its COS is kept and its key reported as a checkpoint completion (R406). -/
def State.endItem (s : State) (x : Item) : State :=
  let s : State := { s with items := s.items.filter (fun y => y.ord != x.ord) }
  let s := s.setF (WSC.KCOS_COS (x.key - 192)) x.cos
  s.mbxCheckpoint x.key

/-- A write of DONE by core `n` (R405). -/
def State.doneW (s : State) (n : Nat) : State :=
  match s.topItem n with
  | none => s.bump (WSC.CORESTAT_DONEIGN n)
  | some x =>
    let s := s.coreClock n
    let c := s.load0 n
    let s : State := { s with coreLoad := tabPut s.coreLoad n { c with items := c.items + 1 } }
    (((s.endItem x).count (0x60C + 3 * n + 1)).trcItem 7 x true).refreshSched

/-! ## Core failure (R408, R409) -/

/-- The class of a core's failure (R451, Table 17.2): Recoverable; Reported while an enabled image has an application core as its writer. That items are
replay-safe (R407) is a promise of their software (log 85). -/
def State.coreClass (s : State) : Nat :=
  if s.enabledImages.any (fun i => s.f (PLT.IMGCFG_WRK i) == 3 && decide (0x30 ≤ s.f (PLT.IMGCFG_WKEY i))) then 2 else 1

/-- Core `n` fails with FCAUSE `cause`. An untaken offer goes back with REPLAY = 0 even when it was to repeat a failed run (R408); its next delivery
then carries a key of its own, and the old key is no longer busy (DEDUCED, log 84). Its class follows the provisions of Table 17.2 (`coreClass`). -/
def State.failCore (s : State) (n cause detail : Nat) : State :=
  let key := (s.topItem n).map (fun x => x.key)
  let s := s.coreClock n
  let back := s.itemsAt n 1
  let s := back.foldl (fun s x => s.putItem { x with st := 0, replay := false, key := 0 }) s
  let run := s.itemsAt n 2
  let s := run.foldl (fun s x => (s.putItem { x with st := 3 }).trcItem 8 x true) s
  let s := s.setFs [(WSC.CORESTAT_STATE n, 2), (WSC.CORESTAT_FCAUSE n, cause)]
  s.refreshSched.fault { unit := 0x20 + n, code := cause, cls := s.coreClass, detail := detail, ident := 0x30 + n, key := key }

/-- A local reset of core `n`, or of its region, fails it when it holds an item or an offer (Table 14.6, cause 4). -/
def State.coreReset4 (s : State) (n : Nat) : State :=
  if s.depth n ≠ 0 ∨ (s.offerOf n).isSome then s.failCore n 4 0 else s.refreshCore n

/-- COREOP (R409). -/
def State.coreOp (s : State) (n op : Nat) : State :=
  match op with
  | 1 => ((s.itemsAt n 3).foldl (fun s x => (s.putItem { x with st := 0, replay := true }).trcItem 9 x true) s).refreshSched
  | 2 => ((s.itemsAt n 3).foldl (fun s x => (s.endItem x).trcItem 0xA x true) s).refreshSched
  | 3 =>
    if s.f (WSC.CORESTAT_KEYBUSY n) ≠ 0 then s.bump (WSC.CORESTAT_OPREJ n)
    else if s.f (WSC.CORESTAT_STATE n) ≠ 2 then s
    else (s.setF (WSC.CORESTAT_STATE n) 0).refreshCore n
  | _ => s

/-- Mark `m` of TTn fires: MKP of the cores that name it (Table 14.4). -/
def State.coreMarks (s : State) (n m : Nat) : State :=
  (List.range 16).foldl (fun s c => if s.f (WSC.CORECFG_MARK c) = 16 * n + m then s.setF (WSC.CORESTAT_MKP c) 1 else s) s

/-! ## Registers (R413) -/

/-- Application core of an identity. -/
def appCore (id : Nat) : Option Nat := if 0x30 ≤ id ∧ id ≤ 0x3F then some (id - 0x30) else none

/-- A write of the WSC block at offset `o`: code, state. -/
def State.wscWrite (s : State) (rq : Rq) (o v : Nat) : Nat × State :=
  let id := rq.id.toNat
  let a := 0x40060000 + o
  if o = 0x10 then s.submitW rq
  else if o = 0x14 then
    match appCore id with
    | some n => (0, s.doneW n)
    | none => (if isKbDbg id then 0 else 2, s)
  else if o = 0x18 ∨ (0x80 ≤ o ∧ o < 0xC0) then (if isKbDbg id || (appCore id).isSome then 0 else 2, s)
  else if 0x40 ≤ o ∧ o < 0x70 then
    if State.submitter id || id == idDebug then (0, s.wr (stageAt rq ((o - 0x40) / 4)) v) else (2, s)
  else if 0x100 ≤ o ∧ o < 0x200 ∧ o % 0x10 = 4 then
    if isKbDbg id || appCore id == some ((o - 0x100) / 0x10) then (0, s.wrReg a v) else (2, s)
  else if !isKbDbg id then (2, s)
  else if o = 0xC then (0, s.coreOp (v % 16) (bitsOf v 4 3))
  else if o = 0x1C then
    (0, if bitsOf v 8 2 = 1 then (s.setF (WSC.RPL_LAST_COS (v % 256)) 0).rplClear 1 (v % 256) else s)
  else if 0x100 ≤ o ∧ o < 0x200 ∧ o % 0x10 = 0 then (0, (s.wrReg a v).refreshCore ((o - 0x100) / 0x10))
  else if o = 0xA00 then
    let was := s.on WSC.TRCTL_FULL
    let s := s.wrReg a v
    (0, (if was && bitOf v 2 then { s with traceN := 0 } else s).trcFull)
  else if 0x3400 ≤ o ∧ o < 0x3500 then (0, s.wrReg a (v % 256))
  else (0, s.wrReg a v)

/-- A read of the WSC block (R413): code, word, state. With `peek` CUR takes no offer (R475). CUR and the delivery window are a core's own; a master
that is no core reads 0 there (DESIGN CHOICE, log 84). -/
def State.wscRead (s : State) (rq : Rq) (o : Nat) (peek : Bool) : Nat × Nat × State :=
  let id := rq.id.toNat
  if o = 0x18 then
    match appCore id with
    | some n => if peek then (0, s.curWord n false, s) else let r := s.take n; (0, r.1, r.2)
    | none => (0, 0, s)
  else if o = 0x14 then (0, 0, s)
  else if 0x80 ≤ o ∧ o < 0xC0 then
    match appCore id with
    | some n => (0, match s.topItem n with | some x => descWord x.bytes ((o - 0x80) / 4) | none => 0, s)
    | none => (0, 0, s)
  else if 0x40 ≤ o ∧ o < 0x70 then (0, s.rd (stageAt rq ((o - 0x40) / 4)), s)
  else if (0xA00 ≤ o ∧ o < 0xA20) ∨ 0x4000 ≤ o then
    if isKbDbg id then
      if 0xA10 ≤ o ∧ o < 0xA20 then (0, (tabGet s.trace 0 (4 * s.f WSC.TRIDX_IDX + (o - 0xA10) / 4)).toNat, s)
      else let r := s.rdReg (0x40060000 + o); (0, r.1, r.2)
    else (2, 0, s)
  else if 0x200 ≤ o ∧ o < 0x264 then (0, s.qstat ((o - 0x200) / 4), s)
  else let r := s.rdReg (0x40060000 + o); (0, r.1, if peek then s else r.2)

/-! ## Meanings -/

/-- SUBMIT (R395). -/
def execSubmit (rq : Rq) (s : State) : Out :=
  let r := s.submitW rq
  .next (r.2.answer r.1)

/-- HOST_SUBMIT_POLL (R397). -/
def execHostSubmitPoll (f : Fin 2) (s : State) : Out := .next (s.hsqPoll f)

/-- DISPATCH_DECISION (R400, R401). -/
def execDispatchDecision (s : State) : Out := .next s.dispatch

/-- SPILL (R394). -/
def execSpill (s : State) : Out := .next s.spill

/-- TAKE (R404): a read of WSC.CUR. -/
def execTake (rq : Rq) (s : State) : Out :=
  let r := s.wscRead rq 0x18 false
  .next (r.2.2.answer r.1 (leBytes 4 r.2.1))

/-- DONE (R405). -/
def execDone (rq : Rq) (s : State) : Out :=
  let r := s.wscWrite rq 0x14 0
  .next (r.2.answer r.1)

/-- CORE_FAILURE (R408): `cause` + 1 is the FCAUSE; cause 4 needs an item or an offer at the core. -/
def execCoreFailure (n : Fin 16) (cause : Fin 4) (s : State) : Out :=
  .next (if cause.val = 3 then s.coreReset4 n else s.failCore n (cause + 1) 0)

/-- CORE_WATCHDOG_EXPIRY (R408): an item has held the top level for WDOG µs. -/
def execCoreWatchdogExpiry (n : Fin 16) (s : State) : Out :=
  .next (if s.f (WSC.CORECFG_WDOG n) ≠ 0 ∧ s.depth n ≠ 0 then s.failCore n 2 0 else s)

/-- COREOP_REQUEUE (R409). -/
def execCoreopRequeue (rq : Rq) (n : Fin 16) (s : State) : Out :=
  let r := s.wscWrite rq 0xC (n + 0x10)
  .next (r.2.answer r.1)

/-- COREOP_DISCARD (R409). -/
def execCoreopDiscard (rq : Rq) (n : Fin 16) (s : State) : Out :=
  let r := s.wscWrite rq 0xC (n + 0x20)
  .next (r.2.answer r.1)

/-- COREOP_ADMIT (R409). -/
def execCoreopAdmit (rq : Rq) (n : Fin 16) (s : State) : Out :=
  let r := s.wscWrite rq 0xC (n + 0x30)
  .next (r.2.answer r.1)

/-- WSC_CTXOP_CLEAR (R413). -/
def execWscCtxopClear (rq : Rq) (key : BitVec 8) (s : State) : Out :=
  let r := s.wscWrite rq 0x1C (key.toNat + 0x100)
  .next (r.2.answer r.1)

/-- LOAD_INTERVAL_END (R410). -/
def execLoadIntervalEnd (s : State) : Out := .next s.loadEnd

end Sys2Proof.Machine
end

