-- ==== Sys2Proof/Machine/Loop.lean ====
section
/-! DEFINITION. The loop engine (chapter 12): records, triggers and batches, steps on lanes, the repetitive controller, test signals,
capture, records taken at an activation, the indirect spaces. -/
namespace Sys2Proof.Machine

/-! ## Words of the spaces (Table 12.7) -/

/-- What an unlisted word reads as: SCTL.INIT and T are 1 at reset. -/
def lpReset (k : Nat) : Word :=
  let sp := k / 0x100000
  let i := k % 0x100000
  if sp = 2 ∧ i % 8 = 5 then 2 else if (sp = 3 ∨ sp = 4) ∧ i % 16 = 1 then 0x100000 else 0

/-- Words of each space. -/
def lpWords (sp : Nat) : Nat :=
  match sp with
  | 0 | 1 => 8192
  | 2 => 4096
  | 3 | 4 => 512
  | 5 | 6 => 262144
  | _ => 4097

def State.lpW (s : State) (sp i : Nat) : Nat := (tabGet s.lp (lpReset (sp * 0x100000 + i)) (sp * 0x100000 + i)).toNat

/-- Sets a word; words of spaces 0 and 3 belong to the sealed class (R517, R545). -/
def State.lpSet (s : State) (sp i v : Nat) : State :=
  let k := sp * 0x100000 + i
  let old := s.lpW sp i
  let a := 0xD0000000 + sp * 0x100000 + i * 4
  { s with
    lp := cellPut s.lp (lpReset k) k (BitVec.ofNat 32 v)
    sealDiff := if (sp = 0 ∨ sp = 3) ∧ old ≠ v % 2 ^ 32 then s.sealDiff ^^^ sealH a old ^^^ sealH a (v % 2 ^ 32) else s.sealDiff }

/-- Parameter word, state word and RC word of a slot or record. -/
def State.lpPar (s : State) (sl w : Nat) : Nat := s.lpW 0 (16 * sl + w)
def State.lpSt (s : State) (sl w : Nat) : Nat := s.lpW 2 (8 * sl + w)
def State.lpRc (s : State) (r w : Nat) : Nat := s.lpW 3 (16 * r + w)
def State.setLpSt (s : State) (sl w v : Nat) : State := s.lpSet 2 (8 * sl + w) v

/-- Bit or field of SCTL. -/
def State.lpSctl (s : State) (sl lo w v : Nat) : State := s.setLpSt sl 5 (setBits (s.lpSt sl 5) lo w v)

/-- Enabled slots, ascending. -/
def State.lpEnabled (s : State) : List Nat :=
  s.lp.filterMap (fun e => if e.1 < 8192 ∧ e.1 % 16 = 0 ∧ e.2.toNat % 2 = 1 then some (e.1 / 16) else none)

/-- Address at which the ECC marks of a space's word stand. -/
def lpEccAt (sp i : Nat) : Nat := 0x104000000 + sp * 0x400000 + i * 4

/-- Does word `i` of a space hold an uncorrectable error? -/
def State.lpBad (s : State) (sp i : Nat) : Bool := s.eccIn (lpEccAt sp i) 4 2

/-- A word of a space is read: a correctable error in it is corrected and counted (R362). -/
def State.lpFix (s : State) (sp i : Nat) : State :=
  if s.eccIn (lpEccAt sp i) 4 1 then { s.eccDrop (lpEccAt sp i) 4 1 with lpCe := s.lpCe + 1 } else s

/-- `n` words from `i` on are read. -/
def State.lpFixes (s : State) (sp i n : Nat) : State := (List.range n).foldl (fun (s : State) k => s.lpFix sp (i + k)) s

/-- A fault of the loop engine (Table 17.4). -/
def State.lpFault (s : State) (code detail : Nat) : State := s.fault { unit := 0xAE, code := code, cls := 2, detail := detail, ident := 0x40 }

/-- Slot counters OVR (k = 0), ABND (1), OUTERR (2), with the lane's (R342, R351, R362). -/
def State.lpCount (s : State) (sl lane k : Nat) : State :=
  let w := s.lpSt sl 7
  let s := s.setLpSt sl 7 (setBits w (8 * k) 8 (satAdd (bitsOf w (8 * k) 8) 1 0xFF))
  let s := (s.count (3 * sl + k)).count (0x600 + 3 * lane + k)
  if k = 0 then s.bump (LPE.LANESTAT_OVR lane) else if k = 1 then s.bump (LPE.LANESTAT_ABND lane) else s

/-! ## Repetitive controller (R352, R353) -/

/-- Fields of an RC record. -/
structure RcRec where
  n : Nat
  m : Nat
  base : Nat
  t : Nat
  l : Nat
  q : List Nat
deriving DecidableEq, Repr

def rcOf (w : Nat → Nat) : RcRec :=
  ⟨bitsOf (w 0) 0 15, bitsOf (w 0) 16 14, bitsOf (w 1) 0 18, bitsOf (w 1) 20 4, w 2, (List.range 8).map (fun i => w (3 + i))⟩

/-- R of R352. -/
def RcRec.r (x : RcRec) : Nat := x.n + 8
def RcRec.h (x : RcRec) : Nat := (x.t - 1) / 2

/-- The record numbers that other enabled slots with RCEN = 1 name. -/
def State.rcNamed (s : State) (but : Nat) : List Nat :=
  (s.lpEnabled.filter (fun sl => sl != but && bitOf (s.lpPar sl 0) 1)).map (fun sl => bitsOf (s.lpPar sl 0) 11 5)

/-- R353 for record `r` with the words `w`, named by slot `sl`. -/
def State.rcValid (s : State) (sl r : Nat) (w : Nat → Nat) : Bool :=
  let x := rcOf w
  let others := s.rcNamed sl
  decide (1 ≤ x.n) && decide (x.n ≤ 16384) && decide (x.m < x.n) && decide (1 ≤ x.t) && decide (x.t ≤ 8)
    && decide (x.m + x.t ≤ x.n + x.h) && decide (x.base + 2 * x.r ≤ 262144) && !others.contains r
    && others.all (fun o => o == r || (let y := rcOf (s.lpRc o); !overlaps x.base (2 * x.r) y.base (2 * y.r)))

/-- Word at distance `d` back from the current step in a ring that starts at `base` (R352). -/
def ringIx (base r ridx : Nat) (d : Int) : Nat := base + (((ridx : Int) - d) % (r : Int)).toNat

/-- Pool words that rc_out reads. -/
def RcRec.reads (x : RcRec) (ridx : Nat) : List (Nat × Nat) :=
  (List.range x.t).map (fun i =>
    let d : Int := (x.n : Int) - (i : Int) + (x.h : Int)
    (ringIx x.base x.r ridx d, ringIx (x.base + x.r) x.r ridx (d - (x.m : Int))))

/-- rc_out (R352): the value and whether a NaN was met. -/
def State.rcOut (s : State) (x : RcRec) (ridx : Nat) : Nat × Bool :=
  ((x.reads ridx).zip x.q).foldl (fun acc e =>
    let le := lMul x.l (s.lpW 5 e.1.2)
    let sm := lAdd (s.lpW 5 e.1.1) le
    let t := lMul e.2 sm
    let a := lAdd acc.1 t
    (a, acc.2 || [le, sm, t, a].any isNaN)) (0, false)

/-- Is a ring clear of the slot running? -/
def State.lpClearing (s : State) (sl : Nat) : Bool := s.lpClr.any (fun e => e.1 == sl)

/-- Ring positions and contents start again (R353). -/
def State.startClear (s : State) (sl : Nat) (x : RcRec) : State :=
  let s := s.setLpSt sl 6 0
  { s.setF LPE.STAT_CLEARING 1 with lpClr := s.lpClr.filter (fun e => e.1 != sl) ++ [(sl, x.base, 2 * x.r)] }

/-- The clears that run are complete. -/
def State.endClear (s : State) : State :=
  let s := s.lpClr.foldl (fun (s : State) c => s.eccDrop (lpEccAt 5 c.2.1) (4 * c.2.2) 2) s
  let s := { s with lp := s.lp.filter (fun e => !(s.lpClr.any (fun c =>
    decide (5 * 0x100000 + c.2.1 ≤ e.1) && decide (e.1 < 5 * 0x100000 + c.2.1 + c.2.2)))), lpClr := [] }
  s.setF LPE.STAT_CLEARING 0

/-! ## Records taken at an activation (R359, R360) -/

/-- Trigger codes of Table 12.1. -/
def trigListed (c : Nat) : Bool := decide (c ≤ 0x40) || (decide (0x50 ≤ c) && decide (c ≤ 0x60))

/-- Is format `f` at offset `o` aligned and inside image `i` (R346)? -/
def State.lpOffOk (s : State) (i o f : Nat) : Bool := o % fmtSize f == 0 && decide (o + fmtSize f ≤ s.imgSize i)

/-- Table 12.6 for the parameter words `p` of slot `sl`, RC words `rc`. -/
def State.lpCheck (s : State) (sl : Nat) (p rc : Nat → Nat) : Bool :=
  let w0 := p 0
  let out := bitsOf (p 3) 0 8
  let num := [p 14, p 15, p 4].all (fun x => !isNaN x)
  let lim := num && !lLess (p 15) (p 14) && !lLess (p 4) 0
  let img := s.on (PLT.IMGCFG_EN out) && s.f (PLT.IMGCFG_WRK out) == 2
  let offs := s.lpOffOk (bitsOf (p 1) 0 8) (bitsOf (p 1) 8 16) (bitsOf w0 6 2)
    && s.lpOffOk out (bitsOf (p 3) 8 16) (bitsOf w0 8 2)
    && (!bitOf w0 10 || s.lpOffOk (bitsOf (p 2) 0 8) (bitsOf (p 2) 8 16) 0)
  let rcok := !bitOf w0 1 || s.rcValid sl (bitsOf w0 11 5) rc
  lim && img && offs && rcok && trigListed (bitsOf w0 16 8)

/-- LPE.STAT.NPEND. -/
def State.setMarks (s : State) (l : List Nat) : State := { s with lpMarks := l }.setF LPE.STAT_NPEND l.length

/-- Copies `n` words of a record from space `src` to `dst`. -/
def State.lpCopy (s : State) (src dst i n : Nat) : State :=
  (List.range n).foldl (fun (s : State) k => (s.lpSet dst (i + k) (s.lpW src (i + k))).eccDrop (lpEccAt dst (i + k)) 4 2) s

/-- A pending RC record is taken for the slot that names it, or for none. -/
def State.takeRc (s : State) (r : Nat) : State :=
  if s.lpMarks.contains (0x200 + r) then (s.lpCopy 4 3 (16 * r) 16).setMarks (s.lpMarks.filter (fun k => k != 0x200 + r)) else s

/-- The pending parameter record of slot `sl` is taken (R350, R353, R360): a record that fails its check is not. -/
def State.takeSlot (s : State) (sl : Nat) : State :=
  let new := s.lpW 1 (16 * sl)
  let r := bitsOf new 11 5
  let withRc := bitOf new 1 && s.lpMarks.contains (0x200 + r)
  let rcw : Nat → Nat := fun w => if withRc then s.lpW 4 (16 * r + w) else s.lpRc r w
  let s := s.setMarks (s.lpMarks.filter (fun k => k != sl && !(withRc && k == 0x200 + r)))
  let s := s.epFlag 8
  if bitOf new 0 && !s.lpCheck sl (fun w => s.lpW 1 (16 * sl + w)) rcw then
    s.setFs [(LPE.STAT_CFGERR, 1), (LPE.STAT_CFGIDX, sl)]
  else
    let old := s.lpPar sl 0
    let oldRc := rcOf (s.lpRc (bitsOf old 11 5))
    let s := if withRc then s.lpCopy 4 3 (16 * r) 16 else s
    let s := s.lpCopy 1 0 (16 * sl) 16
    let s := s.lpSctl sl 5 1 0
    let s := if bitOf new 0 && !bitOf old 0 then s.lpSctl sl 1 1 1 else s
    let x := rcOf (s.lpRc r)
    if bitOf new 1 && (!bitOf old 1 || x.n != oldRc.n || x.base != oldRc.base) then s.startClear sl x else s

/-- B of R359 for a new trigger code, in ns: for a mark, the instance's first cycle start at or after the instant, by the BASE and CYCLE that ran up
to it. -/
def State.lpB (s : State) (code : Nat) : Nat :=
  if 1 ≤ code ∧ code ≤ 0x40 then
    let n := (code - 1) / 16
    let o := s.ttOffset n s.actAt
    ((tabGet s.rul RulSt.reset n).bound).getD (if o = 0 then s.actAt else s.actAt + s.ttCycle n - o)
  else s.actAt

/-- TRIG of a slot's active and shadow record. -/
def State.lpTrigOf (s : State) (sl : Nat) : Nat := bitsOf (s.lpPar sl 0) 16 8
def State.lpNewTrig (s : State) (sl : Nat) : Nat := bitsOf (s.lpW 1 (16 * sl)) 16 8

/-- The armed activation has come to its instant. -/
def State.actDue (s : State) : Bool := s.on OBS.ACTSTAT_ARMED && decide (s.actAt ≤ s.now)

/-- Records taken before a batch of the trigger codes `codes`. -/
def State.takeForBatch (s : State) (codes : List Nat) : State :=
  if s.actDue then
    let due := s.lpMarks.filter (fun k =>
      decide (k < 0x200) && decide (s.lpB (s.lpNewTrig k) ≤ s.now) && (codes.contains (s.lpNewTrig k) || codes.contains (s.lpTrigOf k)))
    (due.foldl State.takeSlot s).activationDone
  else s

/-- May the record marked `k` be taken now without a batch? -/
def State.takeDue (s : State) (k : Nat) : Bool :=
  s.actDue && s.lpMarks.contains k &&
    (if k < 0x200 then decide (s.lpB (s.lpNewTrig k) + 100000000 ≤ s.now)
     else !s.lpMarks.any (fun sl => decide (sl < 0x200) && bitOf (s.lpW 1 (16 * sl)) 1 && bitsOf (s.lpW 1 (16 * sl)) 11 5 == k - 0x200))

/-- An RC record taken for no pending slot; the enabled slot that names it keeps stepping under it if it is valid. -/
def State.takeRcAlone (s : State) (r : Nat) : State :=
  let users := s.lpEnabled.filter (fun sl => bitOf (s.lpPar sl 0) 1 && bitsOf (s.lpPar sl 0) 11 5 == r)
  match users with
  | [] => s.takeRc r
  | sl :: _ =>
    if s.rcValid sl r (fun w => s.lpW 4 (16 * r + w)) then
      let old := rcOf (s.lpRc r)
      let s := (s.takeRc r).lpSctl sl 5 1 0
      let x := rcOf (s.lpRc r)
      if x.n != old.n || x.base != old.base then s.startClear sl x else s
    else (s.setMarks (s.lpMarks.filter (fun k => k != 0x200 + r))).setFs [(LPE.STAT_CFGERR, 1), (LPE.STAT_CFGIDX, sl)]

/-! ## Triggers and batches (R339–R342) -/

/-- A trigger edge of code `c` acts while EN is 1. -/
def State.lpTrigger (s : State) (c : Nat) : State :=
  if s.on LPE.CTL_EN then { s with lpDue := s.lpDue ++ [(s.ticks, s.nowNs, s.nowSec % 2 ^ 32, c)] } else s

/-- Number of the last batch whose trigger edge has fired: the batch formed last, and one for each edge that waits. -/
def State.lpFired (s : State) : Nat := s.lpTrig + (s.lpDue.map (fun e => e.1)).eraseDups.length

def State.lane (s : State) (l : Nat) : List LpEntry := tabGet s.lpLane [] l

/-- Sets a lane's pending list with LANESTAT.PEND and STAT.BUSY. -/
def State.setLane (s : State) (l : Nat) (x : List LpEntry) : State :=
  let s := ({ s with lpLane := cellPut s.lpLane [] l x }).setF (LPE.LANESTAT_PEND l) x.length
  s.setF LPE.STAT_BUSY (setBits (s.f LPE.STAT_BUSY) l 1 (b2n (!x.isEmpty)))

/-- A trigger meets slot `sl` (R341, R342); a slot with FAIL takes no step (R362). -/
def State.lpMeet (s : State) (trig ns sec sl : Nat) : State :=
  let w0 := s.lpPar sl 0
  let l := bitsOf w0 4 2
  let dcnt := bitsOf (s.lpSt sl 5) 8 8
  if dcnt ≠ 0 then s.lpSctl sl 8 8 (dcnt - 1)
  else
    let s := s.lpSctl sl 8 8 (bitsOf w0 24 8)
    if bitOf (s.lpSt sl 5) 5 then s
    else if [0, 1, 2, 3].any (fun k => (s.lane k).any (fun e => e.slot == sl)) then s.lpCount sl l 0
    else
      let r := bitsOf w0 11 5
      s.setLane l (s.lane l ++ [⟨sl, (List.range 16).map (s.lpPar sl), (List.range 16).map (s.lpRc r), trig, ns, sec, s.now⟩])

/-- A batch: the triggers of the oldest edge that waits. -/
def State.lpBatch (s : State) : State :=
  match s.lpDue with
  | [] => s
  | (t, ns, sec, _) :: _ =>
    let here := s.lpDue.filter (fun e => e.1 == t)
    let codes := here.map (fun e => e.2.2.2)
    let s : State := { s with lpDue := s.lpDue.filter (fun e => e.1 != t), lpTrig := s.lpTrig + 1 }
    let s := s.takeForBatch codes
    let s := (s.lpEnabled.filter (fun sl => codes.contains (s.lpTrigOf sl))).foldl (fun s sl => s.lpMeet s.lpTrig ns sec sl) s
    if [0, 1, 2, 3].any (fun l => (s.lane l).any (fun e => e.trig == s.lpTrig)) then
      { s with lpBatches := tabPut s.lpBatches s.lpTrig codes }
    else s

/-! ## Test signals and capture (R354–R358) -/

def State.gen (s : State) (g : Nat) : TsgSt := tabGet s.tsg TsgSt.reset g
def State.setGen (s : State) (g : Nat) (x : TsgSt) : State :=
  ({ s with tsg := cellPut s.tsg TsgSt.reset g x }).setFs
    [(LPE.TSGCFG_ARM g, b2n (x.run || x.armed.isSome)), (LPE.TSGSTAT_RUN g, b2n x.run)]

/-- ARM = 1: what R355 and R356 load. -/
def State.armGen (s : State) (g : Nat) : State :=
  let x := s.gen g
  if x.run || x.armed.isSome then s
  else
    let o := min (max (s.f (LPE.TSGCFG_ORDER g)) 7) 31
    (s.setF (LPE.TSGSTAT_STEPS g) 0).setGen g ⟨some s.lpFired, false, 0, 2 ^ o - 1, false, 0, s.f (LPE.TSGP1_V g)⟩

/-- A write of TSGCFG. -/
def State.tsgWrite (s : State) (g v : Nat) : State :=
  let arm := s.f (LPE.TSGCFG_ARM g)
  let s := (s.wrReg (LPE.TSGCFG g) v).setF (LPE.TSGCFG_ARM g) arm
  if !bitOf v 0 then s.setGen g TsgSt.reset else if bitOf v 1 then s.armGen g else s

/-- Generator `g` at a step of slot `sl` whose trigger has number `trig`: the injection, and whether this is its first. -/
def State.genStep (s : State) (g sl trig : Nat) : Option (Nat × Bool) × State :=
  let x := s.gen g
  let starts := match x.armed with | some a => decide (a < trig) | none => false
  if s.on (LPE.TSGCFG_EN g) && s.f (LPE.TSGCFG_SLOT g) == sl && (x.run || starts) then
    let typ := s.f (LPE.TSGCFG_TYPE g)
    let q := if isNaN x.finc && decide (2 ≤ typ) then s.free else (0, s)
    let s := q.2
    let r := x.next typ (s.f (LPE.TSGCFG_ORDER g)) (s.f (LPE.TSGCFG_HOLD g)) (s.f (LPE.TSGAMP_V g)) (s.f (LPE.TSGOFS_V g))
      (s.f (LPE.TSGP1_V g)) (s.f (LPE.TSGP2_V g)) q.1.toNat
    let len := s.f (LPE.TSGLEN_LEN g)
    let last : Bool := if typ < 2 then len != 0 && decide (len ≤ r.2.k) else decide (max len 1 ≤ r.2.k)
    let s := s.bump (LPE.TSGSTAT_STEPS g)
    let s := if last then (s.setGen g TsgSt.reset).setF (LPE.TSGSTAT_DONE g) 1 else s.setGen g { r.2 with armed := none, run := true }
    (some (r.1, !x.run), s)
  else (none, s)

/-- Injections at the three points of slot `sl` (R347), the generators that made their first one, and the state. -/
def State.lpInject (s : State) (sl trig : Nat) : (Nat → Nat) × List Nat × State :=
  let r := (List.range 16).foldl (fun (a : List (Nat × Nat) × List Nat × State) g =>
    let q := a.2.2.genStep g sl trig
    match q.1 with
    | some (v, first) => (a.1 ++ [(a.2.2.f (LPE.TSGCFG_POINT g) % 3, v)], if first then a.2.1 ++ [g] else a.2.1, q.2)
    | none => (a.1, a.2.1, q.2)) ([], [], s)
  (fun p => match (r.1.filter (fun e => e.1 == p)).map (fun e => e.2) with
    | [] => 0
    | v :: t => t.foldl lAdd v, r.2.1, r.2.2)

def State.capSt (s : State) (c : Nat) : CapSt := tabGet s.cap CapSt.reset c
def State.setCap (s : State) (c : Nat) (x : CapSt) : State :=
  ({ s with cap := cellPut s.cap CapSt.reset c x }).setFs
    [(LPE.CAPCFG_ARM c, b2n (x.run || x.armed.isSome)), (LPE.CAPSTAT_RUN c, b2n x.run)]

/-- ARM = 1 of a channel. -/
def State.armCap (s : State) (c : Nat) : State :=
  let x := s.capSt c
  if x.run || x.armed.isSome then s else (s.setF (LPE.CAPSTAT_COUNT c) 0).setCap c ⟨some s.lpFired, false, 0⟩

/-- A write of CAPCFG. -/
def State.capWrite (s : State) (c v : Nat) : State :=
  let arm := s.f (LPE.CAPCFG_ARM c)
  let s := (s.wrReg (LPE.CAPCFG c) v).setF (LPE.CAPCFG_ARM c) arm
  if !bitOf v 0 then s.setCap c CapSt.reset else if bitOf v 1 then s.armCap c else s

/-- Table 12.5. -/
def LpVals.sig (x : LpVals) (k : Nat) : Nat :=
  match k with
  | 1 => x.y
  | 2 => x.e
  | 3 => x.v
  | 4 => x.u
  | 5 => x.urc
  | 6 => x.i
  | 7 => x.d
  | 8 => x.x
  | _ => x.r

/-- Channel `c` at the end of a step; `x` is none for an abandoned step, `first` the generators that started with it. -/
def State.capStep (s : State) (e : LpEntry) (x : Option LpVals) (first : List Nat) (c : Nat) : State :=
  let k := s.capSt c
  let starts := match k.armed with
    | some a => if s.on (LPE.CAPCFG_START c) then first.contains (s.f (LPE.CAPCFG_TSG c)) else decide (a < e.trig)
    | none => false
  if s.on (LPE.CAPCFG_EN c) && s.f (LPE.CAPCFG_SLOT c) == e.slot && (k.run || starts) then
    let s := if starts then s.setFs [(LPE.CAPTNS_NS c, e.ns), (LPE.CAPTSEC_SEC c, e.sec)] else s
    let y : CapSt := ⟨none, true, k.steps + 1⟩
    if k.steps % (s.f (LPE.CAPCFG_DEC c) + 1) = 0 then
      let n := s.f (LPE.CAPSTAT_COUNT c)
      let v := match x with | some x => x.sig (s.f (LPE.CAPCFG_SIG c)) | none => 0x7FC00000
      let s := (s.lpSet 6 (65536 * c + n % 65536) v).eccDrop (lpEccAt 6 (65536 * c + n)) 4 2
      let s := s.setF (LPE.CAPSTAT_COUNT c) (n + 1)
      if min (max (s.f (LPE.CAPLEN_LEN c)) 1) 65536 ≤ n + 1 then
        (((s.setCap c CapSt.reset).setF (LPE.CAPSTAT_DONE c) 1).kevt 10).postEvent 0x8880 [c]
      else s.setCap c y
    else s.setCap c y
  else s

/-! ## Steps (R343–R351) -/

/-- The loop engine's requests. -/
def rqLoop : Rq := ⟨0x40, none, none, 0, false, false⟩

/-- A read of an image under a lease (R331): none when the image was never published or the read fails. -/
def State.lpRead (s : State) (img off n : Nat) : Option Nat × State :=
  if !s.on (PLT.IMGCFG_EN img) || (s.img img).gen == 0 then (none, s)
  else
    let r := (s.lendQ 0xA2 0 n false).plateAccess rqLoop false (s.imgBuf img (s.f (PLT.IMGSTAT_PBUF img)) + off) n []
    (if r.1 = 0 then some (leNat r.2.1) else none, r.2.2)

/-- The slot has finished its step for the image it writes (R344). -/
def State.lpFinish (s : State) (sl img : Nat) : State :=
  let k := img * 512 + sl
  if s.lpDone.contains k then s else { s with lpDone := s.lpDone ++ [k] }

/-- An abandoned step (R351). -/
def State.lpAbandon (s : State) (e : LpEntry) (lane : Nat) (nan : Bool) (first : List Nat) : State :=
  let s := if nan then s.lpSctl e.slot 4 1 1 else s
  let s := (s.lpCount e.slot lane 1).lpFinish e.slot (bitsOf (e.par.getD 3 0) 0 8)
  [0, 1, 2, 3].foldl (fun s c => s.capStep e none first c) s

/-- The pool words that rc_out reads at this step are read (R362). -/
def State.lpPoolFix (s : State) (e : LpEntry) : State :=
  let w0 := e.par.getD 0 0
  if !bitOf w0 1 || bitOf (s.lpSt e.slot 5) 0 || s.lpClearing e.slot then s
  else ((rcOf (fun w => e.rc.getD w 0)).reads (s.lpSt e.slot 6)).foldl (fun s p => (s.lpFix 5 p.1).lpFix 5 p.2) s

/-- The repetitive controller's output at this step, or none when a pool word is uncorrectable (R352, R353, R362). -/
def State.lpUrc (s : State) (e : LpEntry) : Option (Nat × Bool) :=
  let w0 := e.par.getD 0 0
  if !bitOf w0 1 || bitOf (s.lpSt e.slot 5) 0 || s.lpClearing e.slot then some (0, false)
  else
    let x := rcOf (fun w => e.rc.getD w 0)
    let ridx := s.lpSt e.slot 6
    if (x.reads ridx).any (fun p => s.lpBad 5 p.1 || s.lpBad 5 p.2) then none else some (s.rcOut x ridx)

/-- rc_store (R352). -/
def State.rcStore (s : State) (e : LpEntry) (urc err : Nat) : State :=
  if bitOf (e.par.getD 0 0) 1 && !s.lpClearing e.slot then
    let x := rcOf (fun w => e.rc.getD w 0)
    let k := s.lpSt e.slot 6
    let s := ((s.lpSet 5 (x.base + k) urc).eccDrop (lpEccAt 5 (x.base + k)) 4 2).lpSet 5 (x.base + x.r + k) err
    (s.eccDrop (lpEccAt 5 (x.base + x.r + k)) 4 2).setLpSt e.slot 6 ((k + 1) % x.r)
  else s

/-- A step whose inputs were read: law, state written back, output write issued (Table 12.2, steps 3 and 4). -/
def State.lpCompute (s : State) (e : LpEntry) (lane yw sp : Nat) : State :=
  let q := s.lpInject e.slot e.trig
  let first := q.2.1
  let s := q.2.2.lpPoolFix e
  match s.lpUrc e with
  | none => (s.lpAbandon e lane false first).lpFault 3 e.slot
  | some urc =>
    let v := lpLaw (fun w => e.par.getD w 0) (s.lpSt e.slot) yw sp (q.1 0) (q.1 1) (q.1 2) urc
    if v.nan then s.lpAbandon e lane true first
    else
      let s := s.rcStore e v.urc v.e
      let s := (((s.setLpSt e.slot 0 v.i).setLpSt e.slot 1 v.d).setLpSt e.slot 2 v.edp).setLpSt e.slot 3 v.u
      let s := ((s.lpSctl e.slot 1 1 0).lpSctl e.slot 2 1 (b2n v.sat)).lpSctl e.slot 3 1 (b2n v.rate)
      let s := [0, 1, 2, 3].foldl (fun s c => s.capStep e (some v) first c) s
      let o := e.par.getD 3 0
      let w : LpOut := ⟨e.slot, bitsOf o 0 8, bitsOf o 8 16, leBytes (fmtSize (bitsOf (e.par.getD 0 0) 8 2)) v.out⟩
      { s with lpOut := tabPut s.lpOut lane (tabGet s.lpOut [] lane ++ [w]) }

/-- A step of batch `b` has ended; its last one submits the batch's templates (R398). -/
def State.lpBatchEnd (s : State) (b : Nat) : State :=
  if [0, 1, 2, 3].any (fun l => (s.lane l).any (fun e => e.trig == b)) then s else s.tplBatch b

/-- Can the reads of a step pass: credits of queue 0xA2 and of the bank of each image it reads (R33, R34)? -/
def State.lpMay (s : State) (e : LpEntry) : Bool :=
  let p := fun w => e.par.getD w 0
  let free (w n : Nat) : Bool :=
    s.banksFree (s.imgBuf (bitsOf w 0 8) (s.f (PLT.IMGSTAT_PBUF (bitsOf w 0 8))) + bitsOf w 8 16) n false
  s.mayIssue 0xA2 0 4 false && free (p 1) (fmtSize (bitsOf (p 0) 6 2)) && (!bitOf (p 0) 10 || free (p 2) 4)

/-- A lane's next step (R343). The slot stops when one of its records holds an uncorrectable error (R362); the lane stalls when queue
0xA2 has no credit for the output write or its response, or its reads cannot pass. -/
def State.lpStep (s : State) (lane : Nat) : State :=
  match s.lane lane with
  | [] => s
  | e :: rest =>
    match s.reserve 0xA2 with
    | none => s
    | some t =>
      if !(t.lpMay e) then s else
      let sl := e.slot
      let s := (t.setLane lane rest).sample 4 lane (t.now - e.batch)
      let s := (s.lpFixes 0 (16 * sl) 16).lpFixes 2 (8 * sl) 8
      let s := if bitOf (e.par.getD 0 0) 1 then s.lpFixes 3 (16 * bitsOf (e.par.getD 0 0) 11 5) 16 else s
      let bad := (List.range 16).any (fun w => s.lpBad 0 (16 * sl + w)) || (List.range 8).any (fun w => s.lpBad 2 (8 * sl + w))
        || (bitOf (e.par.getD 0 0) 1 && (List.range 16).any (fun w => s.lpBad 3 (16 * bitsOf (e.par.getD 0 0) 11 5 + w)))
      if bad then (((s.lpSctl sl 5 1 1).lpFault 1 sl).unreserve 0xA2).lpBatchEnd e.trig
      else
        let p := fun w => e.par.getD w 0
        let fmt := bitsOf (p 0) 6 2
        let y := s.lpRead (bitsOf (p 1) 0 8) (bitsOf (p 1) 8 16) (fmtSize fmt)
        let sp := if bitOf (p 0) 10 then y.2.lpRead (bitsOf (p 2) 0 8) (bitsOf (p 2) 8 16) 4 else (some (p 2), y.2)
        let n := (tabGet s.lpOut [] lane).length
        let r := match y.1, sp.1 with
          | some yw, some spw => sp.2.lpCompute e lane yw spw
          | _, _ =>
            let q := sp.2.lpInject sl e.trig
            q.2.2.lpAbandon e lane false q.2.1
        (if (tabGet r.lpOut [] lane).length = n then r.unreserve 0xA2 else r).lpBatchEnd e.trig

/-- The oldest output write of a lane is made and answered (Table 12.2, step 5). -/
def State.lpAnswer (s : State) (lane : Nat) : State :=
  match tabGet s.lpOut [] lane with
  | [] => s
  | w :: rest =>
    if !s.banksFree (s.imgBuf w.img (s.imgW w.img) + w.addr) w.data.length true then s
    else
    let s : State := ({ s with lpOut := cellPut s.lpOut [] lane rest }).unreserve 0xA2
    let r := s.plateAccess rqLoop true (s.imgBuf w.img (s.imgW w.img) + w.addr) 0 w.data
    let s := r.2.2.lpFinish w.slot w.img
    if r.1 = 0 then s else (s.lpCount w.slot lane 2).lpFault 2 w.slot

/-! ## READY by hardware (Table 11.1) -/

/-- The condition for the READY of writer kinds 1 and 2. -/
def State.hwReady (s : State) (i : Nat) : Bool :=
  let wrk := s.f (PLT.IMGCFG_WRK i)
  if wrk = 1 then
    let n := s.f (PLT.IMGCFG_WKEY i) % 4
    [0, 1].all (fun c => !s.chOn n c || (List.range (s.f (RUL.CTL_NFRAME n) + 1)).all (fun k =>
      !(s.windows n c k 0 (s.rulArea n k)).any (fun w => s.f (RUL.WINB_IMG n w) == i) || tabHas s.rulDone (n * 8 + c * 4 + k)))
  else if wrk = 2 then
    s.lpEnabled.all (fun sl => bitsOf (s.lpPar sl 3) 0 8 != i || s.lpDone.contains (i * 512 + sl))
  else false

/-! ## Registers (R363, R364) -/

/-- Bits of a record word that exist (Tables 12.9, 12.11). -/
def lpMask (sp i : Nat) : Nat :=
  if sp = 1 then (if i % 16 = 1 ∨ i % 16 = 3 then 0xFFFFFF else 0xFFFFFFFF)
  else if sp = 4 then
    (if i % 16 = 0 then 0x3FFF7FFF else if i % 16 = 1 then 0x00F3FFFF else if i % 16 ≤ 10 then 0xFFFFFFFF else 0)
  else 0xFFFFFFFF

/-- A direct write of a state word (R361, Table 12.10). -/
def State.lpStWrite (s : State) (i v : Nat) : State :=
  if i % 8 = 5 then
    let old := s.lpW 2 i
    let keep := old &&& 0xFF0C
    let err := old &&& 0x30 &&& (0x30 - (v &&& 0x30))
    s.lpSet 2 i (keep ||| (v &&& 3) ||| err)
  else if i % 8 ≤ 4 then s.lpSet 2 i v
  else s

/-- INDEX + 1 with AINC. -/
def State.iwNext (s : State) : State :=
  if s.on LPE.IWADDR_AINC then s.setF LPE.IWADDR_INDEX ((s.f LPE.IWADDR_INDEX + 1) % 2 ^ 20) else s

/-- Is pool word `i` inside the region of an RC record that an enabled slot uses? -/
def State.poolHeld (s : State) (i : Nat) : Bool :=
  (s.rcNamed 512).any (fun r => let x := rcOf (s.lpRc r); decide (x.base ≤ i) && decide (i < x.base + 2 * x.r))

/-- A read of LPE.IWDATA: code, word, state. With `peek` the RC fields keep their values (R475). -/
def State.iwRead (s : State) (rq : Rq) (peek : Bool) : Nat × Nat × State :=
  if !isKbDbg rq.id.toNat then (2, 0, s)
  else
    let sp := s.f LPE.IWADDR_SPACE
    let i := s.f LPE.IWADDR_INDEX
    if i < lpWords sp then
      let s := s.lpFix sp i
      let bad := sp == 6 && s.lpBad 6 i
      let v := if sp = 7 then sineTab i else if bad then 0x7FC00000 else s.lpW sp i
      let s := if bad then s.lpFault 4 (i / 65536) else s
      let s := if peek then s else (if sp = 2 ∧ i % 8 = 7 then s.lpSet 2 i 0 else s).iwNext
      (0, v, s)
    else (0, 0, if peek then s else s.iwNext)

/-- A write of LPE.IWDATA: code, state. -/
def State.iwWrite (s : State) (rq : Rq) (v : Nat) : Nat × State :=
  if !isKbDbg rq.id.toNat then (2, s)
  else
    let sp := s.f LPE.IWADDR_SPACE
    let i := s.f LPE.IWADDR_INDEX
    if i < lpWords sp then
      if sp = 5 ∧ s.poolHeld i then (2, s)
      else
        let s := if sp = 1 ∨ (sp = 2 ∧ i % 8 ≤ 5) ∨ sp = 4 ∨ sp = 5 then (s.eccDrop (lpEccAt sp i) 4 2).eccDrop (lpEccAt sp i) 4 1 else s
        let s := if sp = 1 ∨ sp = 4 then s.lpSet sp i (v &&& lpMask sp i)
          else if sp = 5 then s.lpSet sp i v
          else if sp = 2 then s.lpStWrite i v
          else s
        (0, s.iwNext)
    else (0, s.iwNext)

/-- A write of LPE.PENDSET (R359). -/
def State.pendset (s : State) (v : Nat) : State :=
  if s.on OBS.ACTSTAT_ARMED then s
  else
    let k := if bitOf v 9 then 0x200 + v % 32 else v % 512
    let l := s.lpMarks.filter (fun x => x != k)
    if bitOf v 10 then s.setMarks l else s.setMarks (l ++ [k])

/-- A write of a register of the LPE block at offset `o`: code, state. -/
def State.lpeWrite (s : State) (rq : Rq) (o v : Nat) : Nat × State :=
  if !isKbDbg rq.id.toNat then (2, s)
  else if o = 0x14 then s.iwWrite rq v
  else if o = 0x18 then (0, s.pendset v)
  else if o = 0x1C then (0, if bitOf v 0 then s.lpTrigger 0x60 else s)
  else if 0x200 ≤ o ∧ o < 0x400 ∧ o % 0x20 = 0 then (0, s.tsgWrite ((o - 0x200) / 0x20) v)
  else if 0x400 ≤ o ∧ o < 0x480 ∧ o % 0x20 = 0 then (0, s.capWrite ((o - 0x400) / 0x20) v)
  else (0, s.wrReg (0x40050000 + o) v)

/-! ## Meanings -/

/-- HARDWARE_READY (R321, R344). -/
def execHardwareReady (i : Fin 256) (s : State) : Out :=
  .next (if s.on (PLT.IMGCFG_EN i) && !s.on (PLT.IMGSTAT_READY i) && s.hwReady i then s.setReady i else s)

/-- SOFTWARE_TRIGGER (R339). -/
def execSoftwareTrigger (rq : Rq) (s : State) : Out :=
  let r := s.lpeWrite rq 0x1C 1
  .next (r.2.answer r.1)

/-- PERIOD of local timer `j` in ns: limits and bit 0 as Table 12.8 says. -/
def State.tmrPeriod (s : State) (j : Nat) : Nat := min (max (s.f (LPE.TMRPER_PERIOD j)) 5000) 100000000 / 2 * 2

/-- Has the network time reached BASE + n × PERIOD of timer `j` at this TCLK edge (R340): did its last tick pass that time? -/
def State.tmrDue (s : State) (j : Nat) : Bool :=
  let base := s.fullTime (s.f (LPE.TMRNS_NS j)) (s.f (LPE.TMRSEC_SEC j))
  let unit : Int := 2 ^ 48
  let off := (s.nowSec * secUnit + s.time.sub - base * unit) % (s.tmrPeriod j * unit)
  decide (off < s.tickInc + s.time.rem.sign * min s.time.rem.natAbs s.slewShare)

/-- LOOP_TIMER_FIRE (R340): network time BASE + n × PERIOD of timer `j` has come. -/
def execLoopTimerFire (j : Fin 16) (s : State) : Out :=
  .next (if s.on (LPE.TMRCTL_EN j) && s.tmrDue j then s.lpTrigger (0x50 + j) else s)

/-- LOOP_BATCH (R341, R342). -/
def execLoopBatch (s : State) : Out := .next s.lpBatch

/-- LOOP_STEP (R343, R348, R351). -/
def execLoopStep (l : Fin 4) (s : State) : Out := .next (s.lpStep l)

/-- LOOP_OUTPUT_RESPONSE (R344, R362). -/
def execLoopOutputResponse (l : Fin 4) (s : State) : Out := .next (s.lpAnswer l)

/-- PENDSET_SET (R359). -/
def execPendsetSet (rq : Rq) (kind : Bool) (slot : BitVec 9) (s : State) : Out :=
  let r := s.lpeWrite rq 0x18 (slot.toNat + b2n kind * 0x200)
  .next (r.2.answer r.1)

/-- PENDSET_CLEAR (R359). -/
def execPendsetClear (rq : Rq) (kind : Bool) (slot : BitVec 9) (s : State) : Out :=
  let r := s.lpeWrite rq 0x18 (slot.toNat + b2n kind * 0x200 + 0x400)
  .next (r.2.answer r.1)

/-- RECORD_TAKE (R359): the record's time without a batch has come; a record that a batch takes is taken there. -/
def execRecordTake (kind : Bool) (slot : BitVec 9) (s : State) : Out :=
  let k := if kind then 0x200 + slot.toNat % 32 else slot.toNat
  .next (if s.takeDue k then (if kind then (s.epFlag 8).takeRcAlone (slot.toNat % 32) else s.takeSlot k).activationDone else s)

/-- IWDATA_READ (R364). -/
def execIwdataRead (rq : Rq) (s : State) : Out :=
  let r := s.iwRead rq (rq.id.toNat == idKeyblock && s.on FLT.CTL_PEEK)
  .next (r.2.2.answer r.1 (leBytes 4 r.2.1))

/-- IWDATA_WRITE (R364). -/
def execIwdataWrite (rq : Rq) (val : Word) (s : State) : Out :=
  let r := s.iwWrite rq val.toNat
  .next (r.2.answer r.1)

/-- RC_CLEAR_DONE (R353). -/
def execRcClearDone (s : State) : Out := .next s.endClear

/-- TSG_ARM (R354). -/
def execTsgArm (rq : Rq) (g : Fin 16) (s : State) : Out :=
  let r := s.lpeWrite rq (0x200 + g * 0x20) (s.rd (LPE.TSGCFG g) ||| 3)
  .next (r.2.answer r.1)

/-- TSG_DISABLE (R354). -/
def execTsgDisable (rq : Rq) (g : Fin 16) (s : State) : Out :=
  let r := s.lpeWrite rq (0x200 + g * 0x20) (s.rd (LPE.TSGCFG g) / 4 * 4)
  .next (r.2.answer r.1)

/-- CAPTURE_ARM (R357). -/
def execCaptureArm (rq : Rq) (c : Fin 4) (s : State) : Out :=
  let r := s.lpeWrite rq (0x400 + c * 0x20) (s.rd (LPE.CAPCFG c) ||| 3)
  .next (r.2.answer r.1)

end Sys2Proof.Machine
end

