-- ==== Sys2Proof/Machine/Drafts.lean ====
section
/-! DEFINITION. The Seal and DSEAL as they are read (R517, R518, R545), drafts and REVERT (R519), the OBS block (R526), and the meanings of
the epoch, draft and activation commands. -/
namespace Sys2Proof.Machine

/-! ## The Seal -/

/-- Word addresses of the copies of a register. -/
def dimAddrs (base : Nat) (dims : List (Nat × Nat)) : List Nat :=
  match dims with
  | [] => [base]
  | (stride, n) :: t => (List.range n).flatMap (fun i => dimAddrs (base + i * stride) t)

/-- XOR of H over the words of a register table at their reset values. -/
def tableSeal (t : List RegDesc) : Nat :=
  t.foldl (fun x d => if d.smask = 0 then x else
    (dimAddrs d.base d.dims).foldl (fun x a => x ^^^ sealH a ((resetWord a).toNat &&& d.smask)) x) 0

/-- XOR of H(A, V) over `n` consecutive words. -/
def rangeSeal (a n : Nat) (v : Nat → Nat) : Nat := (List.range n).foldl (fun x i => x ^^^ sealH (a + 4 * i) (v i)) 0

/-- The reset Seal (R545): registers, Stencil bank 0 of every port, entries of tables 1–4, loop spaces 0 and 3. -/
def resetSeal : Nat :=
  let regs := [SW.table, TMU.table, RUL.table, LPE.table, WSC.table, PLT.table, MBUS.table, NMG.table, PORT.table, DM.table, WAKE.table, PHYA.table]
  let x := regs.foldl (fun x t => x ^^^ tableSeal t) 0
  let x := (List.range 22).foldl (fun x p =>
    x ^^^ (bankWords p 0).foldl (fun x w => x ^^^ sealH w.2.2 ((resetWord w.1).toNat &&& w.2.1)) 0) x
  let x := [1, 2, 3, 4].foldl (fun x t => x ^^^ rangeSeal (tblWordAt t 0 0) (4 * tblRoom t) (fun _ => 0)) x
  let sp (k : Nat) : Nat := rangeSeal (0xD0000000 + k * 0x100000) (lpWords k) (fun i => (lpReset (k * 0x100000 + i)).toNat)
  x ^^^ sp 0 ^^^ sp 3

/-- The Seal of the running configuration; the activated words of a message-bus controller count before it takes them. -/
def State.sealNow (s : State) : Nat :=
  s.mbPend.foldl (fun x e => x ^^^ sealChange s.opbank e.1 (s.rd e.1) e.2.toNat) (resetSeal ^^^ s.sealDiff)

/-- What the loop shadow record marked `k` changes in the Seal when it is taken: slot (< 0x200) or RC record. -/
def State.markSeal (s : State) (k : Nat) : Nat :=
  let sp := if k < 0x200 then 0 else 3
  let b := 16 * (k % 0x200)
  (List.range 16).foldl (fun x w =>
    let old := s.lpW sp (b + w)
    let new := s.lpW (sp + 1) (b + w)
    let a := 0xD0000000 + sp * 0x100000 + (b + w) * 4
    if old = new then x else x ^^^ sealH a old ^^^ sealH a new) 0

/-- What the draft copies, the marked loop records and the marked or pending Stencil banks change. -/
def State.draftSeal (s : State) : Nat :=
  let words := s.draft.foldl (fun x e =>
    if e.1 ≥ 0xE0000000 then
      (if e.1 % 0x10 = 0 then
        let t := (e.1 - 0xE0000000) / 0x1000000
        let i := (e.1 - 0xE0000000) % 0x1000000 / 0x10
        x ^^^ tblSeal t i (s.tblEntry t i) ^^^ tblSeal t i (s.tblDraft t i)
      else x)
    else x ^^^ sealChange s.opbank e.1 (s.running e.1) e.2.toNat) 0
  let loops := s.lpMarks.foldl (fun x k => x ^^^ s.markSeal k) 0
  let banks := (List.range 22).foldl (fun x p =>
    if s.stMark.contains p || s.on (SW.STCFG_PEND p) then x ^^^ s.bankSeal p (1 - s.opbank p) else x) 0
  words ^^^ loops ^^^ banks

/-! ## Drafts -/

/-- ACTCTL.REVERT (R519): none while an activation is armed. -/
def State.revert (s : State) : State :=
  if s.on OBS.ACTSTAT_ARMED then s else { s.setMarks [] with draft := [], stMark := [] }

/-- Does a Keyblock access to the word at `a` meet its draft copy? -/
def State.drafts (s : State) (rq : Rq) (a : Nat) : Bool :=
  s.on OBS.ACTCTL_DMODE && rq.id.toNat == idKeyblock && (match regAt a with | some d => d.draft | none => false)

/-- The draft copy of a word: its running value until it is written. -/
def State.draftOf (s : State) (a : Nat) : Nat := (tabGet s.draft (BitVec.ofNat 32 (s.running a)) a).toNat

/-- A write that lands in the draft copy. -/
def State.draftWrite (s : State) (a v : Nat) : State :=
  match regAt a with
  | some d => { s with draft := tabPut s.draft a (BitVec.ofNat 32 (wordWrite a d.flds (s.draftOf a) v)) }
  | none => s

/-! ## The OBS block (R526) -/

/-- A write of ACTCTL: the fields, then REVERT, then ARM. -/
def State.actCtl (s : State) (v : Nat) : State :=
  let s := s.setFs [(OBS.ACTCTL_DMODE, v % 2), (OBS.ACTCTL_REFTT, bitsOf v 4 2), (OBS.ACTCTL_REFEN, bitsOf v 6 1)]
  let s := if bitOf v 2 then s.revert else s
  if bitOf v 1 then s.arm else s

/-- A write of the OBS block: code, state. -/
def State.obsWrite (s : State) (rq : Rq) (o v : Nat) : Nat × State :=
  if !isKbDbg rq.id.toNat then (2, s)
  else if o < 0x10 then (0, s.epWrite (o / 4) v)
  else if o = 0x30 then (0, s.actCtl v)
  else (0, s.wrReg (0x40090000 + o) v)

/-- A read of the OBS block: code, word, state. -/
def State.obsRead (s : State) (rq : Rq) (o : Nat) : Nat × Nat × State :=
  let slot (b : Nat) : Bool := decide (b ≤ o) && decide (o < b + 18496)
  let open_ := decide (o < 0x14) || o == 0x20 || o == 0x24 || o == 0x40 || o == 0x44 || slot 0x4000 || slot 0x9000
  if !isKbDbg rq.id.toNat && !open_ then (2, 0, s)
  else if o = 0x20 then (0, s.sealNow % 2 ^ 32, s)
  else if o = 0x24 then (0, s.sealNow / 2 ^ 32, s)
  else if o = 0x28 then (0, (s.sealNow ^^^ s.draftSeal) % 2 ^ 32, s)
  else if o = 0x2C then (0, (s.sealNow ^^^ s.draftSeal) / 2 ^ 32, s)
  else if slot 0x4000 then (0, s.impWord 0 ((o - 0x4000) / 4), s)
  else if slot 0x9000 then (0, s.impWord 1 ((o - 0x9000) / 4), s)
  else
    let r := s.rdReg (0x40090000 + o)
    (0, r.1, r.2)

/-! ## Meanings -/

/-- EPOCH_BOUNDARY: the boundary of the schedule (R508); in MODE 1 only at a cycle start whose number is a multiple of EPPER, while the
instance fires marks. -/
def execEpochBoundary (s : State) : Out :=
  let n := s.f OBS.EPCFG_TT
  if !s.epValid then .next s
  else if s.epMode = 1 then
    let per := s.f OBS.EPPER_PER
    if s.ttMarks n ∧ per ≠ 0 ∧ s.ttNumber n s.now % per = 0 then
      .next (s.boundaryNow false)
    else .next s
  else .next (s.boundaryNow false)

/-- EPOCH_FORCE (R508). -/
def execEpochForce (rq : Rq) (s : State) : Out :=
  let r := s.obsWrite rq 0 (s.rd OBS.EPCFG % 16 + 16)
  .next (r.2.answer r.1)

/-- EPOCH_CONFIG_WRITE (R508): EPCFG, EPPER, EPBASENS or EPBASESEC. -/
def execEpochConfigWrite (rq : Rq) (i : Fin 4) (val : Word) (s : State) : Out :=
  let r := s.obsWrite rq (4 * i.val) val.toNat
  .next (r.2.answer r.1)

/-- IMPRESSION_WRITTEN (Table 19.1): the slot holds the impression, and its sources fire. Nothing is written while the clocks stand
still. -/
def execImpressionWritten (s : State) : Out :=
  match s.obs.shadow with
  | none => .next s
  | some x => .next (if s.tclkOff then s else ((s.slotWritten.fireBoth 0x41).kevt 14).postEvent 0x8C80 [x.epoch])

/-- REVERT (R519): ACTCTL.REVERT with the other fields as they are. -/
def execRevert (rq : Rq) (s : State) : Out :=
  let r := s.obsWrite rq 0x30 (setBits (s.rd OBS.ACTCTL) 1 2 2)
  .next (r.2.answer r.1)

/-- ACTIVATION_ARM (R520). -/
def execActivationArm (rq : Rq) (s : State) : Out :=
  let r := s.obsWrite rq 0x30 (setBits (s.rd OBS.ACTCTL) 1 2 1)
  .next (r.2.answer r.1)

/-- ACTIVATION_BOUNDARY (R520): the instant T of the words that no Ruling instance governs, unless their boundary lies at a cycle start of
REFTT. -/
def execActivationBoundary (s : State) : Out :=
  .next (if s.refBoundary (s.f OBS.ACTCTL_REFTT) then s else s.otherBoundary)

/-- QUEUE_LENGTH_SAMPLE (Table 19.7a, SRC 2). -/
def execQueueLengthSample (s : State) : Out :=
  .next ((List.range 176).foldl (fun s q => s.sample 2 q (s.f (SW.QSTAT_Q q))) s)

end Sys2Proof.Machine
end

