-- ==== Sys2Proof/Machine/Threads.lean ====
section
/-! DEFINITION. Hardware threads and engines: thread commands (R147), failures (R171, R172), the engine's local reset (R151), software
events (R154), and the CC block as its registers are written and read (R173). -/
namespace Sys2Proof.Machine

/-- Are a context's posted stores answered? -/
def State.postedDone (s : State) (c : Nat) : Bool := (s.core c).posted.isEmpty

/-- Ends a stop or halt that waits, once every posted store is answered (R147, R544). -/
def State.settleHalt (s : State) (c : Nat) : State :=
  match tabGet s.halting 0 c with
  | 0 => s
  | k =>
    if s.postedDone c then
      let s : State := { s with halting := tabDel s.halting c }
      let s := s.setCore c { s.core c with wfe := false }
      match prof c with
      | .e => s.setTh c (if k = 1 then 0 else 6)
      | .a => s.setF (SYS.DBGCTL_HALTED (c - 192)) 1
      | .k => s.setF (SYS.DBGCTL_HALTED 16) 1
    else s

/-- Asks core or thread `c` to stop (1) or halt (2) at its next boundary. -/
def State.askHalt (s : State) (c k : Nat) : State := ({ s with halting := tabPut s.halting c k }).settleHalt c

/-- Reloads a thread's watchdog (R172). -/
def State.reloadWd (s : State) (th : Nat) : State := { s with thWd := tabPut s.thWd th s.ticks }

/-- µs left of a thread's watchdog, from ticks of 2 ns (R172). -/
def State.wdRemain (s : State) (th : Nat) : Nat :=
  s.f (ofTh CC.THWD_LIMIT th) - (s.ticks - tabGet s.thWd s.ticks th) / 500

/-- Operations queued at the checkpoint unit of engine `n`. -/
def State.ckOps (s : State) (n : Nat) : List CkOp := tabGet s.ckq [] n

def State.setCkOps (s : State) (n : Nat) (l : List CkOp) : State :=
  { s with ckq := if l.isEmpty then tabDel s.ckq n else tabPut s.ckq n l }

/-- Drops the operation of thread `th`. -/
def State.dropCk (s : State) (th : Nat) : State :=
  (s.setCkOps (th / 8) ((s.ckOps (th / 8)).filter (fun o => o.th != th))).setF (ofTh CC.CKSTAT_BUSY th) 0

/-- Abandons the checkpoint operation of a thread (R163). -/
def State.abandonCk (s : State) (th : Nat) : State :=
  if (s.ckOps (th / 8)).any (fun o => o.th == th) then
    (s.dropCk th).setFs [(ofTh CC.CKSTAT_ERR th, 1), (ofTh CC.CKSTAT_ERRCODE th, 7)]
  else s

/-- Enters FAILED with `cause`: no instruction issues from then on (R172). -/
def State.setFailed (s : State) (th cause : Nat) : State :=
  let s := s.abandonCk th
  let s : State := { s with halting := tabDel s.halting th }
  let s := s.setCore th { s.core th with wfe := false }
  (s.setTh th 7).setF (ofTh CC.THCTL_FCAUSE th) cause

/-- Does another thread in STANDBY hold the same context key (Table 17.4)? -/
def State.hasStandby (s : State) (th : Nat) : Bool :=
  (List.range 192).any (fun k => k != th && s.thState k == 5 && s.f (ofTh CC.THKEY_KEY k) == s.f (ofTh CC.THKEY_KEY th))

/-- A thread failure (Table 5.13): the thread goes to FAILED and the engine's record is written (Table 17.4). The record of a Double Fault also
receives the original exception's cause (R134), in ADDR: DETAIL is the threads alone (DESIGN CHOICE, log 72). -/
def State.failThread (s : State) (th cause detail : Nat) : State :=
  let n := th / 8
  let cls := if cause = 5 then 2 else if s.hasStandby th then 1 else 2
  let d := if cause = 5 then detail * 0x100 else 2 ^ (th % 8)
  (s.setFailed th cause).fault
    { unit := n, code := cause, cls := cls, detail := d, addr := if cause = 1 then detail else 0, ident := 0x10 + n, key := some (s.f (ofTh CC.THKEY_KEY th)) }

/-- Counts a command without effect (R147). -/
def State.cmdRej (s : State) (th : Nat) : State := s.bump (ofCe CC.ENGSTAT_CMDREJ (th / 8))

/-- Registers of a thread as R140 gives them; posted stores and the cycle count run on. -/
def State.clearRegs (s : State) (th : Nat) : State :=
  let x := s.core th
  s.setCore th { coreReset th x.cyc0 with posted := x.posted }

/-- Event registers at their reset values. -/
def State.clearEvents (s : State) (th : Nat) : State :=
  let s := s.setFs [(ofTh CC.EVPEND_PEND th, 0), (ofTh CC.EVMASK_MASK th, 0xFFFF), (ofTh CC.EVSEEN_SEEN th, 0), (ofTh CC.EVMRG_MERGED th, 0)]
  (List.range 16).foldl (fun s i => s.wr (CC.EVSEL (th / 24) (th / 8 % 3) (th % 8) i) 0) s

/-- CLEAR (Table 5.2, Table 5.19). -/
def State.thClear (s : State) (th : Nat) : State :=
  let s : State := { s with halting := tabDel s.halting th }
  let s := ((s.clearRegs th).clearEvents th).setFs
    [(ofTh CC.THCOS_COS th, 0), (ofTh CC.CKSTAT_VALID th, 0), (ofTh CC.CKSTAT_CKCNT th, 0)]
  s.setTh th 0

/-- A thread command (Table 5.2) by the Keyblock or the debug port. -/
def State.thCmd (s : State) (dbg : Bool) (th cmd pend : Nat) : State :=
  let st := s.thState th
  match cmd with
  | 0 => s
  | 1 =>
    if st = 0 then
      let s := s.clearRegs th
      let s := s.setCore th { s.core th with pc := BitVec.ofNat 32 (4 * s.f (ofTh CC.THPC_PC th)) }
      (s.reloadWd th).setTh th 1
    else s.cmdRej th
  | 2 => if st = 1 ∨ st = 2 ∨ st = 6 then s.askHalt th 1 else s.cmdRej th
  | 3 =>
    if st = 0 ∨ st = 5 then
      let s := s.setCkOps (th / 8) (s.ckOps (th / 8) ++ [⟨th, true, false, pend, 0, 0, [], 0, s.ticks⟩])
      (s.setF (ofTh CC.CKSTAT_BUSY th) 1).setTh th 4
    else s.cmdRej th
  | 4 => if st = 0 then s.setTh th 5 else s.cmdRej th
  | 5 => if st = 3 ∨ st = 4 then s.cmdRej th else s.thClear th
  | 6 => if st = 1 ∨ st = 2 ∨ st = 3 ∨ st = 6 then s.failThread th 3 0 else s.cmdRej th
  | _ =>
    if !dbg then s.cmdRej th
    else if st = 1 ∨ st = 2 then s.askHalt th 2
    else if st = 6 then ({ s with halting := tabDel s.halting th }).setTh th 1
    else s.cmdRej th

/-- The local reset of engine `n` (R151): every thread stopped as after CLEAR, the RAMs cleared by ENGINE_CLEAR_DONE; effects on the
mailbox unit and the leases as for every identity (R95, R330). -/
def State.engineReset (s : State) (n : Nat) : State :=
  let s := (List.range 8).foldl (fun s t =>
    let th := 8 * n + t
    let s := (s.dropCk th).thClear th
    s.setCore th { s.core th with cyc0 := s.coreTick th }) s
  let s := s.setFs [(ofCe CC.ENGSTAT_EFAIL n, 0), (ofCe CC.ENGSTAT_CLEARING n, 1)]
  ((s.resetIdentity (0x10 + n)).releaseIdentity (0x10 + n)).freshCredits n

/-- A write of SWEVT of engine `n` (Table 5.15): source 0x80 + u of the issuing thread u; a write by another master names no issuing
thread and fires nothing. -/
def State.swevt (s : State) (rq : Rq) (n mask : Nat) : State :=
  match rq.rkey with
  | some k =>
    if k.toNat / 8 = n ∧ rq.id.toNat = 0x10 + n then
      s.fireFor (fun th => th / 8 == n && bitOf mask (th % 8)) (0x80 + k.toNat % 8)
    else s
  | none => s

/-- The engine thread of cluster `c` that issued a request. -/
def threadOf (rq : Rq) (c : Nat) : Option Nat :=
  match rq.rkey with
  | some k => if 0x10 ≤ rq.id.toNat ∧ rq.id.toNat ≤ 0x27 ∧ k.toNat / 24 = c then some k.toNat else none
  | none => none

/-- Address of register offset `r` of thread `th`. -/
def thAddr (th r : Nat) : Nat := ofTh CC.THCTL th + r

/-- A write at offset `o` of the CC block of cluster `c` (R173): response code and state. -/
def State.ccWrite (s : State) (rq : Rq) (c o v : Nat) : Nat × State :=
  let id := rq.id.toNat
  let a := 0x40200000 + c * 0x10000 + o
  if 0x8000 ≤ o then s.burinRegWrite rq c o v
  else if 0x4000 ≤ o ∧ o < 0x4080 then
    match threadOf rq c with
    | none => if isKbDbg id then (0, s) else (2, s)
    | some th =>
      let r := o - 0x4000
      if r = 0 then
        if v % 8 = 6 then (0, s.thCmd false th 6 0) else if v % 8 = 0 then (0, s) else (2, s)
      else if r = 0x28 ∨ r = 0x2C ∨ 0x40 ≤ r then (0, s.wrReg (thAddr th r) v)
      else (2, s)
  else
    let n := 3 * c + (o / 0x1000 - 1)
    let eng : Bool := decide (0x1000 ≤ o) && decide (o < 0x4000)
    let q := o % 0x1000
    if eng && q == 0xC then
      if isKbDbg id || id == 0x10 + n then (0, s.swevt rq n v) else (2, s)
    else if !isKbDbg id then (2, s)
    else if eng && q == 0 then
      let s := s.wrReg a v
      (0, if bitOf v 0 then s.engineReset n else s)
    else if eng && decide (0x100 ≤ q) && decide (q < 0x500) && q % 0x80 == 0 then
      (0, s.thCmd (id == idDebug) (8 * n + (q - 0x100) / 0x80) (v % 8) (v / 0x10000))
    else (0, s.wrReg a v)

/-- A read at offset `o` of the CC block of cluster `c`: response code, value, state. -/
def State.ccRead (s : State) (rq : Rq) (c o : Nat) : Nat × Nat × State :=
  let id := rq.id.toNat
  if 0x8000 ≤ o then s.burinRegRead rq c o
  else if !isKbDbg id && clusterOf id != some c then (2, 0, s)
  else
    let a := if 0x4000 ≤ o ∧ o < 0x4080 then (threadOf rq c).map (fun th => thAddr th (o - 0x4000))
      else some (0x40200000 + c * 0x10000 + o)
    match a with
    | none => (0, 0, s)
    | some a =>
      let q := a % 0x1000
      let p := a % 0x10000
      if 0x1000 ≤ p ∧ p < 0x4000 ∧ 0x100 ≤ q ∧ q < 0x500 ∧ q % 0x80 = 0x38 then
        let th := (3 * c + (p / 0x1000 - 1)) * 8 + (q - 0x100) / 0x80
        (0, s.f (ofTh CC.THWD_LIMIT th) + s.wdRemain th * 0x10000, s)
      else
        let r := s.rdReg a
        (0, r.1, r.2)

/-! ## Meanings -/

/-- A command written to THCTL of thread `th`, or through the thread's own alias. -/
def thCommand (rq : Rq) (th : Fin 192) (cmd pend : Nat) (s : State) : Out :=
  let c := th.val / 24
  s.atCluster c (fun s =>
    let o := if threadOf rq c = some th.val then 0x4000 else 0x1000 + th.val / 8 % 3 * 0x1000 + 0x100 + th.val % 8 * 0x80
    let r := s.ccWrite rq c o (cmd + pend * 0x10000)
    .next (r.2.answer r.1))

/-- THREAD_START. -/
def execThreadStart (rq : Rq) (th : Fin 192) (s : State) : Out := thCommand rq th 1 0 s

/-- THREAD_STOP. -/
def execThreadStop (rq : Rq) (th : Fin 192) (s : State) : Out := thCommand rq th 2 0 s

/-- THREAD_RESTORE (R165–R167). -/
def execThreadRestore (rq : Rq) (th : Fin 192) (pend : BitVec 16) (s : State) : Out := thCommand rq th 3 pend.toNat s

/-- THREAD_STANDBY. -/
def execThreadStandby (rq : Rq) (th : Fin 192) (s : State) : Out := thCommand rq th 4 0 s

/-- THREAD_CLEAR. -/
def execThreadClear (rq : Rq) (th : Fin 192) (s : State) : Out := thCommand rq th 5 0 s

/-- THREAD_FAIL, by the Keyblock, the debug port or the thread itself. -/
def execThreadFail (rq : Rq) (th : Fin 192) (s : State) : Out := thCommand rq th 6 0 s

/-- THREAD_DEBUG (R147, R544). -/
def execThreadDebug (rq : Rq) (th : Fin 192) (s : State) : Out := thCommand rq th 7 0 s

/-- ENGINE_LOCAL_RESET: ENGCTL.LRST with the HOLD in force. -/
def execEngineLocalReset (rq : Rq) (n : Fin 24) (s : State) : Out :=
  s.atCluster (n / 3) (fun s =>
    let r := s.ccWrite rq (n / 3) (0x1000 + n % 3 * 0x1000) (1 + 2 * s.f (ofCe CC.ENGCTL_HOLD n))
    .next (r.2.answer r.1))

/-- ENGINE_CLEAR_DONE (R151): the engine's instruction and data RAM read zero. -/
def execEngineClearDone (n : Fin 24) (s : State) : Out :=
  if s.on (ofCe CC.ENGSTAT_CLEARING n) then
    let b := 0x20000000 + n.val * 0x40000
    .next ((s.clearMem (fun a => decide (b ≤ a) && decide (a < b + 0x20000))).setF (ofCe CC.ENGSTAT_CLEARING n) 0)
  else .next s

/-- SOFTWARE_EVENT (Table 5.4). -/
def execSoftwareEvent (rq : Rq) (n : Fin 24) (mask : BitVec 8) (s : State) : Out :=
  s.atCluster (n / 3) (fun s =>
    let r := s.ccWrite rq (n / 3) (0x100C + n % 3 * 0x1000) mask.toNat
    .next (r.2.answer r.1))

/-- THREAD_WATCHDOG_EXPIRY (R172). -/
def execThreadWatchdogExpiry (th : Fin 192) (s : State) : Out :=
  let st := s.thState th
  if s.f (ofTh CC.THWD_LIMIT th) ≠ 0 ∧ 1 ≤ st ∧ st ≤ 3 then .next (s.failThread th 2 0) else .next s

/-- ENGINE_PARITY_ERROR (Table 5.13): every thread FAILED with FCAUSE 4. -/
def execEngineParityError (n : Fin 24) (s : State) : Out :=
  let rec1 := (List.range 8).any (fun t => s.hasStandby (8 * n + t))
  let s := (List.range 8).foldl (fun s t => s.setFailed (8 * n + t) 4) s
  .next ((s.setF (ofCe CC.ENGSTAT_EFAIL n) 1).fault
    { unit := n, code := 4, cls := if rec1 then 1 else 2, detail := 0xFF, ident := 0x10 + n })

end Sys2Proof.Machine
end

