-- ==== Sys2Proof/Machine/Faults.lean ====
section
/-! DEFINITION. The fault hub's registers and recoveries (R452–R459), the Burnisher and the Keyblock's restart (R466–R469, R478), what a
restart and a reset end of the Feholt sessions (R75, R82, R83). -/
namespace Sys2Proof.Machine

/-! ## Sessions that end -/

/-- What ends with session `n` (R75): its drafts that are not activated, its long commands with ABORTED (`post`: with completions, R82), its
installation (R505). -/
def State.endSession (s : State) (n : Nat) (post : Bool) : State :=
  let mine := s.longs.filter (fun l => l.sess == n)
  let s := if post then mine.foldl (fun s l => s.eventTo n (l.opcode + 0x8000) l.tag 0x42 []) s else s
  let s : State := { s with longs := s.longs.filter (fun l => l.sess != n) }
  let s := if s.draftOwner = some n then { s.revert.setF OBS.ACTCTL_DMODE 0 with draftOwner := none } else s
  if s.install = some n then { s with install := none, installEnd := 0x42 } else s

/-- Closes session `n` (R75): its subscriptions end with it, and the events that wait in its queue are dropped, completions with ABORTED among them
(DESIGN CHOICE, log 70). The count of the reply channel goes on (R65). -/
def State.closeSession (s : State) (n : Nat) (post : Bool) : State :=
  let t := s.endSession n post
  t.setSession n { Session.closed with repSeq := (t.session n).repSeq, waiting := if post then (t.session n).waiting else [] }

/-- Releases every committed slot of a command channel without an answer; FLRDISC of the sending function counts them (R83). -/
def State.discardCommands (s : State) (n : Nat) : State :=
  let c := 2 * n
  let k := s.committedCount c
  let s := if n < 2 then s.bump FLT.FLRDISC_F0 k else s.bump FLT.FLRDISC_F1 k
  (List.range k).foldl (fun s _ => s.releaseSlot ⟨0x08, none, none, 0, false, false⟩ c) s

/-! ## Context failover as firmware and the ROM make it (R459, Table 17.6) -/

/-- Writes a stand-in entry: the thread's own where one is valid, which a repeat rewrites (R467), else the lowest that is not valid (R101); none is
free: nothing is written. -/
def State.addStandin (s : State) (thread acts : Nat) : State :=
  let own := (List.range 32).find? (fun i => s.on (MBX.STANDIN_V i) && s.f (MBX.STANDIN_THREAD i) == thread)
  match own.or ((List.range 32).find? (fun i => !s.on (MBX.STANDIN_V i))) with
  | some i => s.setFs [(MBX.STANDIN_THREAD i, thread), (MBX.STANDIN_ACTING i, acts), (MBX.STANDIN_V i, 1)]
  | none => s

/-- Clears the stand-in entries of a thread. -/
def State.dropStandin (s : State) (thread : Nat) : State :=
  (List.range 32).foldl (fun s i =>
    if s.on (MBX.STANDIN_V i) && s.f (MBX.STANDIN_THREAD i) == thread then s.setF (MBX.STANDIN_V i) 0 else s) s

/-- Writes 1–6 of Table 17.6 for the failed thread `t` and the standby thread `u`; CONTEXT_STATE reports it (R77). -/
def State.failover (s : State) (t u : Nat) : State :=
  let k := s.f (ofTh CC.THKEY_KEY t)
  let seen := s.f (ofTh CC.EVSEEN_SEEN t)
  let acts := s.thActs t
  let s := ((s.mbxRevert k).swRevert k).releaseHolder k
  let s := (s.dropStandin t).addStandin u acts
  (s.thCmd false u 3 seen).postEvent 0x8280 [u, 2]

/-- The other threads with the context key of `t`, in one of the states of `l`. -/
def State.twins (s : State) (t : Nat) (l : List Nat) : List Nat :=
  (List.range 192).filter (fun u => u != t && s.f (ofTh CC.THKEY_KEY u) == s.f (ofTh CC.THKEY_KEY t) && l.elem (s.thState u))

/-- R467 for one thread that a CE record names: restored already, being restored (log 85), no standby, or the failover. -/
def State.romThread (s : State) (t : Nat) : State :=
  if !(s.twins t [1, 2, 3, 4]).isEmpty then s
  else
    match s.twins t [5] with
    | u :: _ => s.failover t u
    | [] => s

/-- Is the context of thread `t` lost: no thread holds its key and stands by or runs (R467)? -/
def State.ctxLost (s : State) (t : Nat) : Bool := (s.twins t [1, 2, 3, 4, 5]).isEmpty

/-- The local reset of application core `n`: registers, L1 memories, its identity at the mailbox unit, its items (Table 14.6). -/
def State.resetAppCore (s : State) (n : Nat) : State :=
  let c := 192 + n
  let s := s.coreReset4 n
  let s := s.setCore c (coreReset c (s.coreTick c))
  let s : State := { s with halting := tabDel s.halting c }
  let s := s.setFs [(SYS.DBGCTL_HALTED n, 0), (SYS.DBGCTL_BRKHIT n, 0)]
  let b := 0x100000000 + n * 0x20000
  let s := s.clearMem (fun a => decide (b ≤ a) && decide (a < b + 0x20000))
  ((s.resetIdentity (0x30 + n)).releaseIdentity (0x30 + n)).freshCredits (0x20 + n)

/-- The context keys of core `n` (Table 14.7). -/
def coreKeys (n : Nat) : List Nat := [192 + 4 * n, 193 + 4 * n, 194 + 4 * n, 195 + 4 * n]

/-- Table 14.7 for core `n` as far as it can go: steps 1–3 while items are frozen; step 6 when KEYBUSY is 0. Between them the scheduler runs the items
again. -/
def State.romCore (s : State) (n : Nat) : State :=
  let busy := s.f (WSC.CORESTAT_KEYBUSY n)
  if !(s.itemsAt n 3).isEmpty then
    ((coreKeys n).foldl (fun s key =>
      if bitOf busy (key - (192 + 4 * n)) then (s.mbxRevert key).addStandin key (0x30 + n) else s) s).coreOp n 1
  else if busy = 0 ∧ s.f (WSC.CORESTAT_STATE n) = 2 then
    (((coreKeys n).foldl State.dropStandin s).resetAppCore n).coreOp n 3
  else s

/-- Records of engines and cores that a recovery serves, in the order of SEQ (R467). -/
def State.romOrder (s : State) : List Nat :=
  let l := ((List.range 24) ++ (List.range 16).map (· + 0x20)).filter (fun u =>
    s.on (FLT.REC0_V u) && decide (1 ≤ s.f (FLT.REC0_CODE u)) && decide (s.f (FLT.REC0_CODE u) ≤ 4) && !s.on (FLT.REC0_FATAL u)
      && (decide (u < 24) || s.coreClass == 1))
  l.foldl (fun acc u =>
    let q := s.f (FLT.REC_SEQ_SEQ u)
    acc.filter (fun v => decide (s.f (FLT.REC_SEQ_SEQ v) ≤ q)) ++ u :: acc.filter (fun v => decide (q < s.f (FLT.REC_SEQ_SEQ v)))) []

/-- The threads that the record of engine `n` names. -/
def State.recThreads (s : State) (n : Nat) : List Nat :=
  ((List.range 8).filter (fun t => bitOf (s.f (FLT.REC_DETAIL_DETAIL n)) t)).map (fun t => 8 * n + t)

/-- One pass of the ROM over the records in the order of SEQ (R467). The ROM writes MBX.DBMASK08, and commits to the Keyblock are taken again (Table
3.3); the mask it writes is as the reset left it (log 85). -/
def State.romPass (s : State) : State :=
  { s.romOrder.foldl (fun s u => if u < 24 then (s.recThreads u).foldl State.romThread s else s.romCore (u - 0x20)) s with kbOff := false }

/-- Must the ROM wait before it closes the recovery: a target is not in RUN yet (Table 17.6, order 7), or the items of a failed core still run again
(Table 14.7, step 5)? -/
def State.romWaits (s : State) : Bool :=
  s.romOrder.any (fun u =>
    if u < 24 then (s.recThreads u).any (fun t => (s.twins t [1, 2, 3]).isEmpty && !(s.twins t [4]).isEmpty)
    else s.f (WSC.CORESTAT_STATE (u - 0x20)) == 2)

/-- The contexts that no standby thread restores (R467). -/
def State.romLost (s : State) : List Nat :=
  s.romOrder.flatMap (fun u => if u < 24 then (s.recThreads u).filter s.ctxLost else [])

/-- The close of a recovery (R455): only OPENSEQ closes it. -/
def State.rdone (s : State) (v : Nat) : State :=
  if s.on FLT.STAT_OPEN && v == s.f FLT.OPENSEQ_SEQ then
    let s := s.setF FLT.STAT_OPEN 0
    if s.f FLT.STAT_STATE = 1 then s.setF FLT.STAT_STATE 0 else s
  else s

/-! ## The FLT block (R477) -/

/-- A notice as a read returns it. -/
def Notice.word (n : Notice) (v : Bool) : Nat := n.unit + n.code * 0x10000 + n.cls * 0x1000000 + b2n v * 0x80000000

/-- FAULT_N (R458). -/
def State.refreshFaultN (s : State) : State :=
  s.setFaultN (decide (2 ≤ s.f FLT.STAT_STATE) || s.on FLT.CTL_FORCE)

/-- Clears the record of unit `u`. -/
def State.clearRecord (s : State) (u : Nat) : State := (List.range 8).foldl (fun s w => s.wr (FLT.REC0 u + 4 * w) 0) s

/-- A write of the FLT block: code, state. -/
def State.fltWrite (s : State) (rq : Rq) (o v : Nat) : Nat × State :=
  let a := 0x40080000 + o
  if !isKbDbg rq.id.toNat then (2, s)
  else if o = 4 ∨ o = 0x3C ∨ o = 0x30 then (0, if s.on FLT.CFG_LOCK then s else s.wrReg a v)
  else if o = 8 then (0, (s.wrReg a v).refreshFaultN)
  else if o = 0x18 then (0, s.rdone v)
  else if o = 0x2C then
    (0, s.fault { unit := 0xBA, code := v % 256, cls := if bitOf v 8 then 3 else 2, ident := rq.id.toNat })
  else if 0x1000 ≤ o ∧ o < 0x1000 + 354 * 0x20 then
    (0, if o % 0x20 = 0 ∧ bitOf v 0 then s.clearRecord ((o - 0x1000) / 0x20) else s)
  else (0, s.wrReg a v)

/-- A read of the FLT block: code, word, state. A Keyblock read of NOTICE removes the oldest entry, unless PEEK is 1 (R453, R475). -/
def State.fltRead (s : State) (rq : Rq) (o : Nat) (peek : Bool) : Nat × Nat × State :=
  let open_ := o == 0 || o == 0xC || o == 0x1C || o == 0x28 || decide (0x1000 ≤ o)
  if !isKbDbg rq.id.toNat && !open_ then (2, 0, s)
  else if o = 0x10 then
    match s.notices with
    | [] => (0, 0, s)
    | n :: t =>
      if rq.id.toNat = idKeyblock ∧ !peek then (0, n.word true, { s with notices := t }) else (0, n.word false, s)
  else if o = 0x14 then
    let r := s.rdReg (0x40080000 + o)
    (0, r.1 / 128 * 128 + s.notices.length, r.2)
  else if o = 0x20 then (0, s.kevtNow, s)
  else
    let r := s.rdReg (0x40080000 + o)
    (0, r.1, r.2)

/-! ## The Keyblock and the Burnisher (Table 17.10) -/

/-- Restarts of the Keyblock within the last WIN seconds of the Burnisher's milliseconds (R469). `brnAt` keeps no stamp that is older than the longest
WIN. -/
def State.recentRestarts (s : State) : Nat :=
  let win := max (s.f BRN.LIMIT_WIN) 1 * 1000
  (s.brnAt.filter (fun t => decide ((s.f BRN.TICK_MS + 2 ^ 32 - t) % 2 ^ 32 < win))).length

/-- A millisecond of the Burnisher's oscillator: TICK counts it, and a restart that no WIN reaches any more is forgotten (R469). -/
def State.brnTick (s : State) : State :=
  let now := (s.f BRN.TICK_MS + 1) % 2 ^ 32
  { s.setF BRN.TICK_MS now with brnAt := s.brnAt.filter (fun t => decide ((now + 2 ^ 32 - t) % 2 ^ 32 < 255000)) }

/-- The Keyblock in local reset: its core, its identity at the mailbox unit, its private RAM, the sessions; PEEK clears (R83, R91, R95, R475). -/
def State.resetKeyblock (s : State) : State :=
  let s := [0, 1, 2, 3].foldl (fun s n => s.closeSession n false) s
  let s := s.setCore 208 { coreReset 208 (s.coreTick 208) with posted := [] }
  let s := (((s.resetIdentity 0x08).releaseIdentity 0x08).freshCredits 0xA3).setFs [(FLT.CTL_PEEK, 0), (SYS.DBGCTL_HALTED 16, 0), (SYS.DBGCTL_BRKHIT 16, 0)]
  let s : State := { s with halting := tabDel s.halting 208, kbOff := true }
  s.clearMem (fun a => decide (0x101000000 ≤ a) && decide (a < 0x102000000))

/-- A failure of the Keyblock with fault code `code`, which is also the Burnisher's CAUSE: 1 lockstep, 2 heartbeat, 3 Double Fault, 4 ROM
timeout. Without an armed Burnisher the provision fails: the fault is Reported (R451) and the Keyblock stays stopped. -/
def State.failKeyblock (s : State) (code detail : Nat) : State :=
  let st := s.f BRN.STAT_STATE
  if st = 1 ∨ st = 2 then
    let lim := max (s.f BRN.LIMIT_LIMIT) 1
    if lim ≤ s.recentRestarts then
      (s.resetKeyblock.setF BRN.STAT_STATE 3).fault { unit := 0xB3, code := 5, cls := 3, detail := detail, ident := 0x08 }
    else
      let s : State := { s.resetKeyblock with brnAt := s.f BRN.TICK_MS :: s.brnAt, romDue := true }
      let s := (s.setFs [(BRN.STAT_STATE, 2), (BRN.STAT_CAUSE, code)]).bump BRN.STAT_RESTARTS
      s.fault { unit := 0xB3, code := code, cls := 1, detail := detail, ident := 0x08 }
  else if st = 3 then s
  else
    (s.setCore 208 { s.core 208 with dead := true }).fault { unit := 0xB3, code := code, cls := 2, detail := detail, ident := 0x08 }

/-- A write of the BRN block at offset `r` from 0x4040_4000 (R478): code, state. -/
def State.brnWrite (s : State) (rq : Rq) (r v : Nat) : Nat × State :=
  let id := rq.id.toNat
  if 0x100 ≤ r then (0, s)
  else if (regAt (0x40404000 + r)).isNone ∧ isKbDbg id then (0, s)
  else if r = 0 ∧ isKbDbg id then
    let was := s.on BRN.CTL_EN
    let s := s.wrReg BRN.CTL v
    let s := if was && id != idDebug then s.setF BRN.CTL_EN 1 else s
    let st := s.f BRN.STAT_STATE
    (0, if s.on BRN.CTL_EN then (if st = 0 then s.setF BRN.STAT_STATE 1 else s)
        else if st = 1 ∨ st = 2 then s.setF BRN.STAT_STATE 0 else s)
  else if r = 0xC ∧ isKbDbg id then (0, s.wrReg BRN.LIMIT v)
  else if r = 4 ∧ id = idKeyblock then
    let want := if s.on BRN.STAT_EXPECT then 0xA5 else 0x5A
    if v % 256 = want then
      let s := s.setF BRN.STAT_EXPECT (1 - s.f BRN.STAT_EXPECT)
      (0, if s.f BRN.STAT_STATE = 2 then s.setF BRN.STAT_STATE 1 else s)
    else (0, s.bump BRN.STAT_BADHB)
  else (2, s)

/-! ## Meanings -/

/-- NOTICE_READ (R453). -/
def execNoticeRead (rq : Rq) (s : State) : Out :=
  let r := s.fltRead rq 0x10 (s.on FLT.CTL_PEEK)
  .next (r.2.2.answer r.1 (leBytes 4 r.2.1))

/-- RECOVERY_DONE (R455). -/
def execRecoveryDone (rq : Rq) (seq : Word) (s : State) : Out :=
  let r := s.fltWrite rq 0x18 seq.toNat
  .next (r.2.answer r.1)

/-- RECORD_CLEAR (R452). -/
def execRecordClear (rq : Rq) (u : Fin 354) (s : State) : Out :=
  let r := s.fltWrite rq (0x1000 + u.val * 0x20) 1
  .next (r.2.answer r.1)

/-- SOFTWARE_FAULT_RECORD (Table 17.16). -/
def execSoftwareFaultRecord (rq : Rq) (code : BitVec 8) (fatal : Bool) (s : State) : Out :=
  let r := s.fltWrite rq 0x2C (code.toNat + b2n fatal * 256)
  .next (r.2.answer r.1)

/-- FORCE_WRITE (R458): CTL with PEEK as it is. -/
def execForceWrite (rq : Rq) (force : Bool) (s : State) : Out :=
  let r := s.fltWrite rq 8 (b2n force + 2 * s.f FLT.CTL_PEEK)
  .next (r.2.answer r.1)

/-- HEARTBEAT (R468). -/
def execHeartbeat (rq : Rq) (val : BitVec 8) (s : State) : Out :=
  let r := s.brnWrite rq 4 val.toNat
  .next (r.2.answer r.1)

/-- HEARTBEAT_TIMEOUT (R468): the heartbeat is timed while the Burnisher is armed, and not in Hold (R490). -/
def execHeartbeatTimeout (s : State) : Out :=
  if s.f BRN.STAT_STATE = 1 ∧ s.f SYS.PWRSTAT_STATE = 0 then .next (s.failKeyblock 2 0) else .next s

/-- LOCKSTEP_DIVERGENCE (R466): of a Keyblock that runs. -/
def execLockstepDivergence (s : State) : Out :=
  if (s.core 208).dead ∨ s.f BRN.STAT_STATE = 3 then .next s else .next (s.failKeyblock 1 0)

/-- ROM_TIMEOUT (Table 17.10, step 5). -/
def execRomTimeout (s : State) : Out :=
  if s.f BRN.STAT_STATE = 2 then .next (s.failKeyblock 4 0) else .next s

/-- ROM_RECOVERY (R467, R83, R521): a pass of the ROM over the records. While a target is still being restored, or a core's items run again, the ROM
goes on waiting and another ROM_RECOVERY is its next pass (log 85). Else RDONE, the commands of the failed run discarded, the draft reverted,
KEYBLOCK_RESTARTED, and CONTEXT_STATE for each context that is lost. With no valid main firmware (`ok` false) the device enters DEGRADED instead. -/
def execRomRecovery (ok : Bool) (s : State) : Out :=
  if !s.romDue || s.f BRN.STAT_STATE == 3 then .next s
  else if s.romPass.romWaits then .next s.romPass
  else
    let s : State := { s.romPass with romDue := false }
    let lost := s.romLost
    let s := s.rdone (s.f FLT.OPENSEQ_SEQ)
    if ok then
      let s := [0, 1, 2, 3].foldl State.discardCommands s
      let s := s.revert.setF OBS.ACTCTL_DMODE 0
      let s := [0, 1, 2, 3].foldl (fun s n =>
        if s.busMaster (n / 2) then (s.setSession n { s.session n with repSeq := 0 }).postMsg n 0x8180 0xFFFF 0 0 [] else s) s
      .next (lost.foldl (fun s t => s.postEvent 0x8280 [t, 0]) s)
    else .next (s.degraded.setF SYS.BOOTSTAT_STAGE 5)

/-- OSCILLATOR_CHECK (R468): within 10 % of the port-die PLL (0), outside (1), stopped (2). BRN.TICK counts its milliseconds. -/
def execOscillatorCheck (osc : Fin 3) (s : State) : Out :=
  let s := if osc.val = 2 then s else s.brnTick
  if osc.val = 0 then .next s else .next (s.fault { unit := 0xB8, code := 1, cls := 2, ident := 0x09 })

/-- Units whose control state Table 17.4 covers with CODE 0x0F. -/
def controlUnit (u : Nat) : Bool :=
  (decide (0xA8 ≤ u) && decide (u ≤ 0xB2)) || u == 0xB6 || (decide (0x38 ≤ u) && decide (u ≤ 0x3B)) || (decide (0x18 ≤ u) && decide (u ≤ 0x1F))

/-- CONTROL_STATE_ERROR (Table 17.4). -/
def execControlStateError (u : Fin 354) (s : State) : Out :=
  if controlUnit u then .next (s.fault { unit := u, code := 0xF, cls := 3 }) else .next s

end Sys2Proof.Machine
end

