-- ==== Sys2Proof/Machine/Panto.lean ====
section
/-! DEFINITION. Pantograph channels (chapter 15) as registers: ownership, starts, aborts, errors, WAIT sources, reset. -/
namespace Sys2Proof.Machine

def State.pan (s : State) (n j : Nat) : Panto := tabGet s.panto Panto.reset (16 * n + j)
def State.setPan (s : State) (n j : Nat) (x : Panto) : State := { s with panto := cellPut s.panto Panto.reset (16 * n + j) x }

def State.chanSt (s : State) (n j : Nat) : Nat := s.f (DM.CHSTAT_STATE n j)

/-- A channel's state, with DM.STAT. -/
def State.setDmChan (s : State) (n j st : Nat) : State :=
  let s := s.setF (DM.CHSTAT_STATE n j) st
  let s := s.setF (DM.STAT_BUSY n) (setBits (s.f (DM.STAT_BUSY n)) j 1 (b2n (st != 0 && st != 5)))
  s.setF (DM.STAT_ERR n) (setBits (s.f (DM.STAT_ERR n)) j 1 (b2n (st == 5)))

/-- Is the requester the channel's owner (R415)? -/
def State.chanOwner (s : State) (rq : Rq) (n j : Nat) : Bool :=
  if s.on (DM.CHCFG_KV n j) then rq.key == some (BitVec.ofNat 8 (s.f (DM.CHCFG_OWNKEY n j)))
  else s.acting rq == s.f (DM.CHCFG_OWNER n j)

/-- Does an address lie in a scratchpad of the instance's region, at a scratchpad offset of an engine window? -/
def inScratch (n a len : Nat) : Bool :=
  let e := (a - 0x20000000) / 0x40000
  let o := (a - 0x20000000) % 0x40000
  decide (0x20000000 ≤ a) && e / 6 == n && decide (0x20000 ≤ o) && decide (o + len ≤ 0x40000)

/-- Plate or its rotate alias. -/
def inPlateOrAlias (a len : Nat) : Bool := inPlate a len || (decide (0x12000000 ≤ a) && decide (a + len ≤ 0x13800000))

/-- Ranges a program may be fetched from (Table 15.1). -/
def fetchRange (n a : Nat) : Bool := inPlateOrAlias a 16 || inScratch n a 16

/-- A start (Table 15.2): response code and state. A host write that no SIGNAL has flushed is still to be flushed (R425). -/
def State.chanStart (s : State) (rq : Rq) (n j prog : Nat) : Nat × State :=
  let own := s.chanOwner rq n j
  if !own && !isKbDbg rq.id.toNat then (2, s)
  else if s.staleAt (s.rplValid (2 + n)) (fun k => s.f (DM.RPL_LAST_COS n k)) rq.key rq.cos.toNat then
    (0, (s.bump (DM.ABSCNT_ABSORBED n)).countG 33)
  else if !s.on (DM.CHCFG_EN n j) || s.chanSt n j != 0 || !fetchRange n (16 * prog) then (2, s.bump (DM.CHSTAT_STARTREJ n j))
  else
    let s := match rq.key with
      | some k => (s.setF (DM.RPL_LAST_COS n k.toNat) rq.cos.toNat).rplSet (2 + n) k.toNat
      | none => s
    let s := (s.setPan n j { Panto.reset with host := (s.pan n j).host }).setFs
      [(DM.CHPC_PC n j, prog), (DM.CHPSRC_A n j, 0), (DM.CHPDST_A n j, 0), (DM.CHSTAT_WPEND n j, 0)]
    (0, s.setDmChan n j 1)

/-- A write of CHCTL (R428, R429). -/
def State.chanCtl (s : State) (n j v : Nat) : State :=
  let st := s.chanSt n j
  let s := if bitOf v 0 && (st == 1 || st == 2 || st == 3) then s.setDmChan n j 4 else s
  if bitOf v 1 && st == 5 then (s.setF (DM.CHSTAT_CAUSE n j) 3).setDmChan n j 0 else s

/-- A channel error (R429). -/
def State.chanErr (s : State) (n j code addr : Nat) (fetch : Bool) : State :=
  let s := (s.setFs [(DM.CHSTAT_ERRCODE n j, code), (DM.CHSTAT_FETCH n j, b2n fetch), (DM.CHERR_ADDR n j, addr)]).setDmChan n j 5
  let s := (s.count (0x63C + 3 * (16 * n + j) + 2)).setPan n j { s.pan n j with xfer := none }
  let key := if s.on (DM.CHCFG_KV n j) then some (s.f (DM.CHCFG_OWNKEY n j)) else none
  let s := s.fault { unit := 0x34 + n, code := code, cls := 2, detail := j, addr := addr, ident := s.f (DM.CHCFG_OWNER n j), key := key }
  s.fireFor (fun th => th / 48 == n) (0x88 + j)

/-- An occurrence of `code` reaches channel `j` of instance `n` (R426). -/
def State.occur (s : State) (n j code : Nat) : State :=
  if (s.pan n j).armed ≠ some code then s
  else if s.chanSt n j = 2 then (s.setF (DM.CHPC_PC n j) (s.f (DM.CHPC_PC n j) + 1)).setDmChan n j 1
  else if s.on (DM.CHSTAT_WPEND n j) then s.bump (DM.CHSTAT_WMRG n j)
  else s.setF (DM.CHSTAT_WPEND n j) 1

/-- The local reset of an instance (R430): CHCFG is kept. -/
def State.dmReset (s : State) (n : Nat) : State :=
  let base := 0x40300000 + n * 0x10000
  let cfg (o : Nat) : Bool := decide (0x1000 ≤ o) && o % 0x40 == 0
  let s := s.freshCredits (0x34 + n)
  let s := { s with regs := s.regs.filter (fun e => !(decide (base ≤ e.1) && decide (e.1 < base + 0x10000) && !cfg (e.1 - base))) }
  { s with
    panto := s.panto.filter (fun e => e.1 / 16 != n)
    dmPtr := s.dmPtr.filter (fun e => e.1 != n)
    pantoDue := s.pantoDue.filter (fun e => e.1 != n)
    rplOk := s.rplOk.filter (fun x => x / 256 != 2 + n) }

/-- A write of the DM n block at offset `o`: code, state (R431). -/
def State.dmWrite (s : State) (rq : Rq) (n o v : Nat) : Nat × State :=
  let id := rq.id.toNat
  let a := 0x40300000 + n * 0x10000 + o
  let j := (o - 0x1000) / 0x40
  let ch : Bool := decide (0x1000 ≤ o) && decide (o < 0x1400)
  if ch && o % 0x40 == 4 then
    if bitOf v 0 then s.chanStart rq n j (v / 16) else (if s.chanOwner rq n j || isKbDbg id then 0 else 2, s)
  else if ch && o % 0x40 == 8 then
    if s.chanOwner rq n j || isKbDbg id then (0, s.chanCtl n j v) else (2, s)
  else if !isKbDbg id then (2, s)
  else if o = 0 then (0, if bitOf v 0 then s.dmReset n else s)
  else if o = 8 then
    (0, if bitsOf v 8 2 = 1 then (s.setF (DM.RPL_LAST_COS n (v % 256)) 0).rplClear (2 + n) (v % 256) else s)
  else if ch && o % 0x40 == 0 then
    if s.chanSt n j = 0 then (0, s.wrReg a v) else (2, s)
  else (0, s.wrReg a v)

/-! ## Meanings -/

/-- A write of the DM n block as a command: DOMAIN_OFF while the region is off or in reset (R430). -/
def dmCmd (rq : Rq) (n o v : Nat) (s : State) : Out :=
  if s.regionDown n then .next (s.answer 3)
  else
    let r := s.dmWrite rq n o v
    .next (r.2.answer r.1)

/-- CHANNEL_START (R416). -/
def execChannelStart (rq : Rq) (n : Fin 4) (j : Fin 16) (prog : BitVec 28) (s : State) : Out :=
  dmCmd rq n (0x1004 + j * 0x40) (prog.toNat * 16 + 1) s

/-- CHANNEL_ABORT (R428). -/
def execChannelAbort (rq : Rq) (n : Fin 4) (j : Fin 16) (s : State) : Out :=
  dmCmd rq n (0x1008 + j * 0x40) 1 s

/-- ABORT_COMPLETE (R428): data read and not written are discarded. -/
def execAbortComplete (n : Fin 4) (j : Fin 16) (s : State) : Out :=
  .next (if s.chanSt n j = 4 then ((s.setPan n j { s.pan n j with xfer := none }).setF (DM.CHSTAT_CAUSE n j) 2).setDmChan n j 0 else s)

/-- CHANNEL_CLEAR (R429). -/
def execChannelClear (rq : Rq) (n : Fin 4) (j : Fin 16) (s : State) : Out :=
  dmCmd rq n (0x1008 + j * 0x40) 2 s

/-- DM_LOCAL_RESET (R430). -/
def execDmLocalReset (rq : Rq) (n : Fin 4) (s : State) : Out :=
  dmCmd rq n 0 1 s

/-- DM_CTXOP_CLEAR (R430). -/
def execDmCtxopClear (rq : Rq) (n : Fin 4) (key : BitVec 8) (s : State) : Out :=
  dmCmd rq n 8 (key.toNat + 0x100) s

/-- WAIT_SOURCE_OCCURRENCE (R426): the oldest occurrence on its way to instance `n` arrives at the channels that have armed it. -/
def execWaitSourceOccurrence (n : Fin 4) (s : State) : Out :=
  match s.pantoDue.find? (fun e => e.1 == n.val) with
  | none => .next s
  | some e =>
    let s : State := { s with pantoDue := s.pantoDue.erase e }
    .next ((List.range 16).foldl (fun s j => s.occur n j e.2) s)

/-- WAIT_TIMEOUT (R426): the timeout of a WAIT runs out; an occurrence that arrives at the same edge satisfies the WAIT. -/
def execWaitTimeout (n : Fin 4) (j : Fin 16) (s : State) : Out :=
  if s.chanSt n j ≠ 2 ∨ (s.pan n j).tmo = 0 then .next s
  else
    match s.pantoDue.find? (fun e => e.1 == n.val && (s.pan n j).armed == some e.2) with
    | some e =>
      let s : State := { s with pantoDue := s.pantoDue.erase e }
      .next ((List.range 16).foldl (fun s j => s.occur n j e.2) s)
    | none => .next (s.chanErr n j 10 (16 * s.f (DM.CHPC_PC n j)) false)

end Sys2Proof.Machine
end

