-- ==== Sys2Proof/Machine/Clocks.lean ====
section
/-! DEFINITION. Reference clocks and PLLs (R21–R27), the die link and its lanes (R28–R30, R465), credits returned (R31), local resets of
units (R14), and the meanings of their commands. -/
namespace Sys2Proof.Machine

/-! ## Reference clocks -/

/-- A change of CLKSTAT reaches the Keyblock (Table 17.5). -/
def State.clkEvent (s : State) : State := s.kevt 4

/-- Holdover (R24). -/
def State.holdover (s : State) : State :=
  ({ s.setF SYS.CLKSTAT_HOLDOVER 1 with clkTo := none }).fault { unit := 0xB5, code := 3, cls := 3 }

/-- REFCLK_LOSS_DECLARED (R21, R22, R24) of REFCLK_A or REFCLK_B. A loss of the selected REFCLK_B while REFCLK_A is valid starts nothing:
the device does not return on its own (R23). -/
def execRefclkLossDeclared (refB : Bool) (s : State) : Out :=
  let src := s.f SYS.CLKSTAT_SRC
  let s : State := if refB then { s with refB := false } else { s with refA := false }
  if refB then
    let s := (s.setFs [(SYS.CLKSTAT_B_OK, 0), (SYS.CLKSTAT_B_LOST, 1)]).clkEvent
    let s := s.fault { unit := 0xB5, code := 2, cls := 2 }
    let needed := src = 1 ∨ s.clkTo = some 1
    .next (if needed ∧ !s.on SYS.CLKSTAT_A_OK then s.holdover else s)
  else
    let s := (s.setFs [(SYS.CLKSTAT_A_OK, 0), (SYS.CLKSTAT_A_LOST, 1)]).clkEvent
    if src = 0 then
      .next (if s.on SYS.CLKSTAT_B_OK ∧ s.on SYS.CLKCTL_AUTO_SW then { s with clkTo := some 1 } else s.holdover)
    else if s.on SYS.CLKSTAT_B_OK then .next { s with clkTo := none }
    else .next s.holdover

/-- Both PLLs have locked to reference `r` after a switch or return. -/
def State.switched (s : State) (r : Nat) : State :=
  (({ s with clkTo := none }.setF SYS.CLKSTAT_SRC r).bump SYS.CLKSTAT_SWITCH_CNT).clkEvent

/-- REFERENCE_SWITCH_COMPLETE (R22): recorded as the Contained fault CODE 0x01. -/
def execReferenceSwitchComplete (s : State) : Out :=
  if s.clkTo = some 1 then .next ((s.switched 1).fault { unit := 0xB5, code := 1, cls := 0 }) else .next s

/-- The effect of RETURN_A = 1 (R23): none while A_OK is 0 or REFCLK_A is selected. -/
def State.returnA (s : State) : State :=
  if s.on SYS.CLKSTAT_A_OK ∧ s.f SYS.CLKSTAT_SRC = 1 then { s with clkTo := some 0 } else s

/-- RETURN_A: a write of CLKCTL with the other fields as they are. The device returns only for the Keyblock (R23). -/
def execReturnA (rq : Rq) (s : State) : Out :=
  if !isKbDbg rq.id.toNat then .next (s.answer 2)
  else .next ((if rq.id.toNat = idKeyblock then s.returnA else s).answer 0)

/-- REFERENCE_RETURN_COMPLETE (R23). -/
def execReferenceReturnComplete (s : State) : Out :=
  if s.clkTo = some 0 then .next (s.switched 0) else .next s

/-- PLL_START (R25): the references that have run for 20 µs. With neither the PLLs do not start, and both dies stay in reset with RESET_OUT_N low; a
start that waited for one ends that reset. -/
def execPllStart (aPresent bPresent : Bool) (s : State) : Out :=
  let s : State := { s with refA := aPresent, refB := bPresent }
  if s.on SYS.CLKSTAT_PLL_LOCK then .next s
  else if !(aPresent || bPresent) then .next (if s.noRef then s else { s.emit (.pin "RESET_OUT_N" 0) with noRef := true })
  else
    let s := s.setFs [(SYS.CLKSTAT_SRC, b2n (!aPresent)), (SYS.CLKSTAT_A_OK, b2n aPresent), (SYS.CLKSTAT_B_OK, b2n bPresent),
      (SYS.CLKSTAT_PLL_LOCK, 1), (SYS.DLSTAT_LINK_UP, 1), (SYS.DLSTAT_LANE_OK, 0x1FF)]
    let s := (List.range 9).foldl (fun s l => s.setF (FLT.LANE_LOCK l) 1) s
    let s : State := if s.noRef then { s.emit (.pin "RESET_OUT_N" 1) with noRef := false } else s
    .next (if aPresent then s else s.setF SYS.CLKSTAT_A_LOST 1)

/-- REFERENCE_VALID (R27). -/
def execReferenceValid (refB : Bool) (s : State) : Out :=
  let s : State := if refB then { s with refB := true } else { s with refA := true }
  .next ((s.setF (if refB then SYS.CLKSTAT_B_OK else SYS.CLKSTAT_A_OK) 1).clkEvent)

/-- PLL_LOCK_LOST (Table 17.4). -/
def execPllLockLost (s : State) : Out :=
  .next ((s.setF SYS.CLKSTAT_PLL_LOCK 0).clkEvent.fault { unit := 0xB5, code := 4, cls := 3 })

/-! ## The die link -/

/-- A direction of the die link. -/
def State.link (s : State) (d : Nat) : LinkDir := tabGet s.dieLink ⟨0, false, []⟩ d

/-- CRC-16 of a flit over bytes 0–33 (Table 1.8). -/
def flitCrc (bs : List Byte) : Nat := crc16 (bs.take 34)

/-- Is a flit whole: 36 bytes with their CRC, which stands in bytes 34–35 low byte first (DESIGN CHOICE, log 18)? -/
def flitGood (bs : List Byte) : Bool := bs.length == 36 && flitCrc bs == leNat (sub bs 34 2)

/-- A flit as it arrives when the lanes flip the bits of `err`. -/
def flitWith (bs err : List Byte) : List Byte := List.zipWith (· ^^^ ·) bs (err ++ List.replicate bs.length 0)

/-- The sender sends flit `f`: a whole flit with its next number enters its retry buffer of 128 flits (R28). -/
def LinkDir.send (x : LinkDir) (f : List Byte) : LinkDir :=
  if flitGood f && (f.getD 1 0).toNat == (x.rxSeq + x.buf.length) % 256 && decide (x.buf.length < 128) then { x with buf := x.buf ++ [f] } else x

/-- The receiver of direction `d` asks for a replay from the number it expects (R28). -/
def State.askReplay (s : State) (d : Nat) : State :=
  let x := s.link d
  let s := (s.bump SYS.DLSTAT_RETRY_CNT).emit (.replay d x.rxSeq)
  { s with dieLink := tabPut s.dieLink d { x with replay := true } }

/-- Lane `l` has failed (R465, R29): the first failed data lane is replaced by the spare; with no spare left the failure is Fatal. -/
def State.failLane (s : State) (l : Nat) : State :=
  if s.on (FLT.LANE_FAILED l) then s
  else
    let fresh := s.f SYS.DLSTAT_SPARE_MAP = 0xF ∧ s.sparing.spare = none
    let free := fresh ∧ !s.on (FLT.LANE_FAILED 8)
    let s := s.setFs [(FLT.LANE_FAILED l, 1), (FLT.LANE_LOCK l, 0), (SYS.DLSTAT_LANE_OK, setBits (s.f SYS.DLSTAT_LANE_OK) l 1 0)]
    if l = 8 ∧ fresh then s
    else if free then { s with sparing := { s.sparing with spare := some l } }
    else s.fault { unit := 0xB4, code := 2, cls := 3, detail := l }

/-- A sync-header or parity error on lane `l` (R465): ERR counts it, and the lane fails when its count has risen by LANETHR within WIN ms. -/
def State.laneError (s : State) (l : Nat) : State :=
  let s := s.bump (FLT.LANE_ERR l)
  let win := max (s.f FLT.DLCFG_WIN) 1 * 500000
  let errs := (l, s.ticks) :: s.sparing.errs.filter (fun e => decide (s.ticks < e.2 + win))
  let s : State := { s with sparing := { s.sparing with errs := errs } }
  if max (s.f FLT.DLCFG_LANETHR) 1 ≤ (errs.filter (fun e => e.1 == l)).length then s.failLane l else s

/-- FLIT_RECEIVE (R28): `toPort` tells the direction; `flit` is what the sender sends and what the lanes make of it. During a replay the flit that
arrives is the oldest of the retry buffer. A bad CRC or a number out of order is not accepted and has the flits replayed from the expected number; an
accepted flit leaves the retry buffer and returns a credit of the class that its bits [7:5] name, 0–3; 4–7 name none (DESIGN CHOICE, log 18). `lanes`
are the lanes that met a sync-header or parity error in it (R465). -/
def execFlitReceive (toPort : Bool) (flit : FlitIn) (s : State) : Out :=
  let s := flit.lanes.foldl (fun s l => s.laneError l.val) s
  let d := if toPort then 0 else 1
  let x := (s.link d).send flit.bytes
  let got := flitWith (if x.replay then x.buf.headD flit.bytes else flit.bytes) flit.err
  let s : State := { s with dieLink := tabPut s.dieLink d x }
  if flitGood got && (got.getD 1 0).toNat == x.rxSeq then
    let buf := x.buf.tail
    let s : State := { s with dieLink := tabPut s.dieLink d { rxSeq := (x.rxSeq + 1) % 256, replay := x.replay && !buf.isEmpty, buf := buf } }
    let c := (got.getD 0 0).toNat / 32
    .next (if c < 4 then s.giveBack (0xC1 - d) c 0 1 else s)
  else if x.replay && flitGood got then .next s
  else .next (s.askReplay d)

/-- LANE_FAILURE (R465): a lane has lost block lock for 1 µs, or errors that no flit shows have passed the threshold. -/
def execLaneFailure (lane : Fin 9) (s : State) : Out := .next (s.failLane lane.val)

/-- LANE_SPARING_COMPLETE (R29, Table 17.9): SPARE_MAP written, the flits in flight replayed in both directions from the retry buffers, the
Contained record written. -/
def execLaneSparingComplete (s : State) : Out :=
  match s.sparing.spare with
  | none => .next s
  | some l =>
    let s := { s with sparing := { s.sparing with spare := none } }.setF SYS.DLSTAT_SPARE_MAP l
    let s := (s.askReplay 0).askReplay 1
    .next (s.fault { unit := 0xB4, code := 1, cls := 0, detail := l })

/-- DIE_LINK_TRAINING_LOST (Table 17.4). -/
def execDieLinkTrainingLost (s : State) : Out :=
  .next ((s.setF SYS.DLSTAT_LINK_UP 0).fault { unit := 0xB4, code := 3, cls := 3 })

/-! ## Credits and local resets -/

/-- CREDIT_RETURN (R31). -/
def execCreditReturn (q : BitVec 8) (cls : Fin 4) (dir : Bool) (s : State) : Out :=
  if (qDepth q.toNat cls).isSome then .next (s.giveBack q.toNat cls (b2n dir) 1) else .next s

/-- The queues of Table 1.11 that are the request interface of a unit, by unit index. -/
def unitQueues (u : Nat) : List Nat :=
  if u < 0x3C then [u]
  else if 0xA0 ≤ u ∧ u < 0xA8 then [0xB0 + (u - 0xA0)]
  else if u = 0xA8 then [0x3C, 0x3D, 0x3E, 0x3F]
  else if u = 0xA9 then [0xA6]
  else if 0xAA ≤ u ∧ u < 0xAE then [0xA8 + (u - 0xAA)]
  else if u = 0xAE then [0xA2]
  else if u = 0xAF then [0xA1]
  else if u = 0xB0 then [0xA0]
  else if u = 0xB2 then [0xA4]
  else if u = 0xB3 then [0xA3]
  else if u = 0xB4 then [0xC0, 0xC1]
  else if 0x100 ≤ u ∧ u < 0x160 then [0x40 + (u - 0x100)]
  else if u = 0x160 ∨ u = 0x161 then [0xAC + (u - 0x160)]
  else []

/-- The local reset of port `p`, which reaches its MAC and its PHY (R203, chapter 7): their registers return to their reset values, the port is
DISABLED and frames in it are gone. -/
def State.resetPort (s : State) (p : Nat) : State :=
  let up := s.f (PORT.STAT_STATE p) = 3
  let s := s.leaveUp p
  let b := 0x40100000 + p * 0x10000
  let s := s.regs.foldl (fun t e => if b ≤ e.1 ∧ e.1 < b + 0x10000 then t.wr e.1 (resetWord e.1).toNat else t) s
  let s := s.resetWords (fun a => a == PHYA.TEST p || a == PHYA.TEST p + 4)
  let s := s.setPort p PortSt.reset
  if up then s.linkChanged p false else s

/-- The local reset of the switch core: registers, tables, queues, staged frames of the internal ports and what it learned. The words of the
Stencil banks go before those that say which bank is operative. -/
def State.resetSwitch (s : State) : State :=
  let s := s.tbl.foldl (fun t e => t.tblPut (e.1 / 0x10000) (e.1 % 0x10000) 0) s
  let s := s.resetWords (fun a => decide (SW.STH_CYCLE 0 0 ≤ a) && decide (a < 0x40030000))
  let s := s.resetWords (fun a => a / 0x10000 == 0x4002)
  { s with
    queues := [], tblSeen := [], dups := [], nodes := [], meters := [], redAvg := [], redLfsr := 1, pairSeq := [], gates := [], stMark := [],
    stFrom := [], ringRel := [], clkStop := [], gd := [], rplOk := s.rplOk.filter (fun k => decide (0x100 ≤ k)),
    ports := s.ports.filter (fun e => decide (e.1 < 16)) }

/-- The local reset of Ruling instance `n`. -/
def State.resetTt (s : State) (n : Nat) : State :=
  let s := s.resetWords (fun a => rulOf a == some n)
  { s with
    rul := tabDel s.rul n
    winStage := s.winStage.filter (fun e => e.1 / 256 != n)
    rulDone := s.rulDone.filter (fun e => e.1 / 8 != n)
    rulPend := s.rulPend.filter (fun e => rulOf e.1 != some n) }

/-- The local reset of the loop engine. -/
def State.resetLoop (s : State) : State :=
  let s := s.lp.foldl (fun t e => t.lpSet (e.1 / 0x100000) (e.1 % 0x100000) (lpReset e.1).toNat) s
  let s := s.resetWords (fun a => a / 0x10000 == 0x4005)
  { s with
    lpMarks := [], lpDue := [], lpTrig := 0, lpLane := [], lpOut := [], lpDone := [], lpClr := [], tsg := [], cap := [], lpBatches := []
    ecc := s.ecc.filter (fun e => !(decide (0x104000000 ≤ e.1 * 8) && decide (e.1 * 8 < 0x106000000))) }

/-- The local reset of the work scheduler. -/
def State.resetSched (s : State) : State :=
  { s.resetWords (fun a => a / 0x10000 == 0x4006) with
    items := [], itemOrd := 0, affin := [], schedPtr := 0, coreLoad := [], trace := [], traceN := 0
    rplOk := s.rplOk.filter (fun k => k / 0x100 != 1) }

/-- Is `a` / 8 of an ECC mark a slot of the mailbox unit? -/
def eccSlot (k : Nat) : Bool := decide (0x102000000 ≤ k * 8) && decide (k * 8 < 0x102010000)

/-- The local reset of the mailbox unit. -/
def State.resetMbx (s : State) : State :=
  { s.resetWords (fun a => a / 0x10000 == 0x4001) with
    slots := [], slotRel := [], slotAt := [], dbHeld := [], ecc := s.ecc.filter (fun e => !eccSlot e.1) }

/-- Words of the image unit in the PLT block (Table 11.3). -/
def imgWord (a : Nat) : Bool := a == PLT.IMGCTXOP || a == PLT.LEASESTAT || (decide (PLT.IMGCFG 0 ≤ a) && decide (a < PLT.IMGCFG 256))

/-- The local reset of the wake domain's unit: its registers, and with the state of the channels their controllers and ports, and the pins (R390,
R391). -/
def State.resetWake (s : State) : State :=
  let t : State := { s.resetWords (fun a => decide (0x40400000 ≤ a) && decide (a < 0x40404000)) with fsExp := [], fsKick := [] }
  let t := (List.range 8).foldl State.mbSettle (t.wakePins s)
  [8, 9, 10, 11].foldl (fun t c =>
    let st := t.f (PORT.STAT_STATE c)
    if t.f (WAKE.FSSTAT_STATE c) = 0 ∨ st = 0 ∨ st = 4 then t else t.leaveTo c 4) t

/-- What the local reset of unit `u` clears beside its request interface (R14), for the units whose chapters give it no more. It does not reach
the time unit (R266). -/
def State.resetUnit (s : State) (u : Nat) : State :=
  if 0x18 ≤ u ∧ u < 0x20 then
    let b := 0x20000000 + (u - 0x18) * 0xC0000 + 0x20000
    (s.resetWords (fun a => a == CC.SPERR (u - 0x18))).clearMem (fun a => decide (b ≤ a) && decide (a < b + 0x20000))
  else if 0x30 ≤ u ∧ u < 0x34 then
    let b := 0x21000000 + (u - 0x30) * 0x400000
    s.clearMem (fun a => decide (b ≤ a) && decide (a < b + 0x100000))
  else if u = 0xA8 then s.resetSwitch
  else if 0xAA ≤ u ∧ u < 0xAE then s.resetTt (u - 0xAA)
  else if u = 0xAE then s.resetLoop
  else if u = 0xAF then s.resetSched
  else if u = 0xB0 then s.resetMbx
  else if u = 0xB1 then { s.resetWords imgWord with imgs := [], leases := [] }
  else if u = 0xB2 then
    { s.resetWords (fun a => a / 0x10000 == 0x400A) with msix := [], pba := [], pciCfg := [], fnReset := [] }
  else if u = 0xB4 then
    { s.resetWords (fun a => a == SYS.DLSTAT || (decide (FLT.LANE 0 ≤ a) && decide (a < FLT.LANE 9))) with dieLink := [], sparing := ⟨none, []⟩ }
  else if u = 0xB5 then { s.resetWords (fun a => a == SYS.CLKCTL || a == SYS.CLKSTAT) with clkTo := none }
  else if u = 0xB6 then { s.resetWords (fun a => a == SYS.CRDSEL) with ptrs := [] }
  else if u = 0xB7 then s.resetWake
  else if u = 0xB8 then { s.resetWords (fun a => decide (0x40404000 ≤ a) && decide (a < 0x40408000)) with brnAt := [] }
  else if u = 0xB9 then s.resetWords (fun a => decide (0x40408100 ≤ a) && decide (a < 0x40408400))
  else if 0x100 ≤ u then
    let bank (a : Nat) : Bool := decide (plateLo ≤ a) && decide (a < 0x11880000) && bankOf a == u - 0x100
    (s.resetWords (fun a => a == PLT.BANKSTAT (u - 0x100))).clearMem bank
  else s

/-- UNIT_LOCAL_RESET (R14): the unit's state is cleared as its chapter gives its local reset, and its request interface has its reset
credits. -/
def execUnitLocalReset (unit : Fin 354) (s : State) : Out :=
  let u := unit.val
  let s := (unitQueues u).foldl State.freshCredits s
  if u < 0x18 then .next (s.engineReset u)
  else if 0x20 ≤ u ∧ u < 0x30 then .next (s.resetAppCore (u - 0x20))
  else if 0x34 ≤ u ∧ u < 0x38 then .next (s.dmReset (u - 0x34))
  else if 0x40 ≤ u ∧ u < 0x80 then .next (s.resetBurin (u - 0x40))
  else if 0x80 ≤ u ∧ u < 0xA0 then .next (s.resetPort (u % 16))
  else if 0xA0 ≤ u ∧ u < 0xA8 then .next (s.mbReset (u - 0xA0))
  else if u = 0xB3 then .next s.resetKeyblock
  else .next (s.resetUnit u)

end Sys2Proof.Machine
end

