-- ==== Sys2Proof/Machine/Power.lean ====
section
/-! DEFINITION. Power states, region and device resets (R479–R496), the SYS and WAKE blocks as they are written and read (R507, R392), and
the meanings of the power and reset commands. -/
namespace Sys2Proof.Machine

/-! ## Regions -/


/-- Registers of the CC block of cluster `c` at their reset values, VOK and MISMATCH as the supply says. -/
def State.resetCluster (s : State) (c : Nat) : State :=
  let b := 0x40200000 + c * 0x10000
  ({ s with
    regs := s.regs.filter (fun e => !(decide (b ≤ e.1) && decide (e.1 < b + 0x10000)))
    burin := s.burin.filter (fun e => e.1 / 8 != c)
    syncDue := s.syncDue.filter (fun x => x != c) }).refreshBank c

/-- Master identities of region `n` (Table 1.14). -/
def regionIds (n : Nat) : List Nat := (List.range 6).map (fun e => 0x10 + 6 * n + e) ++ (List.range 4).map (fun a => 0x30 + 4 * n + a)

/-- The reset of region `n` (R485, R486, R495): every unit of Table 1.2. -/
def State.resetRegion (s : State) (n : Nat) : State :=
  let s := (regionIds n).foldl State.releaseIdentity s
  let s := (List.range 6).foldl (fun s e => (s.resetIdentity (0x10 + 6 * n + e)).freshCredits (6 * n + e)) s
  let s := (List.range 4).foldl (fun s a => s.resetAppCore (4 * n + a)) s
  let s := (List.range 48).foldl (fun s t => s.setCore (48 * n + t) (coreReset (48 * n + t) (s.coreTick (48 * n + t)))) s
  let s : State := { s with
    ckq := s.ckq.filter (fun e => e.1 / 6 != n)
    halting := s.halting.filter (fun e => !(decide (e.1 < 192) && e.1 / 48 == n))
    thWd := s.thWd.filter (fun e => e.1 / 48 != n) }
  let s := (s.resetCluster (2 * n)).resetCluster (2 * n + 1)
  let s := s.dmReset n
  let s := s.setFs [(SYS.DOZE_STATE (2 * n), 0), (SYS.DOZE_STATE (2 * n + 1), 0), (SYS.DOZE_STATE (8 + n), 0)]
  let lo := 0x20000000 + 6 * n * 0x40000
  let s := s.clearMem (fun a => decide (lo ≤ a) && decide (a < lo + 6 * 0x40000) && decide ((a - lo) % 0x40000 < 0x20000))
  s.flushPort (16 + n)

/-- Memories of region `n`: engine RAMs, scratchpads, L1 memories, L2. -/
def inRegionMem (n a : Nat) : Bool :=
  let e := 0x20000000 + 6 * n * 0x40000
  let l2 := 0x21000000 + n * 0x400000
  let l1 := 0x100000000 + 4 * n * 0x20000
  (decide (e ≤ a) && decide (a < e + 6 * 0x40000)) || (decide (l2 ≤ a) && decide (a < l2 + 0x100000)) || (decide (l1 ≤ a) && decide (a < l1 + 0x80000))

/-- The cores of region `n` as the scheduler sees them. -/
def State.refreshRegion (s : State) (n : Nat) : State := (List.range 4).foldl (fun s a => s.refreshCore (4 * n + a)) s

/-- A write of RGCTLn (R485, R495): PWR and RST with what they start. -/
def State.regionCtl (s : State) (n v : Nat) : State :=
  let pwr := bitOf v 0
  let rst := bitOf v 1
  let st := s.f (SYS.RGCTL_STATE n)
  let s := s.setFs [(SYS.RGCTL_PWR n, b2n pwr), (SYS.RGCTL_RST n, b2n rst)]
  let s :=
    if !pwr then (if st = 1 then s else (s.setF (SYS.RGCTL_STATE n) 1).resetRegion n)
    else if st = 1 then (s.clearMem (inRegionMem n)).setF (SYS.RGCTL_STATE n) 2
    else if st = 2 then s
    else if rst then (if st = 3 then s else (s.setF (SYS.RGCTL_STATE n) 3).resetRegion n)
    else s.setF (SYS.RGCTL_STATE n) 0
  s.refreshRegion n

/-! ## Device reset -/

/-- Words of the wake domain's registers, kept through every reset but PORST_N and power-on. -/
def wakeWord (a : Nat) : Bool := decide (0x40400000 ≤ a) && decide (a < 0x40404000)

/-- Words a warm reset keeps (R478, R495, Tables 1.7, 17.18): the PLLs and die link stay locked, BRN.CTL.EN and RESTARTS last until PORST_N. -/
def warmWord (a : Nat) : Bool := a == SYS.CLKSTAT || a == SYS.DLSTAT || a == PLT.CLRSTAT || (decide (0x40404000 ≤ a) && decide (a < 0x40404014))

/-- What a device reset leaves (Table 18.10), but for the pins: cause, whether memories and PLLs are kept (warm), whether the wake domain is, the
straps. -/
def State.resetState (s : State) (cause : Nat) (warm wake : Bool) (strap : Nat) : State :=
  let keep (a : Nat) : Bool := (wake && wakeWord a) || (warm && warmWord a)
  let kept := s.regs.filter (fun e => keep e.1)
  let b : State := State.reset
  let t : State := { b with
    regs := kept
    sealDiff := kept.foldl (fun x e => x ^^^ sealChange (fun _ => 0) e.1 (resetWord e.1).toNat e.2.toNat) 0
    mem := if warm then s.mem else []
    ecc := if warm then s.ecc.filter (fun e => !eccSlot e.1) else []
    refA := s.refA, refB := s.refB, noRef := warm && s.noRef
    hostMem := s.hostMem, ticks := s.ticks, devTick := s.ticks, out := s.out, resp := s.resp, freeIx := s.freeIx
    dbgAttached := s.dbgAttached, vddio := s.vddio, flash := s.flash, keyDigests := s.keyDigests, pending := s.pending
    brnAt := if warm then s.brnAt else []
    fsExp := if wake then s.fsExp else []
    fsKick := if wake then s.fsKick else [] }
  let t := t.setFs [(PLT.LCSTAT_STATE, s.f PLT.LCSTAT_STATE), (SYS.RSTSTAT_CAUSE, cause), (SYS.BOOTSTAT_STRAP, strap)]
  let t := if wake then t.setFs [(SYS.RSTSTAT_WARM, s.f SYS.RSTSTAT_WARM), (SYS.PWRSTAT_HOLDS, s.f SYS.PWRSTAT_HOLDS),
    (PLT.SBSTAT_TAMPER, max (s.f PLT.SBSTAT_TAMPER) (max (s.f WAKE.TAMPSTAT_HIT0) (s.f WAKE.TAMPSTAT_HIT1)))] else t
  (List.range 8).foldl State.refreshBank t

/-- A device reset (Table 18.10), with the pins of the wake domain. -/
def State.deviceReset (s : State) (cause : Nat) (warm wake : Bool) (strap : Nat) : State := (s.resetState cause warm wake strap).wakePins s

/-- Both dies lose their supply: the wake domain keeps the FAULT_N request at its last value (Tables 18.8 and 18.9, R458). -/
def State.darkReset (s : State) : State :=
  ((s.resetState (s.f SYS.RSTSTAT_CAUSE) false true (s.f SYS.BOOTSTAT_STRAP)).setF FLT.STAT_FAULTN (s.f FLT.STAT_FAULTN)).wakePins s

/-- The PLLs start, and RESET_OUT_N goes high; with neither reference they wait, and both dies stay in reset (R25). -/
def State.startPlls (s : State) : State := if s.refA || s.refB then s.emit (.pin "RESET_OUT_N" 1) else { s with noRef := true }

/-- RESET_OUT_N is low in reset and high in Run (Table 18.9). -/
def State.pulseReset (s : State) : State := (s.emit (.pin "RESET_OUT_N" 0)).startPlls

/-- Every device reset resets the boot flash too (R535). -/
def State.flashReset (s : State) : State := (s.emit (.pin "XSPI_RST_N" 0)).emit (.pin "XSPI_RST_N" 1)

/-- A warm reset (R495): RESET_OUT_N is low for 10 µs. -/
def State.warmReset (s : State) (cause strap : Nat) : State :=
  let t := (s.deviceReset cause true true strap).bump SYS.RSTSTAT_WARM
  t.pulseReset.flashReset

/-! ## Hold and Off -/

/-- Is cause `c` an enabled Hold wake source (Table 18.6)? -/
def State.holdSource (s : State) (c : Nat) : Bool :=
  if c = 1 then s.on WAKE.HWAKE_LINE
  else if 0x10 ≤ c ∧ c < 0x1C then s.on WAKE.HWAKE_REMOTE
  else if c = 0x20 then s.on WAKE.HWAKE_TIMER && s.f WAKE.HTIMER_MS != 0
  else if c = 0x21 then true
  else if 0x30 ≤ c ∧ c < 0x40 then bitOf (s.f WAKE.HWAKE_PORT) (c - 0x30)
  else if 0x40 ≤ c ∧ c < 0x44 then s.on WAKE.HWAKE_TIO && s.f (TMU.TIOCFG_WAKE (c - 0x40)) != 0
  else false

/-- A change of the device state reaches the Keyblock (R480). -/
def State.powerEvent (s : State) (st cause : Nat) : State := (s.kevt 15).postEvent 0x9080 [st, cause]

/-- Exit starts with a cause (Table 18.7, step 1). -/
def State.leaveHold (s : State) (cause : Nat) : State := s.setFs [(SYS.PWRSTAT_STATE, 2), (SYS.PWRSTAT_WCAUSE, cause)]

/-- Long commands that Hold or Off overtakes end with ABORTED (R85). -/
def State.abortLongs (s : State) : State :=
  { s.longs.foldl (fun (s : State) l => s.eventTo l.sess (l.opcode + 0x8000) l.tag 0x42 []) s with longs := [] }

/-- Hold entry (Table 18.5), with the wake source that qualified by its end, if any. -/
def State.enterHold (s : State) (late : Option Nat) : State :=
  if s.f SYS.PWRSTAT_STATE ≠ 0 then s
  else
    let s := s.abortLongs
    let late := if s.on WAKE.LINE_LOW && s.holdSource 1 then some 1 else late.filter (fun c => s.holdSource c)
    let s := (List.range 16).foldl (fun s p =>
      match (s.port p).tx with
      | some (c, fr) => (s.emit (.frame p (fr.sent c p ++ badFcsOf (fr.sent c p)))).txOver p
      | none => s) s
    let s := (List.range 12).foldl (fun s c => if s.f (WAKE.FSSTAT_STATE c) = 2 then s else s.setChan c 1) s
    let s := ((s.timePins false).epFlag 2).kevt 15
    let s := s.setFs [(SYS.PWRSTAT_STATE, 4), (SYS.CLKSTAT_PLL_LOCK, 0), (SYS.DLSTAT_LINK_UP, 0)]
    match late with
    | some c => (s.setF SYS.PWRSTAT_LATEWAKE 1).leaveHold c
    | none => s

/-- The end of Hold exit (Table 18.7, step 5). -/
def State.exitHold (s : State) : State :=
  let src := if s.f SYS.CLKSTAT_SRC = 0 then b2n (!s.refA) else b2n s.refB
  let s := (s.setTimeState 0).setFs [(TMU.STAT_HOLDEXIT, 1), (SYS.PWRSTAT_STATE, 0), (SYS.CLKSTAT_PLL_LOCK, 1), (SYS.CLKSTAT_SRC, src),
    (SYS.DLSTAT_LINK_UP, 1)]
  let s := (s.bump SYS.PWRSTAT_HOLDS).timePins true
  s.powerEvent 0 (s.f SYS.PWRSTAT_WCAUSE)

/-- An inbound PCIe request in Hold, or in the exit from it, is held: it wakes the device with cause 0x21 and is served after the exit (R488–R490),
which completes a wipe that waited (R444) and takes a reference (R25). -/
def State.endHold (s : State) : State :=
  if s.awake || !(s.refA || s.refB) then s
  else
    let s := if s.f SYS.PWRSTAT_STATE = 4 then s.leaveHold 0x21 else s
    let s : State := if s.holdWipe then { s.wipe 5 with holdWipe := false } else s
    (if s.on PLT.SBSTAT_WIPING then s.wipeDone else s).exitHold

/-- Off entry (R491): the completions of the commands it overtakes are posted before the host link goes (R85). -/
def State.enterOff (s : State) : State :=
  if s.f SYS.PWRSTAT_STATE ≠ 0 then s
  else
    let s := s.abortLongs
    let s := (List.range 12).foldl (fun s c => s.setChan c 2) s
    let t := s.darkReset.setF SYS.PWRSTAT_STATE 3
    let t := t.emit (.pin "RESET_OUT_N" 0)
    { t with powerOff := true }

/-- A write of PWRCTL (R507): Keyblock only, with its key; an OP not listed has no effect. -/
def State.pwrCtl (s : State) (v : Nat) (late : Option Nat) : State :=
  if v / 0x10000 = 0x5057 then (match v % 16 with | 1 => s.enterHold late | 2 => s.enterOff | _ => s) else s

/-! ## The SYS and WAKE blocks -/

/-- PCLR with GO = 1 (R496): Plate to zero, but the kept 1 MiB. -/
def State.plateClear (s : State) (v : Nat) : State :=
  let s := s.wrReg SYS.PCLR v
  if bitOf v 0 then
    let keep := if bitOf v 2 then some (v / 0x100000 * 0x100000) else none
    let inKeep (a : Nat) : Bool := match keep with | some k => decide (k ≤ a) && decide (a < k + 0x100000) | none => false
    (s.clearMem (fun a => decide (plateLo ≤ a) && decide (a < plateHi) && !inKeep a)).setF SYS.PCLR_BUSY 1
  else s

/-- A write of DBGCTLi (R544). A RESUME that comes while a requested halt still waits cancels that halt (DESIGN CHOICE, log 72). -/
def State.dbgCtl (s : State) (i v : Nat) : State :=
  let c := 192 + i
  match v % 4 with
  | 1 => if s.on (SYS.DBGCTL_HALTED i) ∨ (s.core c).dead then s else s.askHalt c 2
  | 2 => { s.setFs [(SYS.DBGCTL_HALTED i, 0), (SYS.DBGCTL_BRKHIT i, 0)] with halting := tabDel s.halting c }
  | _ => s

/-- A write of the SYS block: code, state. Its clock and credit registers are written by the Keyblock and the debug port, as its power
registers (R507). -/
def State.sysWrite (s : State) (rq : Rq) (o v : Nat) : Nat × State :=
  let id := rq.id.toNat
  let a := 0x40000000 + o
  if 0x400 ≤ o ∧ o < 0x444 then (if id = idDebug then (0, s.dbgCtl ((o - 0x400) / 4) v) else (2, s))
  else if !isKbDbg id then (2, s)
  else if o = 0x100 then
    let s := s.wrReg a v
    (0, if bitOf v 1 && id == idKeyblock then s.returnA else s)
  else if o = 0x300 then (if id = idKeyblock then (0, s.pwrCtl v none) else (2, s))
  else if 0x340 ≤ o ∧ o < 0x350 then (0, s.regionCtl ((o - 0x340) / 4) v)
  else if o = 0x360 then
    if v / 0x10000 ≠ 0x5253 then (0, s)
    else
      let rout := bitsOf v 1 1
      let s := if s.f SYS.RSTCTL_ROUT = rout then s else (s.setF SYS.RSTCTL_ROUT rout).emit (.pin "RESET_OUT_N" (1 - rout))
      if bitOf v 0 ∧ (id = idDebug ∨ rq.sec) then (0, s.warmReset (if id = idDebug then 5 else 4) (s.f SYS.BOOTSTAT_STRAP))
      else (0, s)
  else if o = 0x374 then (0, s.plateClear v)
  else (0, s.wrReg a v)

/-- A read of the SYS block: code, word, state. -/
def State.sysRead (s : State) (o : Nat) : Nat × Nat × State :=
  if o = 0x204 then
    let r := s.crdRead
    (0, r.1, r.2)
  else
    let r := s.rdReg (0x40000000 + o)
    (0, r.1, r.2)

/-- A write of the WAKE block (R392, R390, R444, R507): code, state. -/
def State.wakeWrite (s : State) (rq : Rq) (o v : Nat) : Nat × State :=
  let id := rq.id.toNat
  let a := 0x40400000 + o
  if 0x100 ≤ o ∧ o < 0x1C0 ∧ o % 0x10 = 0 then
    let c := (o - 0x100) / 0x10
    if s.fsRights rq c then (0, s.fsCtl c v) else (2, s)
  else if o = 0x10 then
    if id = idKeyblock ∧ rq.sec then (0, if s.on WAKE.TAMPCFG_LOCK then s else s.wrReg a v) else (2, s)
  else if !isKbDbg id then (2, s)
  else if o = 4 then (0, (s.wrReg a v).refreshInh)
  else (0, s.wrReg a v)

/-- A read of the WAKE block. -/
def State.wakeRead (s : State) (o : Nat) : Nat × State :=
  let r := s.rdReg (0x40400000 + o)
  if 0x100 ≤ o ∧ o < 0x1C0 ∧ o % 0x10 = 0xC then (r.1 % 0x10000 + min (s.fsRemain ((o - 0x100) / 0x10)) 0xFFFF * 0x10000, r.2) else r

/-- A write of the PHYA block (R543): with a test mode or loop the port carries nothing and is NEGOTIATING. -/
def State.phyaWrite (s : State) (rq : Rq) (o v : Nat) : Nat × State :=
  if !isKbDbg rq.id.toNat then (2, s)
  else
    let s := s.wrReg (0x40408000 + o) v
    let p := o / 8
    if o < 0x80 ∧ o % 8 = 0 ∧ phyTest p v then
      let st := s.f (PORT.STAT_STATE p)
      (0, if st = 2 ∨ st = 3 then s.leaveTo p 1 else s)
    else (0, s)

/-- A read of the PHYA block (Table 20.13): the supply monitors show a reading, and the checker of P12–P15 its lock and errors, that the
spec leaves to the board: free values. -/
def State.phyaRead (s : State) (o : Nat) : Nat × State :=
  let a := 0x40408000 + o
  let w := s.rd a
  if 0x104 ≤ o ∧ o < 0x11C then
    let r := s.free
    (w / 0x10000 * 0x10000 + r.1.toNat % 0x10000, r.2)
  else if 0x60 ≤ o ∧ o < 0x80 ∧ o % 8 = 0 ∧ (w % 16 = 1 ∨ w % 16 = 2 ∨ w % 16 = 4) then
    let r := s.free
    (w % 0x100 + r.1.toNat / 0x100 % 2 * 0x100 + r.1.toNat / 0x10000 * 0x10000, r.2)
  else s.rdReg a

/-! ## Meanings -/

/-- A write of RGCTLn. -/
def regionCmd (rq : Rq) (n : Nat) (v : Nat) (s : State) : Out :=
  let r := s.sysWrite rq (0x340 + 4 * n) v
  .next (r.2.answer r.1)

/-- REGION_POWER_OFF (R485). -/
def execRegionPowerOff (rq : Rq) (n : Fin 4) (s : State) : Out := regionCmd rq n (2 * s.f (SYS.RGCTL_RST n)) s

/-- REGION_POWER_UP (R485). -/
def execRegionPowerUp (rq : Rq) (n : Fin 4) (s : State) : Out := regionCmd rq n (1 + 2 * s.f (SYS.RGCTL_RST n)) s

/-- REGION_UP_COMPLETE (R485): into reset when RST is 1. -/
def execRegionUpComplete (n : Fin 4) (s : State) : Out :=
  if s.f (SYS.RGCTL_STATE n) = 2 then
    .next ((s.setF (SYS.RGCTL_STATE n) (if s.on (SYS.RGCTL_RST n) then 3 else 0)).refreshRegion n)
  else .next s

/-- REGION_RESET_ASSERT (R495). -/
def execRegionResetAssert (rq : Rq) (n : Fin 4) (s : State) : Out := regionCmd rq n (s.f (SYS.RGCTL_PWR n) + 2) s

/-- REGION_RESET_RELEASE (R495). -/
def execRegionResetRelease (rq : Rq) (n : Fin 4) (s : State) : Out := regionCmd rq n (s.f (SYS.RGCTL_PWR n)) s

/-- HOLD_ENTRY (R487). -/
def execHoldEntry (rq : Rq) (key : BitVec 16) (late : Option (BitVec 8)) (s : State) : Out :=
  if rq.id.toNat = idKeyblock then .next ((s.pwrCtl (1 + key.toNat * 0x10000) (late.map BitVec.toNat)).answer 0) else .next (s.answer 2)

/-- HOLD_WAKE (R488). -/
def execHoldWake (cause : BitVec 8) (s : State) : Out :=
  if s.f SYS.PWRSTAT_STATE = 4 ∧ s.holdSource cause.toNat then .next (s.leaveHold cause.toNat) else .next s

/-- HOLD_EXIT_COMPLETE (R489): the PLLs have locked again, which takes a reference (R25). After a tamper in Hold the sealed bank is wiped first, and
the masters are released by the one that comes when the wipe is complete (R444). -/
def execHoldExitComplete (s : State) : Out :=
  if s.f SYS.PWRSTAT_STATE = 2 ∧ (s.refA || s.refB) then
    if s.holdWipe then .next { s.wipe 5 with holdWipe := false }
    else if s.on PLT.SBSTAT_WIPING then .next s
    else .next s.exitHold
  else .next s

/-- OFF_ENTRY (R491). -/
def execOffEntry (rq : Rq) (key : BitVec 16) (s : State) : Out :=
  if rq.id.toNat = idKeyblock then .next ((s.pwrCtl (2 + key.toNat * 0x10000) none).answer 0) else .next (s.answer 2)

/-- OFF_WAKE (R492, Table 18.6): the WAKE line or a remote wake. -/
def execOffWake (cause : BitVec 8) (s : State) : Out :=
  let c := cause.toNat
  if s.powerOff ∧ !s.offWoken ∧ (c = 1 ∨ (0x10 ≤ c ∧ c < 0x1C)) then
    .next { (s.clearRel.setFs [(WAKE.OFFCAUSE_CAUSE, c), (WAKE.OFFCAUSE_VALID, 1)]) with offWoken := true }
  else .next s

/-- POWER_GOOD (R492, R532): ends the reset of a lost power-good, or of an Off that was woken. -/
def execPowerGood (strap : BitVec 2) (s : State) : Out :=
  if s.lostPower then .next ((s.deviceReset 3 false true strap.toNat).setF WAKE.OFFCAUSE_VALID 0).startPlls.flashReset
  else if s.powerOff ∧ s.offWoken then .next (s.deviceReset 3 false true strap.toNat).startPlls.flashReset
  else .next s

/-- POWER_GOOD_LOSS (R532): a Fatal fault while the monitor has supply; both dies are held in reset. -/
def execPowerGoodLoss (monitor : Bool) (supply : Fin 6) (s : State) : Out :=
  if s.offline then .next s
  else
    let s := if monitor then (s.setF (PHYA.VMON_OOR supply) 1).fault { unit := 0xB9, code := 1, cls := 3, detail := supply } else s
    let t := s.darkReset
    .next { t.emit (.pin "RESET_OUT_N" 0) with lostPower := true }

/-- POWER_ON_RESET (Table 18.10): the fuses alone are kept. -/
def execPowerOnReset (strap : BitVec 2) (s : State) : Out := .next ((s.deviceReset 1 false false strap.toNat).pulseReset).flashReset

/-- PORST (Table 18.10). -/
def execPorst (strap : BitVec 2) (s : State) : Out := .next ((s.deviceReset 2 false false strap.toNat).pulseReset).flashReset

/-- WARM_RESET (R495, R507): the Keyblock in secure state, or the debug port; the straps are latched again. -/
def execWarmReset (rq : Rq) (key : BitVec 16) (strap : BitVec 2) (s : State) : Out :=
  let id := rq.id.toNat
  if !isKbDbg id then .next (s.answer 2)
  else if key.toNat = 0x5253 ∧ (id = idDebug ∨ rq.sec) then
    .next ((s.warmReset (if id = idDebug then 5 else 4) strap.toNat).answer 0)
  else .next (s.answer 0)

/-- MONITOR_FAULT (R529): Tj above 140 °C, or a supply outside its range. -/
def execMonitorFault (temp : Bool) (supply : Fin 6) (s : State) : Out :=
  let s := if temp then s else s.setF (PHYA.VMON_OOR supply) 1
  .next (s.fault { unit := 0xB9, code := if temp then 2 else 1, cls := 3, detail := if temp then 0 else supply })

/-- PLATE_CLEAR (R496). -/
def execPlateClear (rq : Rq) (keepEn : Bool) (keep : BitVec 12) (s : State) : Out :=
  let r := s.sysWrite rq 0x374 (1 + b2n keepEn * 4 + keep.toNat * 0x100000)
  .next (r.2.answer r.1)

/-- PLATE_CLEAR_DONE (R496). -/
def execPlateClearDone (s : State) : Out := .next (s.setF SYS.PCLR_BUSY 0)

/-- GOVERNOR_SAMPLE (R506): Tj in 1/16 °C. -/
def execGovernorSample (tj : BitVec 16) (s : State) : Out :=
  let t := toSigned 16 tj.toNat
  let s := s.setFs [(PHYA.TEMP_TJ, tj.toNat), (PHYA.TEMP_VALID, 1)]
  if !s.on SYS.GOVCFG_EN then .next s
  else
    let s := s.setF SYS.GOVSTAT_TJ tj.toNat
    let hi : Int := 16 * s.f SYS.GOVCFG_TTHR
    let lo : Int := hi - 16 * s.f SYS.GOVCFG_HYST
    if !s.on SYS.GOVSTAT_THROT ∧ hi ≤ t then
      .next ((((s.setF SYS.GOVSTAT_THROT 1).bump SYS.GOVSTAT_EPIS).kevt 15).postEvent 0x9081 [1, tj.toNat])
    else if s.on SYS.GOVSTAT_THROT ∧ t < lo then
      .next (((s.setF SYS.GOVSTAT_THROT 0).kevt 15).postEvent 0x9081 [0, tj.toNat])
    else .next s

/-- BANK_SUPPLY_CHANGE (R530): absent (0), the 1.8 V class (1), the 3.3 V class (2), between the classes (3). -/
def execBankSupplyChange (c : Fin 8) (v : Fin 4) (s : State) : Out :=
  .next ({ s with vddio := tabPut s.vddio c v.val }.refreshBank c)

end Sys2Proof.Machine
end

