-- ==== Sys2Proof/Machine/Time.lean ====
section
/-! DEFINITION. The meanings of the time unit's commands (chapter 9). -/
namespace Sys2Proof.Machine

/-- Does a Ruling instance run (R273)? -/
def State.anyRuns (s : State) : Bool := [0, 1, 2, 3].any s.ttRuns

/-- A step (R273) to SETSEC and SETNS, with its effects (Table 9.3). -/
def State.timeStep (s : State) : State :=
  let ns := s.f TMU.SETNS_NS
  if s.f TMU.STAT_STATE ≠ 0 ∨ s.anyRuns ∨ ns > 999999999 then s.setF TMU.STAT_STEPREJ 1
  else
    let old := s.now
    let s := { s with time := { s.time with sec := s.f TMU.SETSECL_SEC + s.f TMU.SETSECH_SEC * 2 ^ 32, sub := ns * nsUnit, rem := 0 }, stepNo := s.stepNo + 1 }
    let s := (s.setF TMU.STAT_SLEWING 0).bump TMU.STAT_STEPS
    let s := (List.range 22).foldl State.refreshGates s
    ((s.rejudge.stepTrigs old).correlate).epStep old

/-- A write of TMU.CTL: SETSTATE, STEP, CORR in that order (R268, R273, R289). -/
def State.tmuCtl (s : State) (v : Nat) : State :=
  let c := bitsOf v 0 3
  let s := if 1 ≤ c ∧ c ≤ 4 then s.setTimeState (c - 1) else s
  let s := if bitOf v 3 then s.timeStep else s
  if bitOf v 4 then s.correlate else s

/-- A write that the servo owner, the Keyblock and the debug port may make (R270). -/
def servoCmd (rq : Rq) (k : State → State) (s : State) : Out :=
  if s.servoOk rq then .next ((k s).answer 0) else .next (s.answer 2)

/-- TIME_READ (R265). -/
def execTimeRead (rq : Rq) (s : State) : Out :=
  let x := s.timeRead rq.id.toNat
  .next (x.2.answer 0 (leBytes 4 x.1))

/-- SET_STATE (R268). -/
def execSetState (rq : Rq) (code : BitVec 3) (s : State) : Out := servoCmd rq (fun s => s.tmuCtl code.toNat) s

/-- TIME_STEP (R273): SETSEC and SETNS, then CTL.STEP. -/
def execTimeStep (rq : Rq) (sec : BitVec 48) (ns : Word) (s : State) : Out :=
  servoCmd rq (fun s =>
    (s.setFs [(TMU.SETSECL_SEC, sec.toNat % 2 ^ 32), (TMU.SETSECH_SEC, sec.toNat / 2 ^ 32), (TMU.SETNS_NS, ns.toNat)]).tmuCtl 8) s

/-- CORRELATION_REQUEST (R289). -/
def execCorrelationRequest (rq : Rq) (s : State) : Out := servoCmd rq (fun s => s.tmuCtl 16) s

/-- PERIODIC_CORRELATION (R289): with MBCCFG.PER = 0 there is none. -/
def execPeriodicCorrelation (s : State) : Out := if s.f TMU.MBCCFG_PER = 0 then .next s else .next s.correlate

/-- FREQ_WRITE (R271). -/
def execFreqWrite (rq : Rq) (val : Word) (s : State) : Out := servoCmd rq (fun s => s.setFreq val.toNat) s

/-- PHASE_WRITE (R272). -/
def execPhaseWrite (rq : Rq) (val : Word) (s : State) : Out := servoCmd rq (fun s => s.setPhase val.toNat) s

/-- Does a write of FREQ or PHASE wait for this very TCLK cycle? No time passes while a command waits. -/
def State.servoWaits (s : State) : Bool :=
  s.pending.any (fun c =>
    match c with
    | .freqWrite rq _ => s.servoOk rq
    | .phaseWrite rq _ => s.servoOk rq
    | .registerWrite _ rq a _ => s.servoOk rq && (a.toNat == TMU.FREQ || a.toNat == TMU.PHASE)
    | _ => false)

/-- UPDATE_TIMEOUT (R268): UPD_TO ms of 500,000 ticks have passed in SYNC without a restart of the update timer; a write of FREQ or PHASE in the
same cycle wins. -/
def execUpdateTimeout (s : State) : Out :=
  let to_ := s.f TMU.SRVCFG_UPD_TO
  if !s.servoWaits ∧ s.f TMU.STAT_STATE = 2 ∧ to_ ≠ 0 ∧ s.updAt + to_ * 500000 ≤ s.ticks then .next ((s.setF TMU.STAT_UPDTO 1).setTimeState 3) else .next s

/-- SLEW_END (R272): rem has reached 0. -/
def execSlewEnd (s : State) : Out := if s.time.rem = 0 then .next (s.setF TMU.STAT_SLEWING 0) else .next s

/-- Is an edge at pin `i` one that EDGE chooses (Table 9.10)? -/
def State.capEdge (s : State) (i : Nat) (rising : Bool) : Bool :=
  match s.f (TMU.TIOCFG_EDGE i) with | 1 => !rising | 2 => true | _ => rising

/-- TIO_CAPTURE (R284): an edge at pin `i` (4 is PPS_IN) that EDGE chooses, in MODE 1; in Hold the time unit stands. -/
def execTioCapture (i : Fin 5) (rising : Bool) (s : State) : Out :=
  if s.tioMode i = 1 ∧ s.capEdge i rising ∧ !s.tclkOff then .next (s.capture i) else .next s

/-- CAPTURE_QUEUE_READ (R284). -/
def execCaptureQueueRead (rq : Rq) (i : Fin 5) (s : State) : Out :=
  let x := s.capRead i
  if idListed rq.id.toNat then .next (x.2.answer 0 (leBytes 4 x.1)) else .next (s.answer 2)

/-- A write of TIOCFG: its fields, then arming by MODE 2 or 3 (R285); another MODE ends a trigger. -/
def State.tioWrite (s : State) (i v : Nat) : State := (s.wrReg (TMU.TIOCFG i) v).armTrig i

/-- TRIGGER_ARM (R285): a write of MODE 2 or 3 with the other fields kept. -/
def execTriggerArm (rq : Rq) (i : Fin 4) (mode3 : Bool) (s : State) : Out :=
  if isKbDbg rq.id.toNat then
    .next ((s.tioWrite i (setBits (s.rd (TMU.TIOCFG i) % 256) 0 3 (if mode3 then 3 else 2))).answer 0)
  else .next (s.answer 2)

/-- TRIGGER_EDGE (R285): the active edge at the programmed time (`start`) or its end; a single pulse then is over. -/
def execTriggerEdge (i : Fin 4) (start : Bool) (s : State) : Out :=
  match s.trig.find? (fun e => e.1 == i.val) with
  | none => .next s
  | some (_, t) =>
    if s.stopped || s.tclkOff then .next s
    else
      let lvl := if start then 1 - s.f (TMU.TIOCFG_POL i) else s.f (TMU.TIOCFG_POL i)
      let trig := if !start ∧ t.mode = 2 then tabDel s.trig i else tabPut s.trig i { t with active := start }
      .next (({ s with trig := trig }).emit (.pin (tioName i) lvl))

/-- PPS_OUT_PULSE (R286): the seconds field has changed (`start`), or the width has elapsed. -/
def execPpsOutPulse (start : Bool) (s : State) : Out :=
  let pol := s.f TMU.PPSOUT_POL
  if !start then .next (s.emit (.pin "PPS_OUT" pol))
  else if s.on TMU.PPSOUT_EN && (!s.on TMU.PPSOUT_SYNCONLY || s.on TMU.STAT_INBOUND) && !s.stopped && !s.tclkOff then
    .next (s.emit (.pin "PPS_OUT" (1 - pol)))
  else .next s

end Sys2Proof.Machine
end

