-- ==== Sys2Proof/Machine/Bus.lean ====
section
/-! DEFINITION. Accesses by internal address (R38–R43): register blocks with the rights and widths of their chapters (R11, R12, R41), engine
windows (R148–R151), L2 windows, Plate and its aliases, host memory; what a cluster in Doze does with a request (R42); what
hardware attaches to a core's requests (R36, R143, R406). -/
namespace Sys2Proof.Machine

/-! ## The address map -/

/-- End of the listed range that holds `a` (Tables 1.15, 1.16); 0 where `a` is unmapped. Each engine window, L2 window and register block is a range
of its own; an L2 window is populated for 1 MiB. -/
def rangeEnd (a : Nat) : Nat :=
  if a < 0x20000 then 0x20000
  else if plateLo ≤ a ∧ a < plateHi then plateHi
  else if plateHi ≤ a ∧ a < 0x11880000 then 0x11880000
  else if 0x12000000 ≤ a ∧ a < 0x13800000 then 0x13800000
  else if 0x20000000 ≤ a ∧ a < 0x20600000 then (a / 0x40000 + 1) * 0x40000
  else if 0x21000000 ≤ a ∧ a < 0x22000000 then
    (if a % 0x400000 < 0x100000 then a / 0x400000 * 0x400000 + 0x100000 else 0)
  else if (blockTable a).isSome then (a / 0x10000 + 1) * 0x10000
  else if 0x80000000 ≤ a ∧ a < 0x100000000 then 0x100000000
  else 0

/-- Is `a` in a listed range? -/
def mapped (a : Nat) : Bool := decide (a < rangeEnd a)

/-- The cluster that serves address `a` (SYS.DOZE index: CC c, 8 + n for AC n). -/
def clusterAt (a : Nat) : Option Nat :=
  if 0x20000000 ≤ a ∧ a < 0x20600000 then some ((a - 0x20000000) / 0x40000 / 3)
  else if 0x21000000 ≤ a ∧ a < 0x22000000 then some (8 + (a - 0x21000000) / 0x400000)
  else if 0x40200000 ≤ a ∧ a < 0x40280000 then some ((a - 0x40200000) / 0x10000)
  else none

/-- The region whose power address `a` needs. -/
def regionAt (a : Nat) : Option Nat :=
  match clusterAt a with
  | some c => some (if c < 8 then c / 2 else c - 8)
  | none => if 0x40300000 ≤ a ∧ a < 0x40340000 then some ((a - 0x40300000) / 0x10000) else none

/-- A request for a cluster in Doze wakes it and completes (R42, R482, R484). -/
def State.wakeDoze (s : State) (a : Nat) : State :=
  match clusterAt a with
  | some c => s.wakeCluster c
  | none => s

/-- Does a load of this requester change no state (R475)? -/
def State.peeks (s : State) (rq : Rq) : Bool := rq.id.toNat == idKeyblock && s.on FLT.CTL_PEEK

/-! ## The mailbox block (R105) -/

/-- The channel, slot and word of an offset in the slot apertures or the port window. -/
def State.mbxSlotAt (s : State) (o : Nat) : Option (Nat × Nat × Nat) :=
  if o < 0x8000 then some (o / 0x400, o % 0x400 / 64, o % 64 / 4)
  else if 0xC000 ≤ o ∧ o % 0x100 < 0x80 then
    let c := (o - 0xC000) / 0x100
    some (c, if o % 0x100 < 0x40 then s.f (MBX.CHSTAT_WIDX c) else s.f (MBX.CHSTAT_RIDX c), o % 64 / 4)
  else none

/-- The channel whose CHOP stands at an offset. -/
def mbxChopAt (o : Nat) : Option Nat :=
  if 0x8000 ≤ o ∧ o < 0x8800 ∧ o % 0x20 = 4 then some ((o - 0x8000) / 0x20)
  else if 0xC000 ≤ o ∧ o % 0x100 = 0x80 then some ((o - 0xC000) / 0x100)
  else none

/-- A write of the MBX block (Table 3.4, R91, R94), judged as the identity the requester acts as (R101). -/
def State.mbxWrite (s : State) (rq : Rq) (o v : Nat) : Nat × State :=
  let id := s.acting rq
  let a := 0x40010000 + o
  match s.mbxSlotAt o with
  | some (c, i, w) => s.slotWrite rq c i w v
  | none =>
    match mbxChopAt o with
    | some c => s.chop rq c v
    | none =>
      if 0xA000 ≤ o ∧ o < 0xA200 then
        let k := (o - 0xA000) / 8
        if !bindable k then (0, s)
        else if s.ownsBell rq k then (0, if o % 8 = 0 then s.wrReg a v else s.maskBy rq k v)
        else (2, s)
      else if 0xB000 ≤ o ∧ o < 0xB400 then (0, s.claimWrite rq ((o - 0xB000) / 4) v)
      else if o = 0xA400 then
        (if id = idKeyblock then (0, if bindable (v % 256) then s.ringDoorbell (v % 256) (bitsOf v 8 5) else s) else (2, s))
      else if o = 0xB404 then (if id = idKeyblock then (0, s.setF (MBX.CLM_OWNER (v % 256)) 0) else (2, s))
      else if (regAt a).isNone ∧ o < 0xC000 then (0, s)
      else if (0x8000 ≤ o ∧ o < 0x8800 ∧ o % 0x20 = 0) ∨ (0x8800 ≤ o ∧ o < 0x8B00) ∨ o = 0x8B20 then
        if !isKbDbg id then (2, s)
        else if o = 0x8B20 then
          (0, match bitsOf v 8 2 with | 1 => s.mbxClearKey (v % 256) | 2 => s.mbxRevert (v % 256) | _ => s)
        else if o < 0x8800 ∧ s.on MBX.LOCK_BIND_LOCK then (0, s)
        else (0, s.wrReg a v)
      else if 0xC000 ≤ o ∧ o % 0x100 ≠ 0x84 then (0, s)
      else (2, s)

/-- A read of the MBX block (R87, R92, R94, R102). -/
def State.mbxRead (s : State) (rq : Rq) (o : Nat) : Nat × Nat × State :=
  let id := s.acting rq
  let reg (a : Nat) : Nat × Nat × State := let r := s.rdReg a; (0, r.1, r.2)
  match s.mbxSlotAt o with
  | some (c, i, w) => s.slotRead rq c i w
  | none =>
    match mbxChopAt o with
    | some c => (if s.chOk c then 0 else 2, 0, s)
    | none =>
      if 0xA000 ≤ o ∧ o < 0xA200 then
        let k := (o - 0xA000) / 8
        if !bindable k then (0, 0, s)
        else if s.ownsBell rq k || id == idKeyblock then reg (0x40010000 + o) else (2, 0, s)
      else if 0xB000 ≤ o ∧ o < 0xB400 then
        let r := s.claimRead rq ((o - 0xB000) / 4)
        (0, r.1, r.2)
      else if 0xC000 ≤ o then (if o % 0x100 = 0x84 then reg (MBX.CHSTAT ((o - 0xC000) / 0x100)) else (0, 0, s))
      else reg (0x40010000 + o)

/-! ## Other blocks of the common domain -/

/-- The port and bank of a Stencil header or list word. -/
def stencilAt (a : Nat) : Option (Nat × Nat) :=
  let o := a - SW.STH_CYCLE 0 0
  let e := a - SW.STE 0 0 0
  if SW.STH_CYCLE 0 0 ≤ a ∧ o < 22 * 0x20 then some (o / 0x20, o % 0x20 / 0x10)
  else if SW.STE 0 0 0 ≤ a ∧ e < 22 * 0x800 then some (e / 0x800, e % 0x800 / 0x400)
  else none

/-- A write of the SW block (R262, R253, R244, R258). -/
def State.swWrite (s : State) (rq : Rq) (o v : Nat) : Nat × State :=
  let a := 0x40020000 + o
  let ring : Bool := decide (0x2000 ≤ o) && decide (o < 0x3000) && decide (o % 0x400 < 0x200)
  let n := (o - 0x2000) / 0x400
  let r := o % 0x400 / 0x20
  if ring && o % 0x20 == 0xC then s.ringPost rq n r (v % 1024)
  else if ring && o % 0x20 == 0x10 then s.ringRelease rq n r (v % 1024)
  else if !isKbDbg rq.id.toNat then (2, s)
  else if o = 0xC00 then (0, s.tblSel rq v)
  else if o = 0xD00 then s.swCtxop rq (v % 256) (bitsOf v 8 2)
  else
    match stencilAt a with
    | some (p, b) =>
      if b = s.opbank p then (2, s)
      else
        let t := s.wrReg a v
        (0, { t with stMark := if t.stMark.contains p then t.stMark else t.stMark ++ [p] })
    | none => (0, s.takeWord a v)

/-- A write of the TMU block (R270, R290). -/
def State.tmuWrite (s : State) (rq : Rq) (o v : Nat) : Nat × State :=
  let servo : Bool := o == 0 || o == 0x20 || o == 0x24 || o == 0x28 || o == 0x30 || o == 0x34
  if !(isKbDbg rq.id.toNat || (servo && s.servoOk rq)) then (2, s)
  else if o = 0 then (0, s.tmuCtl v)
  else if o = 0x30 then (0, s.setFreq v)
  else if o = 0x34 then (0, s.setPhase v)
  else if 0x300 ≤ o ∧ o < 0x3A0 ∧ o % 0x20 = 0 then (0, s.tioWrite ((o - 0x300) / 0x20) v)
  else if o = 0x3C then (0, (s.wrReg (0x40030000 + o) v).refreshInbound)
  else (0, s.wrReg (0x40030000 + o) v)

/-- A read of the TMU block (R265, R272, R284, R288). -/
def State.tmuRead (s : State) (rq : Rq) (o : Nat) : Nat × State :=
  let id := rq.id.toNat
  if o = 0x10 then s.timeRead id
  else if o = 0x14 then ((s.timeLatch id).1 % 2 ^ 32, s)
  else if o = 0x18 then ((s.timeLatch id).1 / 2 ^ 32, s)
  else if o = 0x1C then ((s.timeLatch id).2, s)
  else if o = 0x34 then (s.phaseRead, s)
  else if o = 4 then (s.setF TMU.STAT_SLEWING (b2n (s.time.rem != 0))).rdReg TMU.STAT
  else if 0x300 ≤ o ∧ o < 0x3A0 ∧ o % 0x20 = 0x14 then s.capRead ((o - 0x300) / 0x20)
  else s.rdReg (0x40030000 + o)

/-- A write of the RUL block (R297, R319): with DMODE = 1 the debug port reaches CTL.RUN only; what the Keyblock then writes lands in the
draft copies before. -/
def State.rulWrite (s : State) (rq : Rq) (o v : Nat) : Nat × State :=
  let a := 0x40040000 + o
  if !isKbDbg rq.id.toNat then (2, s)
  else
    match rulOf a with
    | none => if (regAt a).isNone then (0, s) else if s.on OBS.ACTCTL_DMODE then (2, s) else (0, s.wrReg a v)
    | some n =>
      if a = RUL.CTL n ∧ s.on OBS.ACTCTL_DMODE then (0, s.runSet n (bitOf v 0))
      else if a = RUL.CTL n then
        let s := if s.ttRuns n then s.rulDirect n a v else s.rulDirect n a (setBits v 0 1 0)
        (0, s.runSet n (bitOf v 0))
      else if o < 0x1000 ∧ (o % 0x100 = 4 ∨ (0x30 ≤ o % 0x100 ∧ o % 0x100 < 0x3C)) then (0, s.wrReg a v)
      else if (regAt a).isNone then (0, s)
      else if s.on OBS.ACTCTL_DMODE then (2, s)
      else (0, s.rulDirect n a v)

/-- A write of the PCI block (R53, R54). -/
def State.pciWrite (s : State) (rq : Rq) (o v : Nat) : Nat × State :=
  let f := (o - 0x100) / 0x80
  let w := o % 0x80 / 0x10
  if !isKbDbg rq.id.toNat then (2, s)
  else if 0x100 ≤ o ∧ o < 0x200 ∧ s.on (PCI.B2ATTR_LOCK f w) then (0, s)
  else (0, s.wrReg (0x400A0000 + o) v)

/-- A write of the MBUS block (R369, R370, R380). -/
def State.mbusWrite (s : State) (rq : Rq) (o v : Nat) : Nat × State :=
  let k := o / 0x1000
  let r := o % 0x1000
  let a := 0x400B0000 + o
  let b := (r - 0x100) / 0x80
  let kd := isKbDbg rq.id.toNat
  let tx : Bool := decide (0x100 ≤ r) && decide (r < 0x280)
  if !mbRights rq then (2, s)
  else if 8 ≤ k then (0, s)
  else if r = 0x28 then (0, s.mbOp k v)
  else if tx && (r - 0x100) % 0x80 == 8 then (0, s.mbTxctl k b v)
  else if tx && (regAt a).isNone then (0, s)
  else if tx && (r - 0x100) % 0x80 != 0xC && (r - 0x100) % 0x80 != 0x10 then
    if s.f (MBUS.TXSTAT_STATE k b) = 1 ∨ s.f (MBUS.TXSTAT_STATE k b) = 2 then (2, s) else (0, s.wrReg a v)
  else if r = 0x14 ∨ r = 0x18 ∨ r = 0x20 then (0, s.wrReg a v)
  else if !kd then (2, s)
  else if r = 0 ∨ r = 8 ∨ r = 0xC ∨ (0x40 ≤ r ∧ r < 0xC0) then (0, ((s.mbMove k).wrReg a v).mbChanged s k)
  else (0, s.wrReg a v)

/-- A read of the MBUS block (R376, R380). -/
def State.mbusRead (s : State) (rq : Rq) (o : Nat) : Nat × Nat × State :=
  let k := o / 0x1000
  if !mbRights rq then (2, 0, s)
  else if k < 8 ∧ o % 0x1000 = 0x1C then (0, s.mbCount k, s)
  else if k < 8 ∧ o % 0x1000 = 0x34C then let r := s.mbLastWord k; (0, r.1, r.2)
  else if tabHas s.mbPend (0x400B0000 + o) then (0, s.running (0x400B0000 + o), s)
  else let r := s.rdReg (0x400B0000 + o); (0, r.1, r.2)

/-- A write of the NMG block (R382, R392). -/
def State.nmgWrite (s : State) (rq : Rq) (o v : Nat) : Nat × State :=
  let r := o / 0x20
  let q := o % 0x20
  let a := 0x400C0000 + o
  if 4 ≤ r then (if isKbDbg rq.id.toNat then 0 else 2, s)
  else if q = 0x10 ∨ q = 0x14 ∨ q = 0x18 then
    if !s.ringRights rq r then (2, s)
    else (0, if q = 0x10 then s.ringCtl r v else if q = 0x14 then s.ringReport r (bitOf v 0) else s.wrReg a v)
  else if isKbDbg rq.id.toNat then (0, s.takeWord a v)
  else (2, s)

/-! ## Register accesses -/

/-- A 32-bit write at word address `a` of a register block: code, state. With DMODE = 1 a Keyblock write of a draft word meets its draft
copy (R519). -/
def State.regWrite (s : State) (rq : Rq) (a v : Nat) : Nat × State :=
  let b := a / 0x10000
  let o := a % 0x10000
  let kd := isKbDbg rq.id.toNat
  if s.drafts rq a then (0, s.draftWrite a v)
  else if b = 0x4000 then s.sysWrite rq o v
  else if b = 0x4001 then s.mbxWrite rq o v
  else if b = 0x4002 then s.swWrite rq o v
  else if b = 0x4003 then s.tmuWrite rq o v
  else if b = 0x4004 then s.rulWrite rq o v
  else if b = 0x4005 then s.lpeWrite rq o v
  else if b = 0x4006 then s.wscWrite rq o v
  else if b = 0x4007 then s.pltWrite rq o v
  else if b = 0x4008 then s.fltWrite rq o v
  else if b = 0x4009 then s.obsWrite rq o v
  else if b = 0x400A then s.pciWrite rq o v
  else if b = 0x400B then s.mbusWrite rq o v
  else if b = 0x400C then s.nmgWrite rq o v
  else if 0x4010 ≤ b ∧ b < 0x4020 then (if kd then (0, s.takeWord a v) else (2, s))
  else if 0x4020 ≤ b ∧ b < 0x4028 then s.ccWrite rq (b - 0x4020) o v
  else if 0x4030 ≤ b ∧ b < 0x4034 then s.dmWrite rq (b - 0x4030) o v
  else if o < 0x4000 then s.wakeWrite rq o v
  else if o < 0x8000 then s.brnWrite rq (o - 0x4000) v
  else if o < 0x8400 then s.phyaWrite rq (o - 0x8000) v
  else (0, s)

/-- A 32-bit read at word address `a` of a register block: code, word, state. -/
def State.regRead (s : State) (rq : Rq) (a : Nat) : Nat × Nat × State :=
  let b := a / 0x10000
  let o := a % 0x10000
  let ok (r : Nat × State) : Nat × Nat × State := (0, r.1, r.2)
  let peek := s.peeks rq
  if s.drafts rq a then (0, s.draftOf a, s)
  else if b = 0x4000 then s.sysRead o
  else if b = 0x4001 then s.mbxRead rq o
  else if b = 0x4003 then ok (s.tmuRead rq o)
  else if b = 0x4005 then (if o = 0x14 then s.iwRead rq peek else ok (s.rdReg a))
  else if b = 0x4006 then s.wscRead rq o peek
  else if b = 0x4007 then (if peek && decide (0x4000 ≤ o) then ok (s.rdReg a) else ok (s.pltRead rq o))
  else if b = 0x4008 then s.fltRead rq o peek
  else if b = 0x4009 then s.obsRead rq o
  else if b = 0x400B then s.mbusRead rq o
  else if 0x4010 ≤ b ∧ b < 0x4020 then (if o = 0x30 then ok (s.tsqRead (b - 0x4010)) else ok (s.rdReg a))
  else if 0x4020 ≤ b ∧ b < 0x4028 then s.ccRead rq (b - 0x4020) o
  else if b = 0x4040 ∧ o < 0x4000 then ok (s.wakeRead o)
  else if b = 0x4040 ∧ 0x8000 ≤ o ∧ o < 0x8400 then (if isKbDbg rq.id.toNat then ok (s.phyaRead (o - 0x8000)) else (2, 0, s))
  else ok (s.rdReg a)

/-! ## Memories of the regions -/

/-- The cells of an engine window address: the scratchpad of a cluster stands in the window of its first engine (R148). -/
def engPlace (a : Nat) : Nat :=
  let n := (a - 0x20000000) / 0x40000
  if (a - 0x20000000) % 0x40000 < 0x20000 then a else a - n % 3 * 0x40000

/-- The error counter of an engine window address: correctable or not (R150). -/
def engErr (a : Nat) (ue : Bool) : FldAt :=
  let n := (a - 0x20000000) / 0x40000
  let o := (a - 0x20000000) % 0x40000
  if o < 0x10000 then (if ue then ofCe CC.ENGERR_IUE n else ofCe CC.ENGERR_ICE n)
  else if o < 0x20000 then (if ue then ofCe CC.ENGERR_DUE n else ofCe CC.ENGERR_DCE n)
  else if ue then CC.SPERR_UE (n / 3) else CC.SPERR_CE (n / 3)

/-- Reads a memory with SECDED ECC (R150): code, bytes, state. -/
def State.ramRead (s : State) (a len : Nat) : Nat × List Byte × State :=
  let eng : Bool := decide (0x20000000 ≤ a) && decide (a < 0x20600000)
  let p := if eng then engPlace a else a
  let s := if s.eccIn p len 1 then (if eng then s.bump (engErr a false) (s.eccNum p len 1) else s).eccDrop p len 1 else s
  if s.eccIn p len 2 then (4, s.bytes p len, if eng then s.bump (engErr a true) (s.eccNum p len 2) else s) else (0, s.bytes p len, s)

/-- Writes it: a word written only in part keeps an uncorrectable error and is then refused. -/
def State.ramWrite (s : State) (a : Nat) (bs : List Byte) : Nat × State :=
  let eng : Bool := decide (0x20000000 ≤ a) && decide (a < 0x20600000)
  let p := if eng then engPlace a else a
  let cut (x : Nat) : Bool := x % 8 != 0 && s.eccIn x 1 2
  if cut p || cut (p + bs.length) then (4, if eng then s.bump (engErr a true) else s) else (0, s.putMem p bs)

/-- Rights of Table 5.3 and R149: code of an access to an engine window. -/
def State.engCode (s : State) (rq : Rq) (a len : Nat) (write : Bool) : Nat :=
  let n := (a - 0x20000000) / 0x40000
  let o := (a - 0x20000000) % 0x40000
  let id := rq.id.toNat
  let part (base size : Nat → Nat → Nat → FldAt) (th off : Nat) : Bool :=
    let b := s.f (ofTh base th)
    let z := s.f (ofTh size th)
    decide (b + z ≤ 64) && decide (b * 1024 ≤ off) && decide (off + len ≤ (b + z) * 1024)
  let live (th : Nat) : Bool := [1, 2, 3, 4, 6].contains (s.thState th)
  let clash (th : Nat) : Bool :=
    let b := s.f (ofTh CC.THIMEM_BASE th) * 1024
    let z := s.f (ofTh CC.THIMEM_SIZE th) * 1024
    live th && z != 0 && decide (b + z ≤ 65536) && decide (o < b + z) && decide (b < o + len)
  if o < 0x20000 ∧ 0x20000 < o + len ∨ o < 0x10000 ∧ 0x10000 < o + len then 2
  else if o < 0x20000 ∧ s.on (ofCe CC.ENGSTAT_CLEARING n) then 3
  else if isKbDbg id then
    (if write ∧ o < 0x10000 ∧ (List.range 8).any (fun t => clash (8 * n + t)) then 2 else 0)
  else if 0x20000 ≤ o then (if clusterOf id = some (n / 3) then 0 else 2)
  else
    match rq.rkey with
    | some k =>
      if id ≠ 0x10 + n ∨ k.toNat / 8 ≠ n then 2
      else if o < 0x10000 then (if !write && part CC.THIMEM_BASE CC.THIMEM_SIZE k.toNat o then 0 else 2)
      else if part CC.THDMEM_BASE CC.THDMEM_SIZE k.toNat (o - 0x10000) then 0 else 2
    | none => 2

/-! ## Host memory -/

/-- Bytes of host memory at internal addresses of 0x8000_0000–0xFFFF_FFFF (R38). -/
def State.hostRead (s : State) (a len : Nat) : List Byte := (List.range len).map (fun i => tabGet s.hostMem 0 (Config.hostBus (a + i)))

def State.hostWrite (s : State) (a : Nat) (bs : List Byte) : State :=
  match bs with
  | [] => s
  | b :: t => ({ s with hostMem := cellPut s.hostMem 0 (Config.hostBus a) b }).hostWrite (a + 1) t

/-! ## Whole accesses -/

/-- What refuses an access before its target sees it: bytes that do not all lie in one listed range (R38), a region off or in reset (R41), a
register width (R12), a debug port shut out by the life cycle (R446). Before power-up has ended no master issues a request (R445, R496, log 32); one is
then answered as by a target in reset. 0 when nothing does. -/
def State.busCode (s : State) (rq : Rq) (a len : Nat) : Nat :=
  let block := (blockTable a).isSome
  if s.heldFor rq.id.toNat then 3
  else if rq.id.toNat = idDebug ∧ (s.f PLT.LCSTAT_STATE = 2 ∨ s.f PLT.LCSTAT_STATE = 4) then 2
  else if a < 0x20000 ∨ rangeEnd a < a + max len 1 then 1
  else if (match regionAt a with | some n => s.regionDown n | none => false) then 3
  else if block ∧ (len ≠ 4 ∨ a % 4 ≠ 0) then 5
  else 0

/-- A debug port is attached from its first access on (R544). -/
def State.attach (s : State) (rq : Rq) : State := if rq.id.toNat = idDebug then { s with dbgAttached := true } else s

/-- A read of `len` bytes: code, bytes (0 where refused, R43), state; `bulk`: DMA data (Table 1.10). -/
def State.busRead (s : State) (rq : Rq) (a len : Nat) (bulk : Bool := false) : Nat × List Byte × State :=
  let zeros := List.replicate len (0 : Byte)
  let c := s.busCode rq a len
  if c ≠ 0 then (c, zeros, s)
  else
    let t := (s.wakeDoze a).attach rq
    let r : Nat × List Byte × State :=
      if a < plateHi then t.plateAccess rq false a len [] bulk
      else if a < 0x12000000 then t.sealedAccess rq false a len [] bulk
      else if a < 0x13800000 then t.aliasAccess rq false a len [] bulk
      else if a < 0x20600000 then
        let k := t.engCode rq a len false
        if k = 0 then t.ramRead a len else (k, zeros, t)
      else if a < 0x22000000 then t.ramRead a len
      else if 0x80000000 ≤ a then (0, t.hostRead a len, t)
      else
        let q := t.regRead rq a
        (q.1, leBytes 4 q.2.1, q.2.2)
    if s.peeks rq then (r.1, r.2.1, s) else r

/-- A write of bytes: code, state. -/
def State.busWrite (s : State) (rq : Rq) (a : Nat) (bs : List Byte) (bulk : Bool := false) : Nat × State :=
  let len := bs.length
  let c := s.busCode rq a len
  if c ≠ 0 then (c, s)
  else
    let t := (s.wakeDoze a).attach rq
    if a < plateHi then let r := t.plateAccess rq true a len bs bulk; (r.1, r.2.2)
    else if a < 0x12000000 then let r := t.sealedAccess rq true a len bs bulk; (r.1, r.2.2)
    else if a < 0x13800000 then let r := t.aliasAccess rq true a len bs bulk; (r.1, r.2.2)
    else if a < 0x20600000 then
      let k := t.engCode rq a len true
      if k = 0 then t.ramWrite a bs else (k, t)
    else if a < 0x22000000 then t.ramWrite a bs
    else if 0x80000000 ≤ a then (0, t.hostWrite a bs)
    else t.regWrite rq a (leNat bs)

/-! ## The queues a request passes (R31–R34, Table 1.11) -/

/-- Queues from the unit that issues a request to the core fabric, its own first, each with the direction of the request. -/
def srcQueues (unit id : Nat) : List (Nat × Nat) :=
  if id = idDebug then [(0xA5, 0)]
  else if unit < 0x18 then [(unit, 0), (0x18 + unit / 3, 0), (0x38 + unit / 6, 0)]
  else if 0x20 ≤ unit ∧ unit < 0x30 then [(unit, 0), (0x30 + (unit - 0x20) / 4, 0), (0x38 + (unit - 0x20) / 4, 0)]
  else if 0x34 ≤ unit ∧ unit < 0x38 then [(unit, 0), (unit + 4, 0)]
  else if 0xA0 ≤ unit ∧ unit < 0xA8 then [(0xB0 + (unit - 0xA0), 0)]
  else if 0xAA ≤ unit ∧ unit < 0xAE then [(0xA8 + (unit - 0xAA), 0)]
  else if unit = 0xAE then [(0xA2, 0)]
  else if unit = 0xB2 then [(0xA4, 0)]
  else if unit = 0xB3 then [(0xA3, 0)]
  else if 0xB7 ≤ unit ∧ unit < 0xBA ∨ 0x90 ≤ unit ∧ unit < 0xA0 then [(0xC1, 0)]
  else []

/-- Queues from the core fabric to the unit that serves address `a`; those of the Plate banks are counted with the access itself. -/
def dstQueues (a : Nat) : List (Nat × Nat) :=
  let b := a / 0x10000
  if 0x20000000 ≤ a ∧ a < 0x20600000 then
    let n := (a - 0x20000000) / 0x40000
    [(0x38 + n / 6, 1), (0x18 + n / 3, 1), (n, 1)]
  else if 0x21000000 ≤ a ∧ a < 0x22000000 then [(0x38 + (a - 0x21000000) / 0x400000, 1), (0x30 + (a - 0x21000000) / 0x400000, 1)]
  else if 0x80000000 ≤ a ∨ b = 0x400A then [(0xA4, 1)]
  else if b = 0x4001 then [(0xA0, 0)]
  else if b = 0x4003 then [(0xA6, 1)]
  else if b = 0x4004 then (match rulOf a with | some n => [(0xA8 + n, 1)] | none => [])
  else if b = 0x4005 then [(0xA2, 1)]
  else if b = 0x4006 then [(0xA1, 0)]
  else if b = 0x400B then [(0xB0 + a % 0x8000 / 0x1000, 1)]
  else if 0x4020 ≤ b ∧ b < 0x4028 then [(0x38 + (b - 0x4020) / 2, 1), (0x18 + (b - 0x4020), 1)]
  else if 0x4030 ≤ b ∧ b < 0x4034 then [(0x38 + (b - 0x4030), 1), (0x34 + (b - 0x4030), 1)]
  else if b = 0x4040 then [(0xC0, 0)]
  else []

/-- The queues a request passes; inside one region it does not leave the region fabric. -/
def reqQueues (unit id a : Nat) : List (Nat × Nat) :=
  let s := srcQueues unit id
  let d := dstQueues a
  s.filter (fun x => !d.contains (x.1, 1)) ++ d.filter (fun x => !s.contains (x.1, 0))

/-- A request from `unit` passes its queues. -/
def State.carry (s : State) (unit id a len : Nat) (write : Bool) : State := s.carryOver (reqQueues unit id a) len write

/-- Is the way of a request open: credits on every queue to its target, those of the Plate banks among them (R33, R34), and no Hold (R487)? It waits
while it is not. -/
def State.pathOpen (s : State) (unit : Nat) (rq : Rq) (a len : Nat) (write : Bool) : Bool :=
  s.awake && s.mayPass (reqQueues unit rq.id.toNat a) len write && s.banksOpen rq a len write

/-! ## What hardware attaches to a core's requests -/

/-- The request fields of core `c` (R36, R108, R126, R143, R406). -/
def State.coreRq (s : State) (c : Nat) : Rq :=
  if c < 192 then
    ⟨BitVec.ofNat 8 (0x10 + c / 8), some (BitVec.ofNat 8 c), some (BitVec.ofNat 8 (s.f (ofTh CC.THKEY_KEY c))),
      BitVec.ofNat 32 (s.f (ofTh CC.THCOS_COS c)), false, false⟩
  else if c < 208 then
    match s.topItem (c - 192) with
    | some x => ⟨BitVec.ofNat 8 (0x30 + (c - 192)), some (BitVec.ofNat 8 x.key), some (BitVec.ofNat 8 x.key), BitVec.ofNat 32 x.cos, false, false⟩
    | none => ⟨BitVec.ofNat 8 (0x30 + (c - 192)), none, none, 0, false, false⟩
  else ⟨0x08, none, none, 0, (s.core 208).sec, decide ((s.core 208).pc.toNat < 0x8000)⟩

/-- Is a store of `v` at `a` a fenced output of an application core (R406, Table 5.6)? -/
def appFenced (a v : Nat) : Bool :=
  let b := a / 0x10000
  let o := a % 0x10000
  if b = 0x4001 then bitOf v 0 && ((0x8000 ≤ o && o < 0x8800 && o % 0x20 == 4) || (0xC000 ≤ o && o % 0x100 == 0x80))
  else if b = 0x4006 then o == 0x10
  else decide (0x4030 ≤ b) && decide (b < 0x4034) && decide (0x1000 ≤ o) && decide (o < 0x1400) && o % 0x40 == 4 && bitOf v 0

/-- The COS of the running item steps before a fenced output of its core (R406). -/
def State.stepItemCos (s : State) (c a v : Nat) : State :=
  if 192 ≤ c ∧ c < 208 ∧ appFenced a v then
    match s.topItem (c - 192) with
    | some x => s.putItem { x with cos := (x.cos + 1) % 2 ^ 32 }
    | none => s
  else s

end Sys2Proof.Machine
end

