-- ==== Sys2Proof/Machine/Boot.lean ====
section
/-! DEFINITION. Boot flash and its commit records (R501–R503), boot from flash and by the host (R497–R500, R60). -/
namespace Sys2Proof.Machine

/-! ## Boot flash -/

/-- `n` bytes of boot flash; an erased byte reads 0xFF. -/
def State.flashBytes (s : State) (a n : Nat) : List Byte := (List.range n).map (fun i => tabGet s.flash 0xFF (a + i))

/-- Programs bytes from offset `a` on. -/
def putFlash (m : List Host.Cell) (a : Nat) (bs : List Byte) : List Host.Cell :=
  match bs with
  | [] => m
  | b :: t => putFlash (cellPut m 0xFF a b) (a + 1) t

/-- Erases `n` bytes at `a`, then programs. -/
def State.flashWrite (s : State) (a n : Nat) (bs : List Byte) : State :=
  { s with flash := putFlash (s.flash.filter (fun c => !(decide (a ≤ c.1) && decide (c.1 < a + n)))) a bs }

/-- A commit record (Table 18.14). -/
structure CommitRec where
  pos : Nat
  seq : Nat
  active : Nat
  prevOk : Bool
  digA : Nat
  digB : Nat
deriving DecidableEq, Repr

/-- The bytes of a record. -/
def CommitRec.bytes (r : CommitRec) : List Byte :=
  let b := leBytes 4 0x544D4F43 ++ leBytes 4 r.seq ++ leBytes 4 (r.active + 2 * b2n r.prevOk) ++ leBytes 4 0
    ++ leBytes 16 r.digA ++ leBytes 16 r.digB ++ leBytes 12 0
  b ++ leBytes 4 (crc32 b)

/-- The record at position `i`: 64 in sector 0, then 64 in sector 1. -/
def State.recordAt (s : State) (i : Nat) : Option CommitRec :=
  let b := s.flashBytes (64 * i) 64
  let w (o : Nat) : Nat := leNat ((b.drop o).take 4)
  if w 0 = 0x544D4F43 ∧ w 0x3C = crc32 (b.take 0x3C) then
    some ⟨i, w 4, w 8 % 2, bitOf (w 8) 1, leNat ((b.drop 0x10).take 16), leNat ((b.drop 0x20).take 16)⟩
  else none

/-- The latest record (R503). -/
def State.latestRecord (s : State) : Option CommitRec :=
  (List.range 128).foldl (fun m i =>
    match m, s.recordAt i with
    | none, r => r
    | some x, none => some x
    | some x, some r => if r.seq ≠ x.seq ∧ sub32 r.seq x.seq < 2 ^ 31 then some r else some x) none

/-- Appends a record (R502): at the first erased position of the sector of the latest one, else in the other sector after its erase. -/
def State.appendRecord (s : State) (active : Nat) (prevOk : Bool) (digA digB : Nat) : State :=
  let l := s.latestRecord
  let sec := match l with | some x => x.pos / 64 | none => 0
  let seq := match l with | some x => (x.seq + 1) % 2 ^ 32 | none => 1
  let r : CommitRec := ⟨0, seq, active, prevOk, digA, digB⟩
  match (List.range 64).find? (fun i => (s.flashBytes (64 * (64 * sec + i)) 64).all (fun b => b == 0xFF)) with
  | some i => { s with flash := putFlash s.flash (64 * (64 * sec + i)) r.bytes }
  | none => s.flashWrite (0x1000 * (1 - sec)) 0x1000 r.bytes

/-! ## Boot -/

/-- The Keyblock's own requests in secure state. -/
def rqKb : Rq := ⟨0x08, none, none, 0, true, false⟩

/-- Binds channels 0–7 (Table 2.7, R60). -/
def State.bindSessions (s : State) : State :=
  [0, 1, 2, 3].foldl (fun s n =>
    let f := 1 + n / 2
    (s.setFs [(MBX.CHCFG_SENDER (2 * n), f), (MBX.CHCFG_RECEIVER (2 * n), 8), (MBX.CHCFG_EN (2 * n), 1)]).setFs
      [(MBX.CHCFG_SENDER (2 * n + 1), 8), (MBX.CHCFG_RECEIVER (2 * n + 1), f), (MBX.CHCFG_DBBIT (2 * n + 1), n % 2),
       (MBX.CHCFG_EN (2 * n + 1), 1), (MBX.CHCFG_FLUSH_ON_RX_RESET (2 * n + 1), 1)]) s

/-- PROOFSTAT from the header found in the Proof area (R472). -/
def State.findProof (s : State) : State :=
  if s.on FLT.PROOFBASE_V then
    let b := s.bytes (0x100000 * s.f FLT.PROOFBASE_ADDR) 0x100
    let w (o : Nat) : Nat := leNat ((b.drop o).take 4)
    if w 0 = 0x464F5250 ∧ w 0xF8 = crc32 (b.take 0xF8) then
      s.setFs [(FLT.PROOFSTAT_VALID, 1), (FLT.PROOFSTAT_KIND, w 8 % 256), (FLT.PROOFSTAT_COUNT, w 0x14)]
    else s
  else s

/-- Steps 6–8 of Table 18.12: the main firmware applies the boot configuration `cfg`, locks the bindings and is ready. -/
def State.enterFirmware (s : State) (slot : Nat) (fallback : Bool) (ms : Nat) (cfg : List (Word × Word)) : State :=
  let s := (s.setF SYS.BOOTSTAT_STAGE 2).bindSessions
  let s := cfg.foldl (fun s e => (s.busWrite rqKb e.1.toNat (leBytes 4 e.2.toNat)).2) s
  s.findProof.setFs [(SYS.BOOTSTAT_SLOT, slot), (SYS.BOOTSTAT_FALLBACK, b2n fallback), (MBX.LOCK_BIND_LOCK, 1),
    (SYS.BOOTSTAT_READY, 1), (SYS.BOOTSTAT_STAGE, 4), (SYS.BOOTSTAT_MS, ms)]

/-- Recovery (R503): the ROM serves sessions in STAGE 5. -/
def State.recovery (s : State) : State := (s.bindSessions.setF MBX.LOCK_BIND_LOCK 1).setF SYS.BOOTSTAT_STAGE 5

/-- May the Keyblock boot: reset released, clocks locked, memories cleared, not yet booted? -/
def State.bootable (s : State) (stage : Nat) : Bool :=
  !s.offline && s.on SYS.CLKSTAT_PLL_LOCK && s.on PLT.CLRSTAT_DONE && s.f SYS.BOOTSTAT_STAGE == stage

/-- Does Table 16.4 admit an image in the life-cycle state, signed with the production key (`prod`) or the development key? -/
def State.imageAllowed (s : State) (prod : Bool) : Bool :=
  match s.f PLT.LCSTAT_STATE with
  | 1 => true
  | 2 => prod
  | 3 => !prod
  | _ => false

/-- May an image be booted? `sig`: what its digests and signature show: none where they fail, else the key it verifies under (R446, R499). -/
def State.bootGood (s : State) (sig : Option Bool) : Bool := match sig with | some prod => s.imageAllowed prod | none => false

/-- BOOT (R497–R499, R503): `okA`, `okB`: the slot's manifest digest matches the record and its digests and signature hold, with the production key or
the development key. In the Blank state no image is accepted, and the ROM waits in STAGE 1 for a provisioning record (Table 16.4); `cfg`: the boot
configuration as the Keyblock's register writes; `partners`: expected Seal and epoch by chassis ID. -/
def execBoot (okA okB : Option Bool) (ms : BitVec 16) (cfg : List (Word × Word)) (partners : List (List Byte × BitVec 64 × Word)) (s : State) : Out :=
  if !s.bootable 0 then .next s
  else
    let s : State := { s.setF SYS.BOOTSTAT_STAGE 1 with expected := partners.map (fun p => (p.1, p.2.1.toNat, p.2.2.toNat)) }
    if s.f SYS.BOOTSTAT_STRAP = 3 then
      .next (((s.wr (PCI.B2BASE 0 0) 0).wr (PCI.B2LIM 0 0) 0x1FF000).wr (PCI.B2ATTR 0 0) 7)
    else
      if s.f PLT.LCSTAT_STATE = 0 then .next s
      else match s.latestRecord with
      | none => .next s.recovery
      | some r =>
        let good (slot : Nat) : Bool := if slot = 0 then s.bootGood okA && r.digA != 0 else s.bootGood okB && r.digB != 0
        if good r.active then .next (s.enterFirmware r.active false ms.toNat cfg)
        else if r.prevOk && good (1 - r.active) then
          .next ((s.appendRecord (1 - r.active) false r.digA r.digB).enterFirmware (1 - r.active) true ms.toNat cfg)
        else .next s.recovery

/-- HOST_BOOT_IMAGE (R500, R499): the host has written the image, its length and the magic word; in the Blank state the image is a
provisioning record with the development and production key digests. -/
def execHostBootImage (ok : Option Bool) (ms : BitVec 16) (cfg : List (Word × Word)) (prov : Option (BitVec 256 × BitVec 256)) (s : State) : Out :=
  if s.bootable 1 ∧ s.f SYS.BOOTSTAT_STRAP = 3 ∧ s.memWord 0x101FFFFC = 0x544F4F42 then
    let lc := s.f PLT.LCSTAT_STATE
    let closed := s.wr (PCI.B2ATTR 0 0) 0
    let failed := s.putMem 0x101FFFFC [0, 0, 0, 0]
    if lc = 0 then
      match prov with
      | some (d, p) =>
        if ok.isSome ∧ s.keyDigests = 0 ∧ !s.on PLT.LCSTAT_BUSY then
          .next { (closed.setF PLT.LCSTAT_BUSY 1).wipe 3 with keyDigests := d.toNat + p.toNat * 2 ^ 256, lcTarget := some 1 }
        else .next failed
      | none => .next failed
    else if s.bootGood ok then .next (closed.enterFirmware 0 false ms.toNat cfg)
    else .next failed
  else .next s

end Sys2Proof.Machine
end

