-- ==== Sys2Proof/Machine/Cores.lean ====
section
/-! DEFINITION. How a hardware thread or core issues an instruction: who issues, the fetch check, loads and stores (R123–R127),
exception entry and Double Fault (R131–R134), the repeat prefix (R128–R130). An instruction command says which core issues
which operands; its PC and the word after a REP come from the state. -/
namespace Sys2Proof.Machine

/-- How an instruction ends: it completes, jumps, raises a synchronous exception (cause, detail, address; `after`: the
return address is the word after), takes the imprecise Bus Error it found (R124), waits and is not executed, or waits for a response or a
credit as R146 lists them. -/
inductive IRes where
  | ok (s : State)
  | jump (s : State) (pc : Nat)
  | exc (s : State) (cause detail eaddr : Nat) (after : Bool)
  | imp (s : State)
  | wait (s : State)
  | stall (s : State)
deriving DecidableEq, Repr

/-- May core `c` execute instructions at all: power, region, Doze, Plate clear (R496), no halt under way or in force, no Double Fault
or failure, engine not held, Keyblock in service? -/
def State.coreUp (s : State) (c : Nat) : Bool :=
  let x := s.core c
  !x.dead && !tabHas s.halting c && !s.held && s.f SYS.PWRSTAT_STATE == 0 &&
    match prof c with
    | .e => !s.on (ofCe CC.ENGCTL_HOLD (c / 8)) && !s.regionDown (c / 48) && s.f (SYS.DOZE_STATE (c / 24)) != 2 && !s.on SYS.PCLR_BUSY
    | .a => !s.on (SYS.DBGCTL_HALTED (c - 192)) && !s.regionDown ((c - 192) / 4) && s.f (SYS.DOZE_STATE (8 + (c - 192) / 4)) != 2
        && !s.on SYS.PCLR_BUSY && s.f (WSC.CORESTAT_STATE (c - 192)) != 2
    | .k => !s.on (SYS.DBGCTL_HALTED 16) && s.f BRN.STAT_STATE != 3

/-- Does core `c` execute instructions? An engine thread does in RUN, and in WAIT when it waits for a response or a credit: it then tries the
instruction again. -/
def State.runs (s : State) (c : Nat) : Bool :=
  s.coreUp c && !(s.core c).wfe && (decide (192 ≤ c) || s.thState c == 1 || s.thState c == 2)

/-- A thread that tries its instruction is in RUN (Table 5.1). -/
def State.resume (s : State) (c : Nat) : State := if decide (c < 192) && s.thState c == 2 then s.setTh c 1 else s

/-- A thread that waits under R146 is in WAIT (Table 5.1). -/
def State.park (s : State) (c : Nat) : State := if decide (c < 192) && s.thState c == 1 then s.setTh c 2 else s

/-- Does core `c` wait in WFE? -/
def State.waits (s : State) (c : Nat) : Bool :=
  s.coreUp c && (s.core c).wfe && (decide (192 ≤ c) || s.thState c == 2)

/-- Lowest set bit of the low `n` bits. -/
def lowestBit (n x : Nat) : Option Nat := (List.range n).find? (fun i => bitOf x i)

/-- Bits of the slots of thread `th` that are bound to Interrupt (EVSELs.INT). -/
def State.intSlots (s : State) (th : Nat) : Nat :=
  (List.range 16).foldl (fun m i => m + b2n (s.on (CC.EVSEL_INT (th / 24) (th / 8 % 3) (th % 8) i)) * 2 ^ i) 0

/-- Event slots of thread `th` that are pending and not masked (R155). -/
def State.evNow (s : State) (th : Nat) : Nat :=
  s.f (ofTh CC.EVPEND_PEND th) &&& (0xFFFF - s.f (ofTh CC.EVMASK_MASK th))

/-- Is a doorbell bit of identity `id` set and not masked? -/
def State.rings (s : State) (id : Nat) : Bool := s.f (MBX.DB_BELL id) &&& (0xFFFFFFFF - s.f (MBX.DBMASK_MASK id)) != 0

/-- Does a doorbell of core `n` ring: its own, or that of the identity its running item acts as (R101)? -/
def State.coreRings (s : State) (n : Nat) : Bool :=
  s.rings (0x30 + n) || (match s.topItem n with | some x => s.rings (s.actingFrom x.key (0x30 + n) 32) | none => false)

/-- Enabled sources of application core `n` that are pending (Table 14.4). -/
def State.aSources (s : State) (n : Nat) : Nat :=
  (b2n (s.on (WSC.CORESTAT_OFFER n))
    + 2 * b2n (s.coreRings n)
    + 4 * b2n (s.on (WSC.CORESTAT_MKP n))) &&& s.f (WSC.CORECFG_IEN n)

/-- Sources that end a WFE of core `c` (R155, R403, R454). -/
def State.wfeSources (s : State) (c : Nat) : Nat :=
  match prof c with
  | .e => s.evNow c
  | .a => s.aSources (c - 192)
  | .k => s.kevtNow &&& (0xFFFF - s.f FLT.KMASK_MASK)

/-- The interrupt source that core `c` would take now; the Keyblock's and an engine thread's and a core's WFE use the same
sources, but for an engine thread only slots with INT = 1 raise Interrupt (R155). -/
def State.intNow (s : State) (c : Nat) : Option Nat :=
  if (s.core c).ie then
    match prof c with
    | .e => lowestBit 16 (s.evNow c &&& s.intSlots c)
    | _ => lowestBit 16 (s.wfeSources c)
  else none

/-- Is an asynchronous exception due at the next instruction boundary (R131)? None between a REP and its first iteration
(R130). -/
def State.asyncDue (s : State) (c : Nat) : Bool :=
  !(s.core c).repFresh && (!(s.core c).imp.isEmpty || (s.intNow c).isSome)

/-! ## Memory as a core sees it -/

/-- Physical place of an address of the local RAM alias (Table 4.11). -/
def State.localPlace (s : State) (c a : Nat) : Nat :=
  match prof c with
  | .e => 0x20000000 + c / 8 * 0x40000 + a
  | .a => 0x100000000 + (c - 192) * 0x20000 + a
  | .k => if a < 0x18000 then 0x101000000 + (a - 0x10000)
          else 0x101000000 + (s.core c).kwin.toNat % 8 * 0x8000 + (a - 0x18000)

/-- Does `len` bytes at offset `o` of a 64 KiB engine RAM lie in a partition (R149; BASE + SIZE above 64 acts as SIZE 0)? -/
def inPart (base size o len : Nat) : Bool :=
  decide (base + size ≤ 64) && decide (base * 1024 ≤ o) && decide (o + len ≤ (base + size) * 1024)

/-- Code of a local RAM alias access: 0, or the detail of its Bus Error (Table 4.11, R149); DOMAIN_OFF while the engine's RAMs are cleared
(R151). -/
def State.localCode (s : State) (c a len : Nat) (store : Bool) : Nat :=
  match prof c with
  | .e =>
    if s.on (ofCe CC.ENGSTAT_CLEARING (c / 8)) then 3
    else if a < 0x10000 then
      if store then 2
      else if inPart (s.f (ofTh CC.THIMEM_BASE c)) (s.f (ofTh CC.THIMEM_SIZE c)) a len then 0 else 2
    else if inPart (s.f (ofTh CC.THDMEM_BASE c)) (s.f (ofTh CC.THDMEM_SIZE c)) (a - 0x10000) len then 0 else 2
  | .a => if a < 0x10000 ∧ store ∧ (s.core c).user then 2 else 0
  | .k => if a < 0x8000 then (if store then 2 else 0) else if a < 0x10000 then 1 else 0

/-- MPU check of an application core's access (R412): `kind` 0 read, 1 write, 2 execute. -/
def mpuAllows (x : Core) (kind a : Nat) (n : Nat) : Bool :=
  match n with
  | 0 => !x.user
  | k + 1 =>
    let r (i : Nat) : Nat := (tabGet x.mpu 0 (4 * k + i)).toNat
    if bitOf (r 0) 0 && decide (r 0 / 64 ≤ a / 64) && decide (a / 64 ≤ r 1 / 64) then
      if x.user then bitOf (r 2) kind
      else if bitOf (r 2) 6 then bitOf (r 2) (3 + kind)
      else true
    else mpuAllows x kind a k

/-- R412 for core `c`; the E and K profiles have no MPU. -/
def State.mpuOk (s : State) (c kind a : Nat) : Bool :=
  match prof c with
  | .a => mpuAllows (s.core c) kind a 8
  | _ => true

/-- Counts the ECC errors of `k` words of an engine RAM that thread `c` reaches at `a`, by the local alias or its engine's window (R150): field DCE or
ICE, DUE or IUE. -/
def State.countEcc (s : State) (c a : Nat) (bad : Bool) (k : Nat := 1) : State :=
  match prof c with
  | .e =>
    let n := c / 8
    let code := decide ((if a < 0x20000000 then a else (a - 0x20000000) % 0x40000) < 0x10000)
    if bad then
      let s := s.bump (if code then ofCe CC.ENGERR_IUE n else ofCe CC.ENGERR_DUE n) k
      s.fault { unit := n, code := 6, cls := 2, addr := a, ident := 0x10 + n, key := some (s.f (ofTh CC.THKEY_KEY c)) }
    else s.bump (if code then ofCe CC.ENGERR_ICE n else ofCe CC.ENGERR_DCE n) k
  | _ => s

/-- What a load gives: a value, or the Bus Error detail, or an MPU refusal, or it has to wait. -/
inductive LdOut where
  | val (v : Nat) (s : State)
  | bus (code : Nat) (s : State)
  | mpu
  | wait
deriving DecidableEq, Repr

/-- The unit index of core `c` (Table 17.3). -/
def coreUnit (c : Nat) : Nat := match prof c with | .e => c / 8 | .a => 0x20 + (c - 192) | .k => 0xB3

/-- The queue of Table 1.11 between core `c` and the fabric. -/
def coreQueue (c : Nat) : Nat := match prof c with | .e => c / 8 | .a => 0x20 + (c - 192) | .k => 0xA3

/-- Does an engine thread reach `a` on its cluster's direct path, the Burin block (R183)? -/
def direct (c a : Nat) : Bool := decide (c < 192) && decide (0x40208000 + c / 24 * 0x10000 ≤ a) && decide (a < 0x40210000 + c / 24 * 0x10000)

/-- The queues behind that of core `c` on the way to `a`. -/
def pathBehind (c a : Nat) : List (Nat × Nat) :=
  let id := match prof c with | .e => 0x10 + c / 8 | .a => 0x30 + (c - 192) | .k => 8
  (reqQueues (coreUnit c) id a).filter (fun q => q.1 != coreQueue c)

/-- Are there credits behind the queue of core `c` on the way to `a` (R34)? -/
def State.wayFree (s : State) (c a len : Nat) (write : Bool) : Bool :=
  direct c a || (s.mayPass (pathBehind c a) len write && s.banksOpen (s.coreRq c) a len write)

/-- Does the cluster port refuse new requests of core `c` (R15)? Those of an engine that has failed. -/
def State.portShut (s : State) (c : Nat) : Bool :=
  match prof c with
  | .e => s.on (ofCe CC.ENGSTAT_EFAIL (c / 8))
  | _ => false

/-- Does a posted store touch one of `len` bytes at `a`? -/
def Posted.touches (p : Posted) (a len : Nat) : Bool := decide (p.addr < a + len) && decide (a < p.addr + p.data.length)

/-- An uncorrectable ECC error that a thread's load met in an engine window writes the record of its engine (R171). -/
def State.noteEcc (s : State) (c a code : Nat) : State :=
  if code = 4 ∧ c < 192 ∧ 0x20000000 ≤ a ∧ a < 0x20600000 then
    s.fault { unit := c / 8, code := 6, cls := 2, addr := a, ident := 0x10 + c / 8, key := some (s.f (ofTh CC.THKEY_KEY c)) }
  else s

/-- A load of `len` bytes through the fabric or the direct path: its response. -/
def State.loadBus (s : State) (c a len : Nat) : LdOut :=
  let r := s.busRead (s.coreRq c) a len
  if r.1 = 0 then .val (leNat r.2.1) r.2.2 else .bus r.1 (r.2.2.noteEcc c a r.1)

/-- A load of `len` bytes (R15, R124–R126, R149, R150): it waits for an earlier posted store to the same bytes (R125), and until its queue has a
Request credit and space for the response, and those behind it credits (R33, R34). -/
def State.load (s : State) (c a len : Nat) : LdOut :=
  if !s.mpuOk c 0 a then .mpu
  else if a < 0x20000 then
    let code := s.localCode c a len false
    if code ≠ 0 then .bus code s
    else if prof c = .k ∧ a < 0x8000 then .val (leNat ((List.range len).map (fun i => Config.romByte (a + i)))) s
    else
      let p := s.localPlace c a
      if s.eccIn p len 2 then .bus 4 (s.countEcc c a true (s.eccNum p len 2))
      else
        let s' := if s.eccIn p len 1 then (s.countEcc c a false (s.eccNum p len 1)).eccDrop p len 1 else s
        .val (leNat (s.bytes p len)) s'
  else if s.portShut c then .bus 2 s
  else if (s.core c).posted.any (fun p => p.touches a len) then .wait
  else if direct c a then s.loadBus c a len
  else if s.mayIssue (coreQueue c) 0 len false && s.wayFree c a len false then
    ((s.lendQ (coreQueue c) 0 len false).carryOver (pathBehind c a) len false).loadBus c a len
  else .wait

/-- What a store does: done (or posted), Bus Error detail, MPU refusal, waits for a response to a posted store, or for a credit. -/
inductive StOut where
  | done (s : State)
  | bus (code : Nat)
  | mpu
  | wait
  | stall
deriving DecidableEq, Repr

/-- Is this store a fenced output of an engine thread (Table 5.6)? -/
def State.fenced (s : State) (a v : Nat) : Bool :=
  let b := a / 0x10000
  let o := a % 0x10000
  if b = 0x4001 then
    bitOf v 0 && ((0x8000 ≤ o && o < 0x8800 && o % 0x20 == 4) || (0xC000 ≤ o && o % 0x100 == 0x80))
  else if b = 0x4002 then
    0x2000 ≤ o && o < 0x3000 && o % 0x400 < 0x200 && o % 0x20 == 0xC
      && !s.on ⟨0x40020000 + o - 0xC, 1, 1⟩
  else if b = 0x4006 then o == 0x10
  else if 0x4030 ≤ b ∧ b < 0x4034 then 0x1000 ≤ o && o < 0x1400 && o % 0x40 == 4 && bitOf v 0
  else false

/-- The COS steps before a fenced output is sent (R156); other requests carry the current COS. -/
def State.stepCos (s : State) (c a v : Nat) : State :=
  if c < 192 then
    if s.fenced a v then s.setF (ofTh CC.THCOS_COS c) ((s.f (ofTh CC.THCOS_COS c) + 1) % 2 ^ 32) else s
  else s.stepItemCos c a v

/-- A store leaves the core with what hardware attaches to it, and is outstanding from then on. -/
def State.post (s : State) (c a v len : Nat) : State :=
  let t := s.stepCos c a v
  let x := t.core c
  t.setCore c { x with posted := x.posted ++ [⟨a, leBytes len v, t.coreRq c⟩] }

/-- A store of `len` bytes (R124, R149): precise in the local RAM alias, posted elsewhere, at most 4 without a response. One that the
cluster port refuses (R15) is answered with PERM, an imprecise Bus Error. It takes a Request credit, which CREDIT_RETURN gives back, and the space
for its response (R33). -/
def State.store (s : State) (c a v len : Nat) : StOut :=
  if !s.mpuOk c 1 a then .mpu
  else if a < 0x20000 then
    let code := s.localCode c a len true
    if code ≠ 0 then .bus code else .done (s.putMem (s.localPlace c a) (leBytes len v))
  else if (s.core c).posted.length ≥ 4 then .wait
  else if s.portShut c then
    let t := s.stepCos c a v
    let x := t.core c
    .done (t.setCore c { x with imp := x.imp ++ [(a, 2)] })
  else if direct c a then .done (s.post c a v len)
  else
    match s.reserve (coreQueue c) with
    | none => .stall
    | some t => .done (t.post c a v len)

/-- Posted store `i` reaches its target and is answered: a code other than OK is an imprecise Bus Error (R124). The response frees its space. -/
def State.answerStore (s : State) (c i : Nat) : State :=
  let x := s.core c
  match x.posted[i]? with
  | none => s
  | some p =>
    let s := s.setCore c { x with posted := listDel x.posted i }
    let s := if direct c p.addr then s else (s.giveBack (coreQueue c) 1 1 1).carryOver (pathBehind c p.addr) p.data.length true
    let r := s.busWrite p.rq p.addr p.data
    let y := r.2.core c
    if r.1 = 0 then r.2 else r.2.setCore c { y with imp := y.imp ++ [(p.addr, r.1)] }

/-- Answers the oldest posted stores, up to the last that touches `len` bytes at `a`: accesses to one address take effect in order (R125). -/
def State.orderedAt (s : State) (c a len : Nat) : State :=
  let l := (s.core c).posted
  match (List.range l.length).reverse.find? (fun i => l[i]?.any (fun p => p.touches a len)) with
  | none => s
  | some i => (List.range (i + 1)).foldl (fun (s : State) _ => s.answerStore c 0) s

/-- Answers every posted store. -/
def State.drain (s : State) (c : Nat) : State := (List.range (s.core c).posted.length).foldl (fun (s : State) _ => s.answerStore c 0) s

/-! ## Fetch -/

/-- Offset in the instruction RAM of a fetch by an engine thread: through the local RAM alias, or through the window of its engine (R148). -/
def fetchOff (c a : Nat) : Nat := if a < 0x10000 then a else a - (0x20000000 + c / 8 * 0x40000)

/-- Instruction Access detail of a fetch at `a`; none when the fetch is good (R126, R148–R151). -/
def State.fetchBad (s : State) (c a : Nat) : Option Nat :=
  let exec : Bool := match prof c with
    | .e => a < 0x10000 || (0x20000000 + c / 8 * 0x40000 ≤ a && a < 0x20010000 + c / 8 * 0x40000)
    | .a => a < 0x10000 || (0x21000000 + (c - 192) / 4 * 0x400000 ≤ a && a < 0x21100000 + (c - 192) / 4 * 0x400000)
    | .k => a < 0x8000 || (0x10000 ≤ a && a < 0x18000)
  let hole : Bool := prof c == .k && decide (0x8000 ≤ a) && decide (a < 0x10000)
  if !exec then some (if mapped a && !hole then 2 else 1)
  else if prof c = .e ∧ s.on (ofCe CC.ENGSTAT_CLEARING (c / 8)) then some 3
  else if prof c = .e ∧ !inPart (s.f (ofTh CC.THIMEM_BASE c)) (s.f (ofTh CC.THIMEM_SIZE c)) (fetchOff c a) 4 then some 2
  else if prof c = .k ∧ a < 0x8000 then none
  else if s.eccIn (if a < 0x20000 then s.localPlace c a else a) 4 2 then some 4
  else none

/-- Does a fetch at `a` meet a correctable ECC error (R150)? -/
def State.fetchFixes (s : State) (c a : Nat) : Bool :=
  !(prof c == .k && decide (a < 0x8000)) && s.eccIn (if a < 0x20000 then s.localPlace c a else a) 4 1

/-- The state after a fetch: a correctable ECC error is corrected in the RAM and counted (R150). -/
def State.fetchFix (s : State) (c a : Nat) : State :=
  if s.fetchFixes c a then (s.countEcc c a false).eccDrop (if a < 0x20000 then s.localPlace c a else a) 4 1 else s

/-- The instruction word at `a`. -/
def State.fetchWord (s : State) (c a : Nat) : Nat :=
  if prof c = .k ∧ a < 0x8000 then leNat ((List.range 4).map (fun i => Config.romByte (a + i)))
  else s.memWord (if a < 0x20000 then s.localPlace c a else a)

/-- Does the word at `a` spell an instruction (R110)? The ROM's content is open: what it holds is what the command says. -/
def State.wordListed (s : State) (c a : Nat) : Bool := (prof c == .k && decide (a < 0x8000)) || isaListed (s.fetchWord c a)

/-! ## Exceptions -/

/-- Offsets of the vectors: cause × 16 (Table 12 of chapter 4). -/
def vector (x : Core) (c cause : Nat) : Nat := w32 ((if prof c = .k then 0 else x.evb.toNat) + cause * 0x10)

/-- One push during exception entry; none when it is not performed (R134). A misaligned stack pointer, too. Without credits it waits for the answers
of the core's posted stores (R33). -/
def State.entryPush (s : State) (c v : Nat) : Option State :=
  let a := sub32 (s.sp c) 4
  if a % 4 ≠ 0 ∨ !s.mpuOk c 1 a then none
  else if a < 0x20000 then
    if s.localCode c a 4 true ≠ 0 then none
    else some ((s.putMem (s.localPlace c a) (leBytes 4 v)).setG c 15 a)
  else
    let s := s.orderedAt c a 4
    let s := (if s.mayIssue (coreQueue c) 0 4 true then s else s.drain c).carryOver ((coreQueue c, 0) :: pathBehind c a) 4 true
    let r := s.busWrite (s.coreRq c) a (leBytes 4 v)
    if r.1 = 0 then some (r.2.setG c 15 a) else none

/-- A Double Fault (R134): the thread or core stops, and its failure is handled by profile. -/
def State.doubleFault (s : State) (c cause : Nat) : State :=
  match prof c with
  | .e => s.failThread c 1 cause
  | .a => (s.setCore c { s.core c with dead := true }).failCore (c - 192) 1 cause
  | .k => (s.setCore c { s.core c with dead := true }).failKeyblock 3 cause

/-- Exception entry (R132). -/
def State.enter (s : State) (c cause detail eaddr ret : Nat) (imp : Bool) : State :=
  let x := s.core c
  let sp := s.sp c
  if x.sl ≠ 0 ∧ sub32 sp 12 < sub32 x.sl.toNat 16 then s.doubleFault c cause
  else
    match s.entryPush c ret with
    | none => s.doubleFault c cause
    | some s1 =>
      match s1.entryPush c x.ectl.toNat with
      | none => s1.doubleFault c cause
      | some s2 =>
        match s2.entryPush c x.rc.toNat with
        | none => s2.doubleFault c cause
        | some s3 =>
          let y := s3.core c
          let e := y.ectl.toNat
          let e := setBits (setBits (setBits e 0 1 0) 1 1 0) 5 1 0
          let e := if prof c = .k then setBits e 2 1 1 else e
          s3.setCore c { y with
            estat := BitVec.ofNat 32 (cause + b2n imp * 0x100 + detail * 0x10000)
            eaddr := BitVec.ofNat 32 eaddr
            ectl := BitVec.ofNat 32 e
            rc := 0
            repFresh := false
            pc := BitVec.ofNat 32 (vector y c cause) }

/-- Moves the PC. -/
def State.setPc (s : State) (c pc : Nat) : State := s.setCore c { s.core c with pc := BitVec.ofNat 32 pc }

/-- An instruction has completed: a repeat counts down (R128), otherwise the PC advances. -/
def State.advance (s : State) (c : Nat) (pc : Nat) : State :=
  let x := s.core c
  if x.repa then
    let n := x.rc.toNat - 1
    let y := { x with rc := BitVec.ofNat 32 n, repFresh := false }
    if n = 0 then (s.setCore c (y.setEctl 5 false)).setPc c (pc + 4) else s.setCore c y
  else s.setPc c (pc + 4)

/-- Takes the oldest imprecise Bus Error as FENCE and CKPT do (R124): return address the word itself. -/
def State.takeImp (s : State) (c ret : Nat) : State :=
  let x := s.core c
  match x.imp with
  | [] => s
  | (a, code) :: t => (s.setCore c { x with imp := t }).enter c 0xA code a ret true

/-- Does the body end in an exception that precedes an MPU refusal of the fetch (Table 12 of chapter 4: priority is the cause below 9; R131)? -/
def IRes.first (r : IRes) : Bool := match r with | .exc _ cause _ _ _ => decide (cause < 9) | _ => false

/-- The end of an instruction at `pc` (R131–R133, R146). -/
def finish (c pc : Nat) (r : IRes) : Out :=
  match r with
  | .ok t => .next (t.advance c pc)
  | .jump t p => .next (t.setPc c p)
  | .exc t cause detail ea after => .next (t.enter c cause detail ea (if after then w32 (pc + 4) else pc) false)
  | .imp t => .next (t.takeImp c pc)
  | .wait t => .next t
  | .stall t => .next (t.park c)

/-- Issues an instruction: nothing when the core does not run or an asynchronous exception is due (R131); the fetch check, the word, the body; of the
synchronous exceptions that apply the one of the lowest priority number. -/
def issue (c : Nat) (body : State → IRes) (s : State) : Out :=
  if !s.runs c || s.asyncDue c then .next s
  else
    let s := s.resume c
    let pc := (s.core c).pc.toNat
    match s.fetchBad c pc with
    | some d => .next ((if d = 4 then s.countEcc c pc true else s).enter c 1 d pc pc false)
    | none =>
      let t := s.fetchFix c pc
      if !t.wordListed c pc then .next (t.enter c 2 0 0 pc false)
      else if !s.mpuOk c 2 pc && !(body t).first then .next (t.enter c 9 0 pc pc false)
      else finish c pc (body t)

/-- Illegal Instruction. -/
def illegal (s : State) : IRes := .exc s 2 0 0 false

/-- An instruction that privileged code alone may issue (R107, R109). -/
def privileged (c : Nat) (k : State → IRes) (s : State) : IRes :=
  if (s.core c).user then .exc s 4 0 0 false else k s

end Sys2Proof.Machine
end

