-- ==== Sys2Proof/Machine/Ckpt.lean ====
section
/-! DEFINITION. Checkpoints and restore (R159–R166): the checkpoint half of Table 5.7, CKPT, the checkpoint unit of an engine. -/
namespace Sys2Proof.Machine

/-! ## The slot -/

/-- Address of half `h` of the checkpoint slot of thread `th` (R160). -/
def State.halfAt (s : State) (th h : Nat) : Nat := 1024 * s.f (ofTh CC.THCK_SLOT th) + h * 0x1200

/-- Is a window of `n` units of 64 bytes at alias address `a` at most 4,096 bytes and wholly inside the data partition (R159, R165)? -/
def State.windowOk (s : State) (th a n : Nat) : Bool :=
  decide (n ≤ 64) && (n == 0 || (decide (0x10000 ≤ a)
    && inPart (s.f (ofTh CC.THDMEM_BASE th)) (s.f (ofTh CC.THDMEM_SIZE th)) (a - 0x10000) (64 * n)))

/-- Window base of CC.CKWIN as an alias address. -/
def State.ckBase (s : State) (th : Nat) : Nat := 64 * s.f (ofTh CC.CKWIN_BASE th)

/-- Little-endian bytes of words. -/
def bytesOfWords (l : List Nat) : List Byte := l.flatMap (leBytes 4)

/-- Word at an offset of a half. -/
def halfWord (b : List Byte) (o : Nat) : Nat := leNat (sub b o 4)

/-- The CRC of Table 5.7 over a half with a window of `n` units. -/
def halfCrc (b : List Byte) (n : Nat) : Nat := crc32 (b.take 0x3C ++ sub b 0x40 (0xC0 + 64 * n))

/-- Reads half `h` and checks it in the order of R165: 0 and its bytes, or the reason of Table 5.19. -/
def State.readHalf (s : State) (th h : Nat) : Nat × List Byte × State :=
  let r := if s.portShut th then (2, [], s) else s.busRead (s.coreRq th) (s.halfAt th h) 0x1100
  let b := r.2.1
  let n := halfWord b 4 / 256 % 128
  if r.1 ≠ 0 then (1, b, r.2.2)
  else if 64 < n ∨ halfWord b 0x3C ≠ halfCrc b n then (3, b, r.2.2)
  else if halfWord b 4 % 256 ≠ s.f (ofTh CC.THKEY_KEY th) then (4, b, r.2.2)
  else if halfWord b 0xC ≠ s.f (ofTh CC.THIMG_IMGID th) then (5, b, r.2.2)
  else if !s.windowOk th (halfWord b 8) n then (2, b, r.2.2)
  else (0, b, r.2.2)

/-- The latest valid half (R165): half, bytes; else none with the reason of the last half checked. -/
def State.latestHalf (s : State) (th : Nat) : Option (Nat × List Byte) × Nat × State :=
  let p := s.readHalf th 0
  let q := p.2.2.readHalf th 1
  let t := q.2.2
  if p.1 = 0 ∧ q.1 = 0 then
    let d := sub32 (halfWord q.2.1 0) (halfWord p.2.1 0)
    (if d ≠ 0 ∧ d < 2 ^ 31 then some (1, q.2.1) else some (0, p.2.1), 0, t)
  else if p.1 = 0 then (some (0, p.2.1), 0, t)
  else if q.1 = 0 then (some (1, q.2.1), 0, t)
  else (none, q.1, t)

/-! ## CKPT -/

/-- An operation that failed: ERR and its reason (R163). -/
def State.ckErr (s : State) (th code : Nat) : State := s.setFs [(ofTh CC.CKSTAT_ERR th, 1), (ofTh CC.CKSTAT_ERRCODE th, code)]

/-- The thread leaves CKPT for a precise Bus Error with the CKPT word as return address (R163). -/
def State.ckRaise (s : State) (th reason detail eaddr : Nat) : State :=
  let s := ((s.dropCk th).ckErr th reason).setTh th 1
  let pc := (s.core th).pc.toNat
  s.enter th 0xA detail eaddr pc false

/-- The FENCE of a CKPT has found an imprecise Bus Error (R163): no ERRCODE is listed for it. -/
def State.ckImp (s : State) (th : Nat) : State :=
  let r := s.free
  let s := ((r.2.dropCk th).ckErr th (r.1.toNat % 16)).setTh th 1
  let x := s.core th
  match x.imp with
  | [] => s
  | (a, code) :: t => (s.setCore th { x with imp := t }).enter th 0xA code a x.pc.toNat true

/-- Checkpoint traffic of thread `th` passes the cluster port and the region fabric in the Bulk class (R162). -/
def State.lendBulk (s : State) (th n : Nat) : State := s.carryOver [(0x18 + th / 24, 0), (0x38 + th / 48, 0)] n true true

/-- Have these queues credits for a write of `n` bytes (R33, R34)? -/
def State.ckFree (s : State) (th n : Nat) : Bool := s.mayPass [(0x18 + th / 24, 0), (0x38 + th / 48, 0)] n true true

/-- Writes the body from offset 0x40 on in writes of 32 bytes; the first code other than OK and its address. -/
def State.ckBody (s : State) (rq : Rq) (th a : Nat) (b : List Byte) (n : Nat) : Nat × Nat × State :=
  (List.range n).foldl (fun r i =>
    let q := (r.2.2.lendBulk th 32).busWrite rq (a + 32 * i) (sub b (32 * i) 32) true
    if r.1 = 0 then (q.1, a + 32 * i, q.2) else (r.1, r.2.1, q.2)) (0, 0, s)

/-- Captures thread `o.th` and writes the body of its half (Table 5.8, steps 2–5). -/
def State.ckCapture (s : State) (o : CkOp) : State :=
  let th := o.th
  let n := s.f (ofTh CC.CKWIN_LEN th)
  let base := s.ckBase th
  let wa := s.localPlace th base
  let x := s.core th
  let ns := s.nowNs
  let sec := s.nowSec
  let ev := s.f (ofTh CC.EVPEND_PEND th)
  let l := s.latestHalf th
  let s := l.2.2
  let half := match l.1 with | some (h, _) => 1 - h | none => 0
  let seq := match l.1 with | some (_, b) => (halfWord b 0 + 1) % 2 ^ 32 | none => 1
  let s := if s.eccIn wa (64 * n) 1 then (s.countEcc th base false (s.eccNum wa (64 * n) 1)).eccDrop wa (64 * n) 1 else s
  if s.on (ofCe CC.ENGSTAT_CLEARING (th / 8)) && n != 0 then (s.free.2).ckRaise th (s.free.1.toNat % 16) 3 base
  else if s.eccIn wa (64 * n) 2 then (s.countEcc th base true (s.eccNum wa (64 * n) 2)).ckRaise th 6 4 base
  else
    let win := s.bytes wa (64 * n)
    let regs := (List.range 15).map (fun i => (tabGet x.g 0 (i + 1)).toNat)
    let body := bytesOfWords ([x.pc.toNat + 4] ++ regs
        ++ [x.rc.toNat, x.sl.toNat, x.ectl.toNat, x.evb.toNat, x.cpcfg.toNat]
        ++ (List.range 4).map (fun i => (tabGet x.cpoly 0x04C11DB7 i).toNat)
        ++ [s.f (ofTh CC.EVMASK_MASK th), 0, 0]
        ++ (List.range 16).map (fun i => s.rd (CC.EVSEL (th / 24) (th / 8 % 3) (th % 8) i)) ++ [0, 0, 0, 0]) ++ win
    let head := bytesOfWords [seq, s.f (ofTh CC.THKEY_KEY th) + n * 256, base, s.f (ofTh CC.THIMG_IMGID th),
        s.f (ofTh CC.THCOS_COS th), o.tag, ns, sec % 2 ^ 32] ++ List.replicate 28 0
    let hdr := head ++ leBytes 4 (crc32 (head ++ body))
    let at0 := s.halfAt th half + 0x40
    let r := if s.portShut th then (2, at0, s) else s.ckBody (s.coreRq th) th at0 body (6 + 2 * n)
    let s := r.2.2
    if r.1 ≠ 0 then s.ckRaise th 1 r.1 r.2.1
    else
      let q := { o with cap := true, half := half, hdr := hdr, seen := ev }
      s.setCkOps (th / 8) ((s.ckOps (th / 8)).map (fun y => if y.th = th then q else y))

/-- What the checkpoint unit of engine `n` can do now: the FENCE of a waiting CKPT that found an error, the capture of a CKPT at the head
of the queue whose FENCE is done, once there are credits for it; `k` bounds the errors taken. -/
def State.ckAdvance (s : State) (n k : Nat) : State :=
  match k with
  | 0 => s
  | k + 1 =>
    match (s.ckOps n).find? (fun o => !o.restore && !o.cap && (s.core o.th).posted.isEmpty && !(s.core o.th).imp.isEmpty) with
    | some o => (s.ckImp o.th).ckAdvance n k
    | none =>
      match s.ckOps n with
      | o :: _ =>
        if !o.restore && !o.cap && (s.core o.th).posted.isEmpty && s.ckFree o.th 64 then (s.ckCapture o).ckAdvance n k else s
      | [] => s

/-- CKPT (R159–R162). -/
def execCkpt (c : CoreIx) (f : FmtX) (s : State) : Out :=
  issue c (fun s =>
    let th := c.val
    if prof c ≠ .e ∨ f.rd ≠ 0 ∨ f.imm ≠ 0 then illegal s
    else
      let ok := s.windowOk th (s.ckBase th) (s.f (ofTh CC.CKWIN_LEN th))
      if !s.on (ofTh CC.THCK_V th) ∨ !ok then
        let r := s.free
        .exc (r.2.ckErr th (if ok then 0 else 2)) 0xA 2 r.1.toNat false
      else
        let s := s.setCkOps (th / 8) (s.ckOps (th / 8) ++ [⟨th, false, false, 0, s.gr th f.ra, 0, [], 0, s.ticks⟩])
        .wait (((s.setF (ofTh CC.CKSTAT_BUSY th) 1).setTh th 3).ckAdvance (th / 8) 9)) s

/-- CHECKPOINT_COMPLETE (R161, R163, R164): the header is written, once there are credits for it; with OK the checkpoint is complete. -/
def execCheckpointComplete (n : Fin 24) (s : State) : Out :=
  let s := s.ckAdvance n 9
  match s.ckOps n with
  | [] => .next s
  | o :: _ =>
    if !o.cap ∨ !s.ckFree o.th 64 then .next s
    else
      let th := o.th
      let a := s.halfAt th o.half
      let r := (s.lendBulk th 64).busWrite (s.coreRq th) a o.hdr true
      let s := r.2
      if r.1 ≠ 0 then .next ((s.ckRaise th 1 r.1 a).ckAdvance n 9)
      else
        let key := s.f (ofTh CC.THKEY_KEY th)
        let s := (s.dropCk th).setFs [(ofTh CC.CKSTAT_HALF th, o.half), (ofTh CC.CKSTAT_VALID th, 1), (ofTh CC.EVSEEN_SEEN th, o.seen)]
        let s := ((s.bump (ofTh CC.CKSTAT_CKCNT th)).mbxCheckpoint key).swCheckpoint key
        let s := (s.fireFor (fun t => t == th) 0xA0).reloadWd th
        let s := s.sample 8 n (2 * (s.ticks - o.at_))
        let s := (s.setTh th 1).setPc th ((s.core th).pc.toNat + 4)
        .next (s.ckAdvance n 9)

/-! ## RESTORE -/

/-- Loads a valid half into thread `th` (R166); reserved and RO fields keep reading as their registers give them (R10, R107). -/
def State.loadHalf (s : State) (th pend : Nat) (half : Nat) (b : List Byte) : State :=
  let w (o : Nat) : Word := BitVec.ofNat 32 (halfWord b o)
  let x := s.core th
  let y : Core := { x with
    g := (List.range 15).map (fun i => (i + 1, w (0x44 + 4 * i)))
    pc := w 0x40 &&& 0xFFFFFFFC, rc := w 0x80, sl := w 0x84 &&& 0xFFFFFFFC, ectl := w 0x88 &&& 0x39, evb := w 0x8C &&& 0xFFFFFF00
    cpcfg := w 0x90 &&& 0xFFFFFF
    cpoly := (List.range 4).map (fun i => (i, w (0x94 + 4 * i)))
    estat := 0, eaddr := 0, imp := [], repFresh := false, wfe := false }
  let n := halfWord b 4 / 256 % 128
  let s := (s.setCore th y).putMem (s.localPlace th (halfWord b 8)) (sub b 0x100 (64 * n))
  let s := s.setFs [(ofTh CC.EVMASK_MASK th, halfWord b 0xA4), (ofTh CC.THCOS_COS th, halfWord b 0x10), (ofTh CC.EVMRG_MERGED th, 0),
    (ofTh CC.EVPEND_PEND th, pend), (ofTh CC.EVSEEN_SEEN th, pend), (ofTh CC.CKSTAT_HALF th, half)]
  let s := (List.range 16).foldl (fun s i => s.wrReg (CC.EVSEL (th / 24) (th / 8 % 3) (th % 8) i) (halfWord b (0xB0 + 4 * i))) s
  (s.reloadWd th).setTh th 1

/-- RESTORE_COMPLETE (R165, R166): the RESTORE at the head of the queue of engine `n`. While the engine clears its RAMs the window meets DOMAIN_OFF
(R151): the RESTORE fails as one without a valid half, its ERRCODE a free value, since Table 5.19 lists none (DESIGN CHOICE, log 83). -/
def execRestoreComplete (n : Fin 24) (s : State) : Out :=
  match s.ckOps n with
  | [] => .next s
  | o :: _ =>
    if !o.restore then .next s
    else
      let l := s.latestHalf o.th
      let s := l.2.2.dropCk o.th
      match l.1 with
      | some (h, b) =>
        if s.on (ofCe CC.ENGSTAT_CLEARING n) && decide (halfWord b 4 / 256 % 128 ≠ 0) then
          let f := s.free
          .next (((f.2.ckErr o.th (f.1.toNat % 16)).failThread o.th 5 (f.1.toNat % 16)).ckAdvance n 9)
        else .next ((s.loadHalf o.th o.pend h b).ckAdvance n 9)
      | none => .next (((s.ckErr o.th l.2.1).failThread o.th 5 l.2.1).ckAdvance n 9)

end Sys2Proof.Machine
end

