-- ==== Sys2Proof/Machine/Discovery.lean ====
section
/-! DEFINITION. LLDP discovery by Keyblock firmware (R523–R525): what it sends, the topology table, expected Seals, duplicate node IDs. -/
namespace Sys2Proof.Machine

/-! ## LLDPDUs -/

/-- A TLV of IEEE 802.1AB. -/
def tlvBytes (type : Nat) (v : List Byte) : List Byte := beBytes 2 (type * 512 + v.length) ++ v

/-- The name "Pn" of a port. -/
def portName (p : Nat) : List Byte := 0x50 :: (if p < 10 then [BitVec.ofNat 8 (0x30 + p)] else [0x31, BitVec.ofNat 8 (0x30 + p - 10)])

/-- Bytes 16–25 of the Zengeiq TLV (Table 19.8). -/
def State.tlvState (s : State) : List Byte :=
  let st := s.f FLT.STAT_STATE
  let flags := s.f OBS.ACTSTAT_ARMED + 2 * b2n (st == 2) + 4 * b2n (st == 3) + 8 * b2n s.draftOwner.isSome
  let tt (n : Nat) : List Byte := beBytes 2 (b2n (s.ttRuns n) * 0x8000 + s.f (RUL.NODE_NODEID n))
  BitVec.ofNat 8 flags :: 0 :: (tt 0 ++ tt 1 ++ tt 2 ++ tt 3)

/-- The LLDPDU of port `p` (R523). -/
def State.lldpdu (s : State) (p : Nat) : List Byte :=
  tlvBytes 1 (4 :: beBytes 6 Config.baseMac.toNat) ++ tlvBytes 2 (7 :: portName p) ++ tlvBytes 3 [0, 20]
    ++ tlvBytes 127 (beBytes 3 Config.oui.toNat ++ [1] ++ beBytes 8 s.sealNow ++ beBytes 4 (s.f OBS.RUNEPOCH_E) ++ s.tlvState)
    ++ [0, 0]

/-- The TLVs of an LLDPDU as (type, value), up to End or a TLV that is cut short. -/
def tlvs (b : List Byte) (fuel : Nat) : List (Nat × List Byte) :=
  match fuel with
  | 0 => []
  | k + 1 =>
    let h := beNat (b.take 2)
    let n := h % 512
    if b.length < 2 ∨ h / 512 = 0 ∨ b.length < 2 + n then [] else (h / 512, (b.drop 2).take n) :: tlvs (b.drop (2 + n)) k

/-- Seal, epoch and bytes 16–25 of a Zengeiq TLV among `l`. -/
def zengeiqTlv (l : List (Nat × List Byte)) : Option (Nat × Nat × Nat) :=
  match l.find? (fun e => e.1 == 127 && e.2.length == 26 && e.2.take 4 == beBytes 3 Config.oui.toNat ++ [1]) with
  | some e => some (beNat ((e.2.drop 4).take 8), beNat ((e.2.drop 12).take 4), beNat (e.2.drop 16))
  | none => none

/-! ## The topology table (R524) -/

/-- Index of a neighbour. -/
def neighIx (l : List Neigh) (src via : Nat) (addr : List Byte) : Option Nat :=
  l.findIdx? (fun e => e.src == src && e.via == via && e.addr == addr)

/-- A neighbour is found: it enters, or is renewed; was it entered or did its Seal, epoch or state change? -/
def State.neighSeen (s : State) (x : Neigh) : Bool × State :=
  match neighIx s.neigh x.src x.via x.addr with
  | some i =>
    let old := (s.neigh.getD i x)
    let moved := old.tlv.map (fun t => (t.1, t.2.1)) != x.tlv.map (fun t => (t.1, t.2.1))
    let s : State := { s with neigh := s.neigh.set i { x with since := old.since } }
    (old.tlv != x.tlv, if moved then s.postEvent 0x8E80 [i, 2] else s)
  | none =>
    if s.neigh.length < 512 then (true, ({ s with neigh := s.neigh ++ [x] }).postEvent 0x8E80 [s.neigh.length, 0])
    else (false, { s with neighLost := s.neighLost + 1 })

/-- A neighbour is removed. -/
def State.neighDrop (s : State) (i : Nat) : State := ({ s with neigh := s.neigh.eraseIdx i }).postEvent 0x8E80 [i, 1]

/-- The expected Seal and epoch of a partner (R525). -/
def State.expects (s : State) (addr : List Byte) : Option (Nat × Nat) :=
  (s.expected.find? (fun e => e.1 == addr)).map (fun e => e.2)

/-- Ports of the channels of instance `n` (Table 10.11). -/
def State.channelPorts (s : State) (n : Nat) : List Nat :=
  (if bitOf (s.f (RUL.CTL_CHEN n)) 0 then [s.f (RUL.PORTS_AOUT n), s.f (RUL.PORTS_ARET n)] else [])
    ++ (if bitOf (s.f (RUL.CTL_CHEN n)) 1 then [s.f (RUL.PORTS_BOUT n), s.f (RUL.PORTS_BRET n)] else [])

/-- Does the TLV show a running instance with this device's node ID on that instance, through port `p` of its channels? -/
def State.duplicateId (s : State) (p : Nat) (tt : Nat) : Bool :=
  (List.range 4).any (fun n =>
    let w := bitsOf tt (16 * (3 - n)) 16
    bitOf w 15 && w % 1024 == s.f (RUL.NODE_NODEID n) && (s.channelPorts n).contains p)

/-- An LLDPDU received on port `p` (R524, R525). -/
def State.lldpTake (s : State) (p : Nat) (du : List Byte) : State :=
  match tlvs du 256 with
  | (1, chassis) :: (2, _) :: (3, ttl) :: rest =>
    if beNat (ttl.take 2) = 0 then
      match neighIx s.neigh 0 p chassis with
      | some i => s.neighDrop i
      | none => s
    else
      let z := zengeiqTlv rest
      let now := s.ticks / 500000
      let r := s.neighSeen ⟨0, p, chassis, z, beNat (ttl.take 2), now, now⟩
      match z with
      | none => r.2
      | some t =>
        if !r.1 then r.2
        else
          let s := match r.2.expects chassis with
            | some e => if t.2.1 = e.2 ∧ t.1 ≠ e.1 then r.2.postEvent 0x8D81 [p, t.1, t.2.1] else r.2
            | none => r.2
          if s.duplicateId p t.2.2 then s.postEvent 0x8E81 [p] else s
  | _ => s

/-! ## Meanings -/

/-- LLDP_SEND (R523): Keyblock firmware sends through port K with DIRECT on a port that is UP. -/
def execLldpSend (p : Fin 16) (s : State) : Out :=
  if !s.kbUp || s.f (PORT.STAT_STATE p) != 3 then .next s
  else
    let b := [0x01, 0x80, 0xC2, 0, 0, 0x0E] ++ beBytes 6 Config.baseMac.toNat ++ [0x88, 0xCC] ++ s.lldpdu p
    let l := max b.length 60 + 4
    let fr : Frame :=
      { bytes := b, len := l, port := 21, at_ := s.now16, rxst := 0, tagIn := false, vid := 0, pcp := 0, colour := 0, stream := none
        txrec := List.replicate 8 0, launch := none, tref := 0, ct := false, bad := false, seg := 0, cells := (l + 255) / 256
        tagOut := false, pairTag := 0, pairSeq := 0, cut := false, epoch := s.stepNo, cols := [] }
    .next (s.pipeline fr (some (2 ^ p.val)) (some 0)).2

/-- LLDP_RECEIVE (R524, R525): Keyblock firmware reads an LLDPDU that port `p` received from a K receive ring. -/
def execLldpReceive (p : Fin 16) (du : List Byte) (s : State) : Out := .next (if s.kbUp then s.lldpTake p du else s)

/-- NEIGHBOUR_AGE_OUT (R524): the TTL of an LLDP entry has expired since it was last renewed. -/
def execNeighbourAgeOut (i : Fin 512) (s : State) : Out :=
  match s.neigh[i.val]? with
  | some e => .next (if s.kbUp && e.src == 0 && decide (e.seen + 1000 * e.ttl ≤ s.ticks / 500000) then s.neighDrop i else s)
  | none => .next s

/-- EPOCH_MISMATCH_TIMEOUT (R525): a partner's epoch differs from RUNEPOCH, more than 25 s after DONE and after the partner
entered the table. -/
def execEpochMismatchTimeout (i : Fin 512) (s : State) : Out :=
  match s.neigh[i.val]? with
  | some e =>
    match e.tlv, s.expects e.addr with
    | some t, some _ =>
      .next (if s.kbUp && decide (max s.doneAt e.since + 25000 < s.ticks / 500000) && t.2.1 != s.f OBS.RUNEPOCH_E then s.postEvent 0x8D81 [e.via, t.1, t.2.1] else s)
    | _, _ => .next s
  | none => .next s

end Sys2Proof.Machine
end

