-- ==== Sys2Proof/Machine/Doze.lean ====
section
/-! DEFINITION. Doze of the clusters (R481–R484): idle condition, wake sources, entry and wake. -/
namespace Sys2Proof.Machine

/-- The idle condition of cluster `c` (R481): 0–7 communication clusters, 8 + n application cluster AC n. -/
def State.clusterIdle (s : State) (c : Nat) : Bool :=
  if c < 8 then
    (List.range 24).all (fun k =>
      let th := 24 * c + k
      let st := s.thState th
      (st == 0 || st == 5 || st == 7 || (st == 2 && (s.core th).wfe && s.evNow th == 0)) && (s.core th).posted.isEmpty)
    && [0, 1, 2].all (fun e => (s.ckOps (3 * c + e)).isEmpty)
    && (List.range 8).all (fun k => s.f (ofBe CC.BSTAT_STATE (8 * c + k)) == 0)
  else
    (List.range 4).all (fun k =>
      let n := 4 * (c - 8) + k
      (s.core (192 + n)).wfe && s.depth n == 0 && (s.offerOf n).isNone && s.aSources n == 0 && (s.core (192 + n)).posted.isEmpty)

/-- Does capture pin `i` wake at level `l` (R287)? PPS_IN is `i` = 4. -/
def State.tioLevel (s : State) (i l : Nat) : Bool :=
  s.tioMode i == 1 && ((s.f (TMU.TIOCFG_WAKE i) == 2 && l == 1) || (s.f (TMU.TIOCFG_WAKE i) == 3 && l == 0))

/-- Is a level source of Table 18.4 active: `held`, a request held for the cluster; the pins? -/
def State.wakeLevel (s : State) (c : Nat) (held : Bool) (w : WakePins) : Bool :=
  held || (List.range 5).any (fun i => s.tioLevel i (bitsOf w.tio.toNat i 1)) ||
    if c < 8 then
      (List.range 24).any (fun k => s.thState (24 * c + k) == 2 && (s.core (24 * c + k)).wfe && s.evNow (24 * c + k) != 0)
        || (List.range 8).any (fun p =>
          let m := s.f (CC.PAD_WAKE c p)
          let l := bitsOf w.pads.toNat p 1
          (m == 4 && l == 1) || (m == 5 && l == 0))
    else (List.range 4).any (fun k => s.aSources (4 * (c - 8) + k) != 0)

/-- Does an edge wake cluster `c` (Table 18.4): at pin `i` (0–4 a time pin, 5 + p Burin pin p), rising or not? A time pin wakes on the edge it
captures (R287). -/
def State.wakeEdge (s : State) (c : Nat) (i : Nat) (rising : Bool) : Bool :=
  if i < 5 then s.tioMode i == 1 && s.f (TMU.TIOCFG_WAKE i) == 1 && s.capEdge i rising
  else
    let m := s.f (CC.PAD_WAKE c (i - 5))
    decide (c < 8) && (m == 3 || m == (if rising then 1 else 2))

/-- DOZE_ENTRY (R481, R482): the idle condition has held DLY µs; a level source at the arming of the detector ends the entry. -/
def execDozeEntry (c : Fin 12) (held : Bool) (pins : WakePins) (s : State) : Out :=
  let up := !s.offline && !s.regionDown (if c.val < 8 then c.val / 2 else c.val - 8)
  if s.on (SYS.DOZE_EN c) && s.f (SYS.DOZE_STATE c) == 0 && up && s.clusterIdle c then
    if s.wakeLevel c held pins then .next (s.bump (SYS.DOZE_ABORTS c)) else .next (s.setF (SYS.DOZE_STATE c) 2)
  else .next s

/-- DOZE_WAKE (R483, R484): a level source, or an edge at pin `edge` as R287 and Table 18.4 number it here. -/
def execDozeWake (c : Fin 12) (held : Bool) (pins : WakePins) (edge : Option (Fin 13 × Bool)) (s : State) : Out :=
  let hit := match edge with | some (i, up) => s.wakeEdge c i up | none => false
  if s.f (SYS.DOZE_STATE c) = 2 ∧ (s.wakeLevel c held pins || hit) = true then
    .next ((s.setF (SYS.DOZE_STATE c) 0).bump (SYS.DOZE_WAKES c))
  else .next s

end Sys2Proof.Machine
end

