-- ==== Sys2Proof/Machine/Fabric.lean ====
section
/-! DEFINITION. Requests as the core fabric takes them: identities it refuses (R37, R15), serialising points (R44), the paths of the PCIe
functions (R45–R49), MSI-X masks (R55, R58), resets of a function (R82, R95). -/
namespace Sys2Proof.Machine

/-! ## What the fabric itself refuses -/

/-- A request with a reserved identity is refused and recorded for the issuing unit (R37); the record's CODE is a free value. A cluster port
refuses requests of a faulty engine (R15) and of a FAILED thread (R172). `none`: the request goes on. -/
def State.fabRefused (s : State) (unit : Nat) (rq : Rq) (a : Nat) : Option State :=
  if !idListed rq.id.toNat then
    let c := s.free
    some (c.2.fault { unit := unit, code := c.1.toNat % 256, cls := 2, addr := a, ident := rq.id.toNat })
  else if unit < 24 ∧ (s.on (ofCe CC.ENGSTAT_EFAIL unit)
      || (match rq.rkey with | some k => k.toNat / 8 == unit && s.thState k.toNat == 7 | none => false)) then some s
  else none

/-- A read through the fabric: code, bytes, state. -/
def State.fabRead (s : State) (unit : Nat) (rq : Rq) (a len : Nat) : Nat × List Byte × State :=
  match s.fabRefused unit rq a with
  | some t => (2, List.replicate len 0, t)
  | none => (s.carry unit rq.id.toNat a len false).busRead rq a len

/-- A write through the fabric: code, state. -/
def State.fabWrite (s : State) (unit : Nat) (rq : Rq) (a : Nat) (bs : List Byte) : Nat × State :=
  match s.fabRefused unit rq a with
  | some t => (2, t)
  | none => (s.carry unit rq.id.toNat a bs.length true).busWrite rq a bs

/-! ## MSI-X (R55, R58) -/

/-- A pending message of vector `v` is sent, unless the vector or the doorbell mask still holds it; one whose doorbell bit is 0 again has
nothing to tell. -/
def State.sendPending (s : State) (f v : Nat) : State :=
  if !tabHas s.pba (f * 64 + v) then s
  else if 32 ≤ v then s.msixFire f v
  else if !bitOf (s.f (MBX.DB_BELL (f + 1))) v then { s with pba := tabDel s.pba (f * 64 + v) }
  else if bitOf (s.f (MBX.DBMASK_MASK (f + 1))) v then s
  else s.msixFire f v

/-- The mask of vector `v` clears, and a pending message of it follows. -/
def State.unmaskVec (s : State) (f v : Nat) : State :=
  let a := f * 256 + v * 4 + 3
  ({ s with msix := cellPut s.msix 1 a (BitVec.ofNat 32 ((tabGet s.msix 1 a).toNat / 2 * 2)) } : State).sendPending f v

/-- Word `w` of the Pending Bit Array. -/
def State.pbaWord (s : State) (f w : Nat) : Nat :=
  (List.range 32).foldl (fun x i =>
    let v := 32 * w + i
    let live := tabHas s.pba (f * 64 + v) && (decide (32 ≤ v) || bitOf (s.f (MBX.DB_BELL (f + 1))) v)
    x + b2n live * 2 ^ i) 0

/-- A 32-bit write of BAR4 (Table 2.2). -/
def State.bar4Write (s : State) (f o v : Nat) : State :=
  if 0x400 ≤ o then s
  else if o % 16 = 12 ∧ !bitOf v 0 then
    let s : State := { s with msix := cellPut s.msix 1 (f * 256 + o / 4) (BitVec.ofNat 32 (v + 1)) }
    s.unmaskVec f (o / 16)
  else { s with msix := cellPut s.msix (if o % 16 = 12 then 1 else 0) (f * 256 + o / 4) (BitVec.ofNat 32 v) }

/-- A 32-bit read of BAR4. -/
def State.bar4Read (s : State) (f o : Nat) : Nat :=
  if o < 0x400 then (tabGet s.msix (if o % 16 = 12 then 1 else 0) (f * 256 + o / 4)).toNat
  else if o = 0x2000 ∨ o = 0x2004 then s.pbaWord f ((o - 0x2000) / 4)
  else 0

/-! ## Configuration space (R45) -/

/-- What is fixed in a word of configuration space: identity, class code, capabilities list (power management at 0x40, MSI-X with 64 vectors at
0x50, PCI Express at 0x70, Advanced Error Reporting at 0x100), payload sizes, FLR, Gen1–Gen3 ×4 with ASPM L1 (Tables 2.1, 2.2); a capability that
Table 2.1 does not list reads 0. PRESUMED: the layout of the PCI Express Base Specification (log 13). -/
def cfgFixed (w : Nat) : Nat :=
  match w with
  | 0 => Config.vendorId.toNat + 0x72400000
  | 1 => 0x00100000
  | 2 => 0x02800000 + (Config.cfgIdent 2).toNat % 256
  | 3 => 0x00800000
  | 4 => 4 | 6 => 4 | 8 => 4
  | 11 => (Config.cfgIdent 11).toNat
  | 13 => 0x40
  | 16 => 0x00035001
  | 20 => 0x003F7011 | 21 => 4 | 22 => 0x2004
  | 28 => 0x00020010
  | 29 => 0x10008001 + ((Config.cfgIdent 29).toNat &&& 0xFC0)
  | 31 => 0x00000843 + ((Config.cfgIdent 31).toNat &&& 0xFF038000)
  | 32 => (Config.cfgIdent 32).toNat &&& 0x03FF0000
  | 39 => 0x0000000E
  | 64 => 0x00020001
  | _ => 0

/-- Writable bits of a word of configuration space. -/
def cfgWritable (w : Nat) : Nat :=
  match w with
  | 1 => 0x0546
  | 4 => 0xFFFF0000 | 5 => 0xFFFFFFFF
  | 6 => 0xFE000000 | 7 => 0xFFFFFFFF
  | 8 => 0xFFFFC000 | 9 => 0xFFFFFFFF
  | 17 => 3
  | 20 => 0xC0000000
  | 30 => 0x000070EF
  | 32 => 0x000000C2
  | 40 => 0x0000000F
  | 66 => 0x005FF010 | 67 => 0x005FF010 | 69 => 0x000031C1
  | _ => 0

/-- Status bits that a write of 1 clears: the uncorrectable and correctable errors of Advanced Error Reporting. -/
def cfgClears (w : Nat) : Nat := match w with | 65 => 0x005FF010 | 68 => 0x000031C1 | _ => 0

def State.cfgPut (s : State) (f w v : Nat) : State :=
  { s with pciCfg := cellPut s.pciCfg (cfgReset w) (f * 1024 + w) (BitVec.ofNat 32 v) }

def State.cfgRead (s : State) (f w : Nat) : Nat := cfgFixed w ||| s.cfgHeld f w

/-- Largest payload of a write and of a read request of function `f` (R49): Device Control. -/
def State.maxPayload (s : State) (f : Nat) : Nat := if bitsOf (s.cfgHeld f 30) 5 3 = 0 then 128 else 256
def State.maxRead (s : State) (f : Nat) : Nat := 128 * 2 ^ min (bitsOf (s.cfgHeld f 30) 12 3) 2

/-- What a reset of function `f` does to its PCIe registers: MSI-X table, pending bits and configuration words. -/
def State.fnClear (s : State) (f : Nat) : State :=
  { s with
    msix := s.msix.filter (fun e => e.1 / 256 != f)
    pba := s.pba.filter (fun e => e.1 / 64 != f)
    pciCfg := s.pciCfg.filter (fun e => e.1 / 1024 != f)
    fnReset := s.fnReset.filter (fun e => e.1 != f) }

/-- Function Level Reset (R82, Table 2.16). -/
def State.flr (s : State) (f : Nat) : State :=
  let s := [2 * f, 2 * f + 1].foldl (fun s n => s.closeSession n false) s
  (s.resetIdentity (f + 1)).fnClear f

/-- A configuration write: D3hot is entered and left through the power state of word 17 (Table 3.3), D1 and D2 are absent; a 1 in bit 15 of
Device Control resets the function. What MSI-X holds back follows once the function may send (R55). -/
def State.cfgWrite (s : State) (f w v : Nat) : State :=
  if w = 17 then
    if v % 4 = 0 ∨ v % 4 = 3 then { s.cfgPut f 17 (v % 4) with fnReset := cellPut s.fnReset 0 f (b2n (v % 4 == 3)) } else s
  else if w = 30 ∧ bitOf v 15 then s.flr f
  else if cfgClears w ≠ 0 then s.cfgPut f w (s.cfgHeld f w &&& (0xFFFFFFFF ^^^ (v &&& cfgClears w)))
  else
    let t := s.cfgPut f w (v &&& cfgWritable w)
    if (w = 1 ∨ w = 20) ∧ t.msixOn f then (List.range 64).foldl (fun t v => t.sendPending f v) t else t

/-- Completion of a response code, and whether it is poisoned (Table 1.17). -/
def cplOf (code : Nat) : CplStatus × Bool :=
  match code with
  | 0 => (.successful, false)
  | 4 => (.successful, true)
  | 1 => (.unsupportedRequest, false)
  | _ => (.completerAbort, false)

/-- Advanced Error Reporting keeps an Unsupported Request (bit 20) and a Completer Abort (bit 15). -/
def State.aerNote (s : State) (f code : Nat) : State :=
  match (cplOf code).1 with
  | .successful => s
  | .unsupportedRequest => s.cfgPut f 65 (s.cfgHeld f 65 ||| 0x100000)
  | .completerAbort => s.cfgPut f 65 (s.cfgHeld f 65 ||| 0x8000)

/-- The PCIe interface answers a request of function `f`: a completion with the status of Table 1.17; a memory write is posted and has none. -/
def State.complete (s : State) (f code : Nat) (posted : Bool) (bytes : List Byte) : State :=
  let s := s.aerNote f code
  if posted then s else s.emit (.completion f (cplOf code).1 (cplOf code).2 (if (cplOf code).1 = .successful then bytes else []))

/-! ## Requests -/

/-- The request fields of PCIe function `f` (R46). -/
def fnRq (f : Nat) : Rq := ⟨BitVec.ofNat 8 (f + 1), none, none, 0, false, false⟩

/-- The channel a BAR0 offset belongs to. -/
def bar0Chan (o : Nat) : Option Nat :=
  if o < 0x8000 then some (o / 0x400) else if o < 0x8800 then some ((o - 0x8000) / 0x20) else none

/-- What refuses a BAR0 access (R47–R49, R12); 0 when nothing does. -/
def State.bar0Code (s : State) (f o len : Nat) : Nat :=
  if 0xC000 ≤ o then 1
  else if len ≠ 4 ∨ o % 4 ≠ 0 then 5
  else
    match bar0Chan o with
    | some c => if s.isSender c (f + 1) || s.isReceiver c (f + 1) then 0 else 2
    | none => 0

/-- The queues between the PCIe interface and the mailbox unit. -/
def pciePath : List (Nat × Nat) := [(0xA4, 0), (0xA0, 0)]

/-- One request, served alone: code, bytes, state. -/
def State.serve (s : State) (x : FabReq) : Nat × List Byte × State :=
  let a := x.addr.toNat
  let len := if x.write then x.data.length else x.len
  let zeros : List Byte := if x.write then [] else List.replicate len 0
  match x.path with
  | .fabric u =>
    if x.write then let r := s.fabWrite u x.rq a x.data; (r.1, [], r.2) else s.fabRead u x.rq a len
  | .bar0 f =>
    let c := s.bar0Code f a len
    if s.heldFor (f + 1) then (3, zeros, s)
    else if tabGet s.fnReset 0 f ≠ 0 ∨ 0x10000 ≤ a then (1, zeros, s)
    else if c ≠ 0 then (c, zeros, s)
    else
      let s := s.carryOver pciePath len x.write
      if x.write then let r := s.busWrite (fnRq f) (0x40010000 + a) x.data; (r.1, [], r.2)
      else s.busRead (fnRq f) (0x40010000 + a) len
  | .bar4 f =>
    if s.heldFor (f + 1) then (3, zeros, s)
    else if tabGet s.fnReset 0 f ≠ 0 ∨ 0x4000 ≤ a then (1, zeros, s)
    else if len ≠ 4 ∨ a % 4 ≠ 0 then (5, zeros, s)
    else if x.write then (0, [], s.bar4Write f a (leNat x.data))
    else (0, leBytes 4 (s.bar4Read f a), s)
  | .cfg f =>
    if s.heldFor (f + 1) then (3, zeros, s)
    else if 0x1000 ≤ a then (1, zeros, s)
    else if len ≠ 4 ∨ a % 4 ≠ 0 then (5, zeros, s)
    else if x.write then (0, [], s.cfgWrite f (a / 4) (leNat x.data))
    else (0, leBytes 4 (s.cfgRead f (a / 4)), s)

/-- Identity attached at the request interface. -/
def reqIdent (x : FabReq) : Nat :=
  match x.path with
  | .fabric _ => x.rq.id.toNat
  | .bar0 f => f + 1
  | .bar4 f => f + 1
  | .cfg f => f + 1

/-- Different elements of a list, in order of first appearance. -/
def distinct (l : List Nat) : List Nat := l.foldl (fun acc x => if acc.contains x then acc else acc ++ [x]) []

/-- The work scheduler, a serialising point (R44). -/
def ptSched : Nat := 0x40060000

/-- Is a point the scratchpad of a cluster, whose three engines and DM port it serves in rotating order (R152)? -/
def isPadPoint (p : Nat) : Bool := decide (0x20000000 ≤ p) && decide (p < 0x20600000) && decide ((p - 0x20000000) % 0xC0000 = 0x20000)

/-- Is the point a Pantograph channel (R417), by the address of its CHCFG? -/
def isChanPoint (p : Nat) : Bool :=
  decide (0x4030 ≤ p / 0x10000) && decide (p / 0x10000 < 0x4034) && decide (0x1000 ≤ p % 0x10000) && decide (p % 0x10000 < 0x1400) && p % 0x40 == 0

/-- Bytes a request moves. -/
def reqSize (x : FabReq) : Nat := if x.write then x.data.length else x.len

/-- The part of a request that moves `k` bytes from byte `o` on. -/
def reqPart (x : FabReq) (o k : Nat) : FabReq :=
  { x with addr := BitVec.ofNat 32 (x.addr.toNat + o), len := k, data := (x.data.drop o).take k }

/-- The accesses of a request, each with its serialising point (R44): the mailbox unit, the work scheduler, a Pantograph channel (R417), a scratchpad
(R152), else the target address; 0 for the PCIe interface's own tables. One to several banks of Plate or of the sealed bank is a part for each of them
(R433, R440). -/
def State.pieces (s : State) (x : FabReq) : List (Nat × FabReq) :=
  let a := x.addr.toNat
  let banks (b : Nat) : List (Nat × FabReq) :=
    match bankParts b (reqSize x) with
    | p :: q :: l => (p :: q :: l).map (fun p => (plateLo + bankOf p.1, reqPart x (p.1 - b) p.2))
    | _ => [(plateLo + bankOf b, x)]
  match x.path with
  | .bar0 _ => [(ptMailbox, x)]
  | .bar4 _ => [(0, x)]
  | .cfg _ => [(0, x)]
  | .fabric _ =>
    if a / 0x10000 = 0x4001 ∨ a / 0x10000 = 0x4006 then [(a / 0x10000 * 0x10000, x)]
    else if isChanPoint (a / 0x40 * 0x40) then [(a / 0x40 * 0x40, x)]
    else if decide (plateLo ≤ a) && decide (a < 0x11880000) then banks a
    else if isAlias a then banks (s.aliasAt (holderOf x.rq) a)
    else if 0x20000000 ≤ a ∧ a < 0x20600000 ∧ 0x20000 ≤ (a - 0x20000000) % 0x40000 then
      [(0x20000000 + (a - 0x20000000) / 0xC0000 * 0xC0000 + 0x20000, x)]
    else [(a, x)]

/-- Serialising points of a request. -/
def State.points (s : State) (x : FabReq) : List Nat := distinct ((s.pieces x).map (·.1))

/-- What a point orders requests by: the attached identity (R44); a scratchpad by its ports, the engines and the DM port (R152). -/
def meetIdent (p : Nat) (x : FabReq) : Nat :=
  if isPadPoint p then (match x.path with | .fabric u => if u.val < 24 then u.val % 3 else 3 | _ => 3) else reqIdent x

/-- Kinds of request that the scheduler serves one after the other (R396): DONE writes, COREOP writes, submissions, others. -/
def schedKind (x : FabReq) : Nat :=
  let o := x.addr.toNat % 0x10000
  if !x.write then 3 else if o = 0x14 then 0 else if o = 0xC then 1 else if o = 0x10 then 2 else 3

/-- Kinds of request that a Pantograph channel serves one after the other (R417): CHCTL writes, CHCFG writes, starts, others. -/
def chanKind (x : FabReq) : Nat :=
  let o := x.addr.toNat % 0x40
  if !x.write then 3 else if o = 8 then 0 else if o = 0 then 1 else if o = 4 then 2 else 3

/-- The kind of a request at point `p`. -/
def meetKind (p : Nat) (x : FabReq) : Nat := if p = ptSched then schedKind x else if isChanPoint p then chanKind x else 0

/-- The order in which requests that meet at a point with pointer `q` are served (R44, R396, R417). -/
def meetOrder (p q : Nat) (l : List (Nat × FabReq)) : List (Nat × FabReq) :=
  let rot (l : List (Nat × FabReq)) : List (Nat × FabReq) := rotOrder q (fun x => meetIdent p x.2) l
  if p = ptSched ∨ isChanPoint p then (List.range 4).flatMap (fun k => rot (l.filter (fun x => meetKind p x.2 == k))) else rot l

/-- The one response of a request (R41), and the completion of one of a PCIe function. -/
def State.respond (s : State) (x : FabReq) (code : Nat) (bytes : List Byte) : State :=
  let t := (s.answer code bytes).emit (.response (reqIdent x) code bytes)
  match x.path with
  | .fabric _ => t
  | .bar0 f => t.complete f code x.write bytes
  | .bar4 f => t.complete f code x.write bytes
  | .cfg f => t.complete f code false bytes

/-- What parts of requests have come to: number of the request, address of the part, code, bytes. -/
abbrev Served := List (Nat × Nat × Nat × List Byte)

/-- Part `y` of request `k` is served; the request is answered when its last part is: the first code other than OK, its bytes in order. -/
def State.serveOne (r : Served × State) (k : Nat) (x : FabReq) (ps : List (Nat × FabReq)) (y : FabReq) : Served × State :=
  let q := r.2.serve y
  let done : Served := r.1 ++ [(k, y.addr.toNat, q.1, q.2.1)]
  let mine := ps.filterMap (fun p => done.find? (fun e => e.1 == k && e.2.1 == p.2.addr.toNat))
  if mine.length = ps.length then
    (done, q.2.2.respond x ((mine.map (·.2.2.1)).find? (fun c => c != 0) |>.getD 0) (mine.flatMap (·.2.2.2)))
  else (done, q.2.2)

/-- Request `k` at point `p`: its parts there, once; a write of several parts that Plate refuses as a whole is answered at the first of them (R43). -/
def State.serveAt (r : Served × State) (p k : Nat) (x : FabReq) (ps : List (Nat × FabReq)) : Served × State :=
  let whole := r.2.serve x
  if x.write ∧ 1 < ps.length ∧ whole.1 ≠ 0 ∧ !isAlias x.addr.toNat ∧ r.1.all (fun e => e.1 != k) then
    (r.1 ++ ps.map (fun y => (k, y.2.addr.toNat, whole.1, [])), whole.2.2.respond x whole.1 [])
  else
    (ps.filter (fun y => y.1 == p)).foldl (fun (r : Served × State) y =>
      if r.1.any (fun e => e.1 == k && e.2.1 == y.2.addr.toNat) then r else State.serveOne r k x ps y.2) r

/-- Requests that meet at one point, each with its number and parts: each response reflects the requests served before it. -/
def State.meet (r : Served × State) (p : Nat) (l : List (Nat × FabReq × List (Nat × FabReq))) : Served × State :=
  let q := tabGet r.2.ptrs 0 p
  let ord := meetOrder p q (l.map (fun x => (x.1, x.2.1)))
  let s : State := if l.length < 2 then r.2 else { r.2 with ptrs := cellPut r.2.ptrs 0 p (rotNext q (fun x => meetIdent p x.2) ord) }
  ord.foldl (fun (r : Served × State) x =>
    State.serveAt r p x.1 x.2 (((l.find? (fun y => y.1 == x.1)).map (·.2.2)).getD [])) (r.1, s)

/-- Can the request reach its target: credits on every queue of its way, and no Hold? Else it waits at its issuer (R34, R487). -/
def State.canReach (s : State) (x : FabReq) : Bool :=
  match x.path with
  | .fabric u => (s.fabRefused u x.rq x.addr.toNat).isSome || s.pathOpen u x.rq x.addr.toNat (reqSize x) x.write
  | .bar0 _ => s.awake && s.mayPass pciePath (reqSize x) x.write
  | .bar4 _ => s.awake
  | .cfg _ => s.awake

/-- Runs of enabled bytes of a BAR2 write (R49), with the address each starts at: `run` holds the enabled bytes that end below `a`. -/
def enabledRuns (a : Nat) (run : List Byte) (data : List (Option Byte)) : List (Nat × List Byte) :=
  match data with
  | some b :: t => enabledRuns (a + 1) (run ++ [b]) t
  | [] => if run.isEmpty then [] else [(a - run.length, run)]
  | none :: t => if run.isEmpty then enabledRuns (a + 1) [] t else (a - run.length, run) :: enabledRuns (a + 1) [] t

/-- A BAR2 write within one 64-byte block: one access to Plate (R49); where any enabled byte is refused, none is written. -/
def State.bar2Block (s : State) (f a : Nat) (data : List (Option Byte)) : Nat × State :=
  let s := s.lendBanks a data.length true
  (enabledRuns a [] data).foldl (fun (r : Nat × State) p =>
    if r.1 ≠ 0 then r
    else
      let q := r.2.plateWrite (fnRq f) p.1 p.2
      if q.1 = 0 then q else (q.1, (s.plateWrite (fnRq f) p.1 p.2).2)) (0, s)

/-- Bytes of a read whose byte enables are given: a disabled byte of a completion is a free value (PCI Express). -/
def State.enabledBytes (s : State) (bs : List Byte) (en : List (Option Byte)) : List Byte × State :=
  if en.isEmpty then (bs, s)
  else
    (bs.zipIdx.map (fun x => match en[x.2]? with | some none => Config.freeByte s.freeIx x.2 | _ => x.1), s.free.2)

/-! ## Meanings -/

/-- A request of a PCIe function that comes in Hold ends it (R490); of any other master it waits. -/
def State.hostWakes (s : State) (id : Nat) : State := if id = 1 ∨ id = 2 then s.endHold else s

/-- REGISTER_WRITE (R9): a 32-bit write at an internal address, with the rights of its block; without credits on its way it waits (R34). -/
def execRegisterWrite (unit : Fin 354) (rq : Rq) (addr val : Word) (s : State) : Out :=
  let s := s.hostWakes rq.id.toNat
  if !s.canReach ⟨rq, .fabric unit, true, addr, 4, leBytes 4 val.toNat⟩ then .next s
  else
    let r := s.fabWrite unit rq addr.toNat (leBytes 4 val.toNat)
    .next (r.2.answer r.1)

/-- FABRIC_REQUEST (R41, R44): the requests that arrive in one FCLK cycle. -/
def execFabricRequest (reqs : List FabReq) (s : State) : Out :=
  let s := reqs.foldl (fun (s : State) x => s.hostWakes (reqIdent x)) s
  let l := (reqs.filter s.canReach).zipIdx.map (fun x => (x.2, x.1, s.pieces x.1))
  .next ((distinct (l.flatMap (fun x => x.2.2.map (·.1)))).foldl (fun (r : Served × State) p =>
    State.meet r p (l.filter (fun x => x.2.2.any (fun y => y.1 == p)))) ([], s)).2

/-- BAR2_ACCESS (R48, R49, R51): `data` gives the bytes of a write, `none` where a byte enable is 0; of a read its byte enables, all 1 where it is
empty. A read has one completion for each 64-byte block, poisoned by itself (log 71). While credits are lacking on its way it waits (R34). -/
def execBar2Access (f : Fin 2) (write : Bool) (off : BitVec 25) (len : Nat) (data : List (Option Byte)) (s : State) : Out :=
  let s := s.endHold
  let n := if write then data.length else len
  let c := if s.heldFor (f + 1) then 3 else if tabGet s.fnReset 0 f ≠ 0 then 1 else if n = 0 then 0
    else if (if write then s.maxPayload f else s.maxRead f) < n then 5 else s.bar2Code f off.toNat n write
  let base := plateLo + off.toNat
  let parts := blockParts base n
  if !s.awake then .next s
  else if c = 0 ∧ !(parts.all (fun p => s.mayPass [(0xA4, 0)] p.2 write && s.banksFree p.1 p.2 write)) then .next s
  else if c ≠ 0 then .next ((s.complete f c write []).answer c (if write then [] else List.replicate n 0))
  else if write then
    let r := parts.foldl (fun (r : Nat × State) p =>
      let q := (r.2.carryOver [(0xA4, 0)] p.2 true).bar2Block f p.1 ((data.drop (p.1 - base)).take p.2)
      (if r.1 ≠ 0 then r.1 else q.1, q.2.complete f q.1 true [])) (0, s)
    .next (r.2.answer r.1)
  else if n = 0 then .next ((s.complete f 0 false []).answer 0)
  else
    let r := parts.foldl (fun (r : Nat × List Byte × State) p =>
      let q := (r.2.2.carryOver [(0xA4, 0)] p.2 false).plateAccess (fnRq f) false p.1 p.2 []
      let e := q.2.2.enabledBytes q.2.1 ((data.drop (p.1 - base)).take p.2)
      (if r.1 ≠ 0 then r.1 else q.1, r.2.1 ++ e.1, e.2.complete f q.1 false e.1)) (0, ([] : List Byte), s)
    .next (r.2.2.answer r.1 r.2.1)

/-- MSIX_MASK_CLEAR (R55, R58). -/
def execMsixMaskClear (f : Fin 2) (v : Fin 64) (s : State) : Out := .next (s.unmaskVec f v)

/-- FUNCTION_LEVEL_RESET (R82, Table 2.16). -/
def execFunctionLevelReset (f : Fin 2) (s : State) : Out := .next (s.flr f)

/-- PCIE_HOT_RESET (R495, Table 3.3): hot reset or link down acts on both functions: the identities at the mailbox unit, then the PCIe
registers of each. -/
def execPcieHotReset (s : State) : Out :=
  .next ([0, 1].foldl State.fnClear (s.resetIdentities [1, 2]))

end Sys2Proof.Machine
end

