-- ==== Sys2Proof/Machine/Feholt.lean ====
section
/-! DEFINITION. The Feholt protocol as Keyblock firmware runs it (chapter 2): which commands it executes and how it answers, bulk buffers,
sessions, queued events (R60–R85). -/
namespace Sys2Proof.Machine

/-! ## Answers -/

/-- How a command is answered: status (Table 2.15), detail, payload; the state after it. -/
structure FReply where
  status : Nat
  detail : Nat
  payload : List Byte
  st : State

def okR (s : State) (p : List Byte) : FReply := ⟨0, 0, p, s⟩

/-- An error: the command has no effect (R72). -/
def errR (s : State) (status : Nat) : FReply := ⟨status, 0, [], s⟩

/-- BAD_PARAM; the offset of the first bad field in a payload whose layout R77 leaves to the Puset kit is a free value. -/
def badR (s : State) : FReply := let c := s.free; ⟨0x12, c.1.toNat % 2 ^ 16, [], c.2⟩

/-- Values of a reply whose payload layout is in the Puset kit (R77). -/
def valR (s : State) (op : Nat) (vals : List Nat) : FReply := okR s (Config.payload op vals)

/-! ## Which commands are executed -/


/-- Class of an opcode. -/
def opClass (op : Nat) : Nat := op / 256 % 128

/-! ## Bulk buffers (R63, R64) -/

/-- Function of a session. -/
def fnOf (n : Nat) : Nat := n / 2

/-- Reads a bulk buffer: did every read succeed, bytes, state. -/
def State.bulkRead (s : State) (n : Nat) (plate : Bool) (b : Bulk) : Bool × List Byte × State :=
  let a := b.addr.toNat
  let len := b.len.toNat
  if plate then
    (blockParts (plateLo + a) len).foldl (fun (r : Bool × List Byte × State) p =>
      let q := r.2.2.plateAccess (fnRq (fnOf n)) false p.1 p.2 []
      (r.1 && q.1 == 0, r.2.1 ++ q.2.1, q.2.2)) (true, ([] : List Byte), s)
  else (!b.err, (List.range len).map (fun i => tabGet s.hostMem 0 (a + i)), s)

/-- Writes at most Length bytes into a bulk buffer: code, bytes written, state. -/
def State.bulkWrite (s : State) (n : Nat) (plate : Bool) (b : Bulk) (bs : List Byte) : Nat × List Byte × State :=
  let a := b.addr.toNat
  let bs := bs.take b.len.toNat
  if plate then
    let r := (blockParts (plateLo + a) bs.length).foldl (fun (r : Nat × State) p =>
      let q := r.2.plateAccess (fnRq (fnOf n)) true p.1 0 ((bs.drop (p.1 - (plateLo + a))).take p.2)
      (if r.1 ≠ 0 then r.1 else q.1, q.2.2)) (0, s)
    (r.1, bs, r.2)
  else (0, bs, { s with hostMem := putBytes s.hostMem a bs })

/-- Checks of the flags and of the bulk buffer; `needs`: 0 no buffer, 1 a buffer the device reads, 2 one it writes. 0 when all hold. A command that
takes no buffer allows any listed flag, and CRC, PLATE and TO_HOST without BULK are allowed and mean nothing (DESIGN CHOICE, log 69: no table
lists the flags that each command allows). -/
def State.bulkStatus (s : State) (h : FHdr) (needs : Nat) : Nat :=
  let fl := h.flags.toNat
  let bulk := bitOf fl 0
  let out := bitOf fl 3
  if fl / 16 ≠ 0 ∨ (needs = 1 ∧ (!bulk ∨ out)) ∨ (needs = 2 ∧ !(bulk && out)) then 0x13
  else if (if bulk then 32 else 48) < h.len.toNat then 0x11
  else if !bulk then 0
  else
    match h.bulk with
    | none => 0x13
    | some b =>
      let len := b.len.toNat
      let f := fnOf h.sess
      if b.addr.toNat % 64 ≠ 0 ∨ len = 0 ∨ 16777216 < len then 0x52
      else if (if bitOf fl 2 then s.bar2Code f b.addr.toNat len out != 0 else !s.busMaster f) then 0x50
      else if out then 0
      else
        let r := s.bulkRead h.sess (bitOf fl 2) b
        if !r.1 then 0x50
        else if bitOf fl 1 ∧ crc32 r.2.1 ≠ b.crc.toNat then 0x51
        else 0

/-- What refuses a command of an open session before it is judged by its own rules; 0 when nothing does: tag in use (R71), recovery (R503),
FATAL (R81), LOCKED (R457), flags and bulk buffer, another long command of the class (R69). -/
def State.refusal (s : State) (h : FHdr) (op needs : Nat) (long : Bool) : Nat :=
  let k := opClass op
  if s.tagUsed h then 0x15
  else if s.f SYS.BOOTSTAT_STAGE = 5 ∧ k ≠ 1 ∧ k ≠ 0xF ∧ k ≠ 0x11 then 0x10
  else if s.f FLT.STAT_STATE = 3 ∧ k ≠ 1 ∧ k ≠ 0xF then 0x72
  else if s.f FLT.STAT_STATE = 2 ∧ (op = 0x0D03 ∨ op = 0x0201 ∨ op = 0x0202 ∨ op = 0x1103) then 0x32
  else
    let b := s.bulkStatus h needs
    if b ≠ 0 then b
    else if long && s.longs.any (fun l => opClass l.opcode == k) then 0x40
    else 0

/-- A command of class other than SESSION_OPEN: discarded, answered with an error, or executed by `act`; a long command (`long`) that starts
is answered ACCEPTED and waits for its completion (R61, R66, R69, R71). -/
def State.feholt (s : State) (h : FHdr) (op needs : Nat) (long : Option Instr) (act : State → FReply) : State :=
  let n := h.sess.val
  let answer (t : State) (st d : Nat) (p : List Byte) : State := t.postMsg n op h.tag.toNat st d p
  let c := s.firstCheck h op
  if !s.serves then s
  else if s.epochOld h then s.discard h
  else if c.1 ≠ 0 then answer (s.stepSeq h) c.1 c.2 []
  else
    let s := s.stepSeq h
    let e := s.refusal h op needs long.isSome
    if e ≠ 0 then answer s e 0 []
    else
      let r := act s
      if r.status ≠ 0 then answer r.st r.status r.detail r.payload
      else
        match long with
        | some c => answer { r.st with longs := r.st.longs ++ [⟨n, h.tag.toNat, op, c⟩] } 1 0 []
        | none => answer r.st 0 r.detail r.payload

/-- A draft command (R78): NO_DRAFT unless the session's draft is open. -/
def State.draftCmd (s : State) (h : FHdr) (op : Nat) (act : State → FReply) : State :=
  s.feholt h op 0 none (fun s => if s.draftOwner = some h.sess.val then act s else errR s 0x23)

/-- Writes register words as the Keyblock; a word that does not satisfy `p` or a refused write leaves everything as it was. -/
def State.putWords (s : State) (p : Nat → Bool) (ws : List RegW) : FReply :=
  if ws.any (fun w => !p w.addr.toNat) then badR s
  else
    let r := ws.foldl (fun (r : Nat × State) w =>
      let q := r.2.regWrite rqKb w.addr.toNat w.val.toNat
      (if r.1 ≠ 0 then r.1 else q.1, q.2)) (0, s)
    if r.1 = 0 then okR r.2 [] else errR s 0x30

/-- Is `a` a sealed word that changes through drafts? -/
def isDraftWord (a : Nat) : Bool := match regAt a with | some d => d.draft && a % 4 == 0 | none => false

/-- Is `a` a register of a block? -/
def isRegWord (a : Nat) : Bool := a % 4 == 0 && (regAt a).isSome

/-! ## Sessions -/

/-- Minor version of R73 for the host's range, as major × 256 + minor. -/
def chooseMinor (lo hi : Nat) : Option Nat :=
  if lo ≤ 0x201 ∧ 0x201 ≤ hi then some 1 else if lo ≤ 0x200 ∧ 0x200 ≤ hi then some 0 else none

/-- The reply payload of SESSION_OPEN (Table 2.12). -/
def State.openPayload (s : State) (n minor credits keep : Nat) : List Byte :=
  [2, BitVec.ofNat 8 minor, BitVec.ofNat 8 n, BitVec.ofNat 8 credits] ++ leBytes 2 keep ++ leBytes 2 (s.f PLT.LCSTAT_STATE)
    ++ leBytes 8 s.sealNow ++ leBytes 4 (s.f OBS.RUNEPOCH_E) ++ leBytes 4 Config.fwVersion.toNat
    ++ [0, 1, 2, 3].flatMap (fun i => leBytes 4 (feat 208 i))

/-- SESSION_OPEN (R66, R71, R73, R74, R79): versions as major × 256 + minor. In an open session it negotiates anew and is judged as any other
command; its reply, and that of a refused SESSION_OPEN, carries on the count of the reply channel (DESIGN CHOICE, log 70: R65 starts the count with
the reply that opens). -/
def execSessionOpen (h : FHdr) (lo hi credits keepalive : BitVec 16) (s : State) : Out :=
  let n := h.sess.val
  let c := if (s.session n).isOpen then s.firstCheck h 0x0101 else (0, 0)
  if !s.serves then .next s
  else if s.epochOld h then .next (s.discard h)
  else if c.1 ≠ 0 then .next ((s.stepSeq h).postMsg n 0x0101 h.tag.toNat c.1 c.2 [])
  else
    let s := s.stepSeq h
    let x := s.session n
    if s.tagUsed h then .next (s.postMsg n 0x0101 h.tag.toNat 0x15 0 [])
    else if h.flags ≠ 0 then .next (s.postMsg n 0x0101 h.tag.toNat 0x13 0 [])
    else if h.len.toNat < 8 ∨ 48 < h.len.toNat then .next (s.postMsg n 0x0101 h.tag.toNat 0x11 0 [])
    else
      match chooseMinor lo.toNat hi.toNat with
      | none => .next (s.postMsg n 0x0101 h.tag.toNat 0x21 0x0201 [])
      | some m =>
        let c := if credits.toNat = 0 ∨ 12 < credits.toNat then 12 else credits.toNat
        let k := min (max keepalive.toNat 100) 60000
        let y : Session :=
          if x.isOpen then { x with minor := m, credits := c, keepalive := k }
          else { Session.closed with
            isOpen := true, minor := m, credits := c, keepalive := k, mask := 0x18002, cmdSeq := 1, epoch := h.epoch.toNat, waiting := x.waiting }
        .next ((s.setSession n y).postMsg n 0x0101 h.tag.toNat 0 0 (s.openPayload n m c k))

/-- SESSION_CLOSE (R75): the reply is the session's last message. -/
def execSessionClose (h : FHdr) (s : State) : Out :=
  .next (s.feholt h 0x0102 0 none (fun s =>
    okR (s.closeSession h.sess true) []))

/-- SESSION_PING (R61, R77). -/
def execSessionPing (h : FHdr) (s : State) : Out := .next (s.feholt h 0x0103 0 none (fun s => okR s []))

/-- SUBSCRIBE (R79): bit k of the mask stands for class k. -/
def execSubscribe (h : FHdr) (mask : Word) (s : State) : Out :=
  .next (s.feholt h 0x0104 0 none (fun s => okR (s.setSession h.sess { s.session h.sess with mask := mask.toNat }) []))

/-- DEVICE_INFO (Table 2.14): life cycle, FEAT0–FEAT3, die-link and clock state. -/
def execDeviceInfo (h : FHdr) (s : State) : Out :=
  .next (s.feholt h 0x0105 0 none (fun s =>
    valR s 0x0105 ([s.f PLT.LCSTAT_STATE] ++ [0, 1, 2, 3].map (feat 208) ++ [s.rd SYS.DLSTAT, s.rd SYS.CLKSTAT])))

/-- KEEPALIVE_TIMEOUT (R75). -/
def execKeepaliveTimeout (n : Fin 4) (s : State) : Out :=
  .next (if s.serves && (s.session n).isOpen then s.closeSession n true else s)

/-- NO_CREDIT_REPLY (R67): a command beyond the credit limit is answered NO_CREDIT, posted as soon as a reply slot is free; one within the limit is
no such command. NO_CREDIT is judged before the sequence number (DESIGN CHOICE, log 5). -/
def execNoCreditReply (h : FHdr) (op : BitVec 15) (s : State) : Out :=
  let n := h.sess.val
  if !s.serves ∨ !s.beyondCredit n then .next s
  else if s.epochOld h then .next (s.discard h)
  else .next ((s.stepSeq h).postMsg n op.toNat h.tag.toNat 0x22 0 [])

/-- Posts what waits: replies first (R67), then queued events while they can be posted (R68): EVENTS_LOST before the others; in a 2.1 session up to
`batch` short events share an EVENT_BATCH. -/
def State.drainEvents (s : State) (n batch fuel : Nat) : State :=
  match fuel with
  | 0 => s
  | k + 1 =>
    let s := s.postWaiting n (s.session n).waiting.length
    let x := s.session n
    if !s.canPost n then s
    else if x.dropped ≠ 0 then
      ((s.setSession n { x with dropped := 0 }).postMsg n 0x8181 0xFFFF 0 0 (leBytes 4 x.dropped)).drainEvents n batch k
    else
      match x.events with
      | [] => s
      | e :: t =>
        let short := (x.events.take (min batch 6)).takeWhile (fun e => decide (e.payload.length ≤ 8) && e.tag == 0xFFFF)
        if x.minor = 1 ∧ 2 ≤ short.length then
          let vals := short.flatMap (fun e => e.opcode :: e.payload.map BitVec.toNat)
          ((s.setSession n { x with events := x.events.drop short.length }).postMsg n 0x8182 0xFFFF 0 0
            (Config.payload 0x8182 vals)).drainEvents n batch k
        else
          ((s.setSession n { x with events := t }).postMsg n e.opcode e.tag e.status 0 e.payload).drainEvents n batch k

/-- QUEUED_EVENT_POST (R68): `batch` is the number of short events the Keyblock puts into one EVENT_BATCH. -/
def execQueuedEventPost (n : Fin 4) (batch : Fin 7) (s : State) : Out :=
  .next (if s.serves && ((s.session n).isOpen || !(s.session n).waiting.isEmpty) then s.drainEvents n batch 514 else s)

/-- APPLICATION_MESSAGE (R60): the sender fills its open slot on an application channel and commits it. Sixteen words with an application
opcode on one of channels 8–31 are such a message; nothing else is. -/
def execApplicationMessage (rq : Rq) (c : Fin 64) (ws : List Word) (s : State) : Out :=
  let op := (ws.headD 0).toNat % 2 ^ 16
  let appOp := decide (0x0B40 ≤ op % 0x8000) && decide (op % 0x8000 ≤ 0x0B7F)
  if c.val < 8 ∨ 31 < c.val ∨ !appOp ∨ ws.length ≠ 16 then .next s
  else
    let i := s.f (MBX.CHSTAT_WIDX c)
    let w := (List.range 16).foldl (fun (r : Nat × State) k =>
      let q := r.2.slotWrite rq c i k (ws.getD k 0).toNat
      (if r.1 ≠ 0 then r.1 else q.1, q.2)) (0, s)
    if w.1 ≠ 0 then .next (w.2.answer w.1)
    else
      let r := w.2.chop rq c 1
      .next (r.2.answer r.1)

end Sys2Proof.Machine
end

