-- ==== Sys2Proof/Machine/FeholtConfig.lean ====
section
/-! DEFINITION. The Feholt commands that configure the block: draft commands (R78), commands that act at once, drafts and their activation
(R519–R522). -/
namespace Sys2Proof.Machine

/-! ## Draft commands -/

/-- Writes draft words that satisfy `p`. -/
def State.draftWords (s : State) (p : Nat → Bool) (ws : List RegW) : FReply := s.putWords (fun a => isDraftWord a && p a) ws

/-- Writes entries of a switch table through TBLDATA and TBLSEL, as the Keyblock in DMODE. -/
def State.draftEntries (s : State) (t : Nat) (es : List TblEnt) : FReply :=
  if es.any (fun e => decide (tblRoom t ≤ e.index.toNat)) then badR s
  else
    okR (es.foldl (fun s e =>
      let s := (((s.wr (SW.TBLDATA 0) e.d0.toNat).wr (SW.TBLDATA 1) e.d1.toNat).wr (SW.TBLDATA 2) e.d2.toNat).wr (SW.TBLDATA 3) e.d3.toNat
      s.tblSel rqKb (t + e.index.toNat * 2 ^ 16 + 2 ^ 30)) s) []

/-- PORT_CONFIG (R202, R290, R543): sealed words of the port's block, PTPCFG and TRIM. -/
def execPortConfig (h : FHdr) (p : Fin 16) (ws : List RegW) (s : State) : Out :=
  .next (s.draftCmd h 0x0301 (fun s =>
    s.draftWords (fun a => a / 0x10000 == 0x4010 + p.val || a == TMU.PTPCFG p || a == PHYA.TRIM p) ws))

/-- FDB_WRITE (R262): entries of the forwarding database, or of the VLAN table. -/
def execFdbWrite (h : FHdr) (vlan : Bool) (es : List TblEnt) (s : State) : Out :=
  .next (s.draftCmd h 0x0401 (fun s => s.draftEntries (b2n vlan) es))

/-- STREAM_WRITE (R262): entries of the stream table, or of the meter table. -/
def execStreamWrite (h : FHdr) (meter : Bool) (es : List TblEnt) (s : State) : Out :=
  .next (s.draftCmd h 0x0402 (fun s => s.draftEntries (2 + b2n meter) es))

/-- QUEUE_CONFIG (R262, R290): sealed SW words and LTPOL. -/
def execQueueConfig (h : FHdr) (ws : List RegW) (s : State) : Out :=
  .next (s.draftCmd h 0x0403 (fun s =>
    s.draftWords (fun a => a / 0x10000 == 0x4002 || (List.range 22).any (fun p => a == TMU.LTPOL p)) ws))

/-- STENCIL_WRITE (R244): the shadow bank of the port, which is then marked for the change-over. -/
def execStencilWrite (h : FHdr) (p : Fin 22) (cycle baseNs baseSec : Word) (entries : List Word) (s : State) : Out :=
  .next (s.draftCmd h 0x0404 (fun s =>
    let b := 1 - s.opbank p
    if entries.isEmpty ∨ 256 < entries.length then badR s
    else
      let head : List RegW := [⟨BitVec.ofNat 32 (SW.STH_CYCLE p b), cycle⟩, ⟨BitVec.ofNat 32 (SW.STH_BASENS p b), baseNs⟩,
        ⟨BitVec.ofNat 32 (SW.STH_BASESEC p b), baseSec⟩, ⟨BitVec.ofNat 32 (SW.STH_LEN p b), BitVec.ofNat 32 entries.length⟩]
      let list : List RegW := entries.mapIdx (fun i v => ⟨BitVec.ofNat 32 (SW.STE p b i), v⟩)
      s.putWords (fun _ => true) (head ++ list)))

/-- MARGIN of R250 for a cycle in ns: 2 × cycle × 100 ppm, rounded up to a multiple of 2 ns. -/
def marginOf (cycle : Nat) : Nat := 2 * ((cycle + 9999) / 10000)

/-- The words that RUL_CONFIG for instance `n` reaches: its own, its GDCFG, and GLOB, SAL and SAH that the instances share (R297). -/
def rulWords (n a : Nat) : Bool := rulOf a == some n || a == SW.GDCFG n || a == RUL.GLOB || a == RUL.SAL || a == RUL.SAH

/-- The guardian entry of a frame of a branch node (R311): its window opens at LOFF and closes when a frame of AREA bytes ends that starts MARGIN
and the line delay later (DESIGN CHOICE, log 79). -/
def State.guardEntry (s : State) (n margin : Nat) (g : GuardEnt) : TblEnt :=
  let area := min (max g.len.toNat 30) 1500
  let close := min (g.loff.toNat + margin + g.line.toNat + s.byteTime g.branch (area + 34)) (2 ^ 27 - 1)
  ⟨BitVec.ofNat 13 g.index, BitVec.ofNat 32 g.loff.toNat, BitVec.ofNat 32 close, BitVec.ofNat 32 (2 ^ 31 + n * 16 + g.branch), 0⟩

/-- RUL_CONFIG (R297, R250, R311): words of the instance, its guardian windows, and GDCFG with the MARGIN given or that of R250. -/
def execRulConfig (h : FHdr) (n : Fin 4) (ws : List RegW) (margin : Option (BitVec 24)) (guards : List GuardEnt) (s : State) : Out :=
  .next (s.draftCmd h 0x0601 (fun s =>
    let r := s.draftWords (rulWords n) ws
    if r.status ≠ 0 then r
    else
      let t := r.st
      let cyc := min (max (bitsOf (t.draftOf (RUL.CYCLE n)) 0 27) 12500) 100000000 / 2 * 2
      let m := match margin with | some x => x.toNat | none => marginOf cyc
      let t := t.draftWrite (SW.GDCFG n) (setBits (t.draftOf (SW.GDCFG n)) 4 24 m)
      let q := t.draftEntries 4 (guards.map (t.guardEntry n m))
      if q.status ≠ 0 then badR s else q))

/-- MARK_CONFIG (R297). -/
def execMarkConfig (h : FHdr) (n : Fin 4) (ws : List RegW) (s : State) : Out :=
  .next (s.draftCmd h 0x0602 (fun s => s.draftWords (fun a => decide (RUL.MARK n 0 ≤ a) && decide (a < RUL.MARK n 16)) ws))

/-- Writes words of a loop space through IWADDR and IWDATA. -/
def State.iwPut (s : State) (sp i : Nat) (ws : List Word) : State :=
  let s := s.setFs [(LPE.IWADDR_SPACE, sp), (LPE.IWADDR_INDEX, i), (LPE.IWADDR_AINC, 1)]
  ws.foldl (fun s w => (s.iwWrite rqKb w.toNat).2) s

/-- LOOP_WRITE (R359, R361): a record goes to the shadow space and is marked; state words are written at once and need no draft. -/
def execLoopWrite (h : FHdr) (r : LoopRec) (s : State) : Out :=
  match r with
  | .state slot ws =>
    .next (s.feholt h 0x0801 0 none (fun s => okR (ws.foldl (fun s e => s.iwPut 2 (8 * slot.val + e.1.val) [e.2]) s) []))
  | .param slot ws =>
    .next (s.draftCmd h 0x0801 (fun s =>
      if ws.length ≠ 16 then badR s else okR ((s.iwPut 1 (16 * slot.val) ws).pendset slot.val) []))
  | .rc k ws =>
    .next (s.draftCmd h 0x0801 (fun s =>
      if ws.length ≠ 16 then badR s else okR ((s.iwPut 4 (16 * k.val) ws).pendset (k.val + 0x200)) []))
  | .regs ws => .next (s.draftCmd h 0x0801 (fun s => s.draftWords (fun a => a / 0x10000 == 0x4005) ws))

/-- Bit time of NBT or DBT fields in ns (R366): BRP, TSEG1, TSEG2 as `f` gives them. -/
def canBitTime (f : FldAt → Nat) (brp t1 t2 : FldAt) : Nat := (f brp + 1) * (3 + f t1 + f t2)

/-- The limits of R367 on the draft copies of controller `k`. -/
def State.draftTimingOk (s : State) (k : Nat) : Bool :=
  let f (x : FldAt) : Nat := bitsOf (s.draftOf x.addr) x.lo x.w
  decide (1000 ≤ canBitTime f (MBUS.NBT_BRP k) (MBUS.NBT_TSEG1 k) (MBUS.NBT_TSEG2 k))
    && decide (125 ≤ canBitTime f (MBUS.DBT_BRP k) (MBUS.DBT_TSEG1 k) (MBUS.DBT_TSEG2 k))
    && decide (f (MBUS.NBT_SJW k) ≤ f (MBUS.NBT_TSEG2 k)) && decide (f (MBUS.DBT_SJW k) ≤ f (MBUS.DBT_TSEG2 k))
    && decide (f (MBUS.DBT_TDCO k) ≤ 127)

/-- MB_CONFIG (R367, R369). -/
def execMbConfig (h : FHdr) (k : Fin 8) (ws : List RegW) (s : State) : Out :=
  .next (s.draftCmd h 0x0901 (fun s =>
    let r := s.draftWords (fun a => mbOf a == some k.val) ws
    if r.status = 0 ∧ !r.st.draftTimingOk k then badR s else r))

/-- Does every medium belong to at most one enabled ring in the draft copies (R382)? -/
def State.draftMediaOk (s : State) : Bool :=
  (List.range 12).all (fun c =>
    decide (([0, 1, 2, 3].filter (fun r => bitOf (s.draftOf (NMG.RINGCFG r)) 0 && bitOf (s.draftOf (NMG.RINGMED r)) c)).length ≤ 1))

/-- NM_CONFIG (R382, R392). -/
def execNmConfig (h : FHdr) (ws : List RegW) (s : State) : Out :=
  .next (s.draftCmd h 0x0A01 (fun s =>
    let r := s.draftWords (fun a => a / 0x10000 == 0x400C || (a / 0x10000 == 0x4040 && decide (a % 0x10000 < 0x4000))) ws
    if r.status = 0 ∧ !r.st.draftMediaOk then badR s else r))

/-! ## Commands that act at once -/

/-- TIME_SET (R273): refused with BAD_PARAM or CONFLICT as the step is. -/
def execTimeSet (h : FHdr) (sec : BitVec 48) (ns : Word) (s : State) : Out :=
  .next (s.feholt h 0x0502 0 none (fun s =>
    if 999999999 < ns.toNat then badR (s.setF TMU.STAT_STEPREJ 1)
    else
      let ok := s.f TMU.STAT_STATE == 0 && !s.anyRuns
      let t := (s.setFs [(TMU.SETSECL_SEC, sec.toNat % 2 ^ 32), (TMU.SETSECH_SEC, sec.toNat / 2 ^ 32), (TMU.SETNS_NS, ns.toNat)]).tmuCtl 8
      if ok then okR t [] else errR t 0x46))

/-- SERVO_CONFIG (R290). -/
def execServoConfig (h : FHdr) (ws : List RegW) (s : State) : Out :=
  .next (s.feholt h 0x0503 0 none (fun s =>
    s.putWords (fun a => a == TMU.SRVCFG || a == TMU.SYNCBND || a == TMU.LTCFG || a == TMU.MBCCFG) ws))

/-- TIO_CONFIG (R290, R284): TIO registers and PPSOUT; `ask` says for which pins captures post TIME_CAPTURE. -/
def execTioConfig (h : FHdr) (ws : List RegW) (ask : List (Fin 5 × Bool)) (s : State) : Out :=
  .next (s.feholt h 0x0504 0 none (fun s =>
    let r := s.putWords (fun a => isRegWord a && decide (TMU.TIOCFG 0 ≤ a) && decide (a ≤ TMU.PPSOUT)) ws
    if r.status ≠ 0 then r
    else okR (ask.foldl (fun s e =>
      let l := s.tioAsk.filter (fun x => x != e.1.val)
      { s with tioAsk := if e.2 then l ++ [e.1.val] else l }) r.st) []))

/-- RUL_START (R291, R297): BAD_PARAM when a check fails. -/
def execRulStart (h : FHdr) (n : Fin 4) (s : State) : Out :=
  .next (s.feholt h 0x0603 0 none (fun s =>
    let t := s.runSet n true
    if s.rulChecks n then okR t [] else badR t))

/-- RUL_STOP (R297). -/
def execRulStop (h : FHdr) (n : Fin 4) (s : State) : Out := .next (s.feholt h 0x0604 0 none (fun s => okR (s.runSet n false) []))

/-- IMAGE_DEFINE (R320, R324, R438): words of the image's registers, IMGCFG among them. -/
def execImageDefine (h : FHdr) (i : Fin 256) (ws : List RegW) (s : State) : Out :=
  .next (s.feholt h 0x0701 0 none (fun s =>
    if s.on (PLT.IMGCFG_EN i) then errR s 0x46
    else
      let r := s.putWords (fun a => isRegWord a && decide (PLT.IMGCFG i ≤ a) && decide (a ≤ PLT.IMGSIZE i)) ws
      if r.status = 0x30 ∨ (r.st.on (PLT.IMGCFG_MIRROR i) && r.st.imgMBase i != mirrorOf (r.st.imgBase i)) then badR s else r))

/-- TSG_CONFIG (R363). -/
def execTsgConfig (h : FHdr) (ws : List RegW) (s : State) : Out :=
  .next (s.feholt h 0x0804 0 none (fun s =>
    s.putWords (fun a => isRegWord a && decide (LPE.TSGCFG 0 ≤ a) && decide (a < LPE.TSGCFG 16)) ws))

/-- SLEEP_REQUEST (R384). -/
def execSleepRequest (h : FHdr) (r : Fin 4) (s : State) : Out :=
  .next (s.feholt h 0x0A02 0 none (fun s => okR (s.ringLocal r true) []))

/-- WAKE_REQUEST (R384, R387): LOCAL is cleared, and a local wake request is made. -/
def execWakeRequest (h : FHdr) (r : Fin 4) (s : State) : Out :=
  .next (s.feholt h 0x0A03 0 none (fun s => okR ((s.ringLocal r false).wakeRing r true) []))

/-- CORE_CONFIG (R413). -/
def execCoreConfig (h : FHdr) (ws : List RegW) (s : State) : Out :=
  .next (s.feholt h 0x0B02 0 none (fun s =>
    s.putWords (fun a => a == WSC.CFG || (isRegWord a && decide (WSC.CORECFG 0 ≤ a) && decide (a < WSC.CORECFG 16) && a % 16 == 0)
      || (List.range 2).any (fun f => a == WSC.HSQCFG f || a == WSC.HSQBASE f)
      || (isRegWord a && decide (WSC.TPL 0 0 ≤ a) && decide (a < WSC.TPLCFG 80))) ws))

/-- EPOCH_CONFIG (R526). -/
def execEpochConfig (h : FHdr) (ws : List RegW) (s : State) : Out :=
  .next (s.feholt h 0x0C01 0 none (fun s => s.putWords (fun a => a % 4 == 0 && decide (OBS.EPCFG ≤ a) && decide (a ≤ OBS.EPBASESEC)) ws))

/-- STIPPLE_CONFIG (R526). -/
def execStippleConfig (h : FHdr) (ws : List RegW) (s : State) : Out :=
  .next (s.feholt h 0x0C03 0 none (fun s =>
    s.putWords (fun a => isRegWord a && decide (OBS.STPCFG 0 ≤ a) && decide (a < OBS.STPCFG 32)) ws))

/-! ## Drafts -/

/-- DRAFT_OPEN (R522): at most one draft on the device. -/
def execDraftOpen (h : FHdr) (s : State) : Out :=
  .next (s.feholt h 0x0D01 0 none (fun s =>
    match s.draftOwner with
    | some n => if n = h.sess.val then okR s [] else errR s 0x46
    | none => okR { s.setF OBS.ACTCTL_DMODE 1 with draftOwner := some h.sess.val } []))

/-- DRAFT_WRITE (R519). -/
def execDraftWrite (h : FHdr) (ws : List RegW) (s : State) : Out :=
  .next (s.draftCmd h 0x0D02 (fun s => s.draftWords (fun _ => true) ws))

/-- The slowest cycle of a running Ruling instance, in ns. -/
def State.slowestCycle (s : State) : Option Nat :=
  [0, 1, 2, 3].foldl (fun m n => if s.ttRuns n then some (max (m.getD 0) (s.ttCycle n)) else m) none

/-- Is the instant `t` less than two cycles of a running instance ahead (R78)? -/
def State.tooNear (s : State) (t : Nat) : Bool := [0, 1, 2, 3].any (fun n => s.ttRuns n && decide (t < s.now + 2 * s.ttCycle n))

/-- Does every pending parameter record with EN = 1 pass Table 12.6 (R360)? -/
def State.marksOk (s : State) : Bool :=
  s.lpMarks.all (fun k =>
    if 0x200 ≤ k ∨ !bitOf (s.lpW 1 (16 * k)) 0 then true
    else
      let r := bitsOf (s.lpW 1 (16 * k)) 11 5
      s.lpCheck k (fun w => s.lpW 1 (16 * k + w)) (fun w => if s.lpMarks.contains (0x200 + r) then s.lpW 4 (16 * r + w) else s.lpRc r w))

/-- Does a marked Stencil list keep its CYCLE within 10 ms of the slowest running cycle (R522)? -/
def State.stencilOk (s : State) : Bool :=
  match s.slowestCycle with
  | none => true
  | some c => s.stMark.all (fun p => decide (s.stCycle p (1 - s.opbank p) ≤ c + 10000000))

/-- Checks of DRAFT_ACTIVATE (R78, R360, R522): status, 0 when all hold. -/
def State.activateStatus (s : State) (n t epoch expect : Nat) : Nat :=
  let d := sub32 epoch (s.f OBS.RUNEPOCH_E)
  if s.draftOwner ≠ some n then 0x23
  else if d = 0 ∨ 2 ^ 31 ≤ d ∨ !s.marksOk ∨ !s.stencilOk then 0x12
  else if expect ≠ 0 ∧ expect ≠ s.sealNow then 0x63
  else if s.tooNear t then 0x62
  else 0

/-- DRAFT_ACTIVATE (R78, R520, R521): the checks, then the activation is armed; the completion follows it. -/
def execDraftActivate (h : FHdr) (ns sec epoch : Word) (expect : BitVec 64) (refEn : Bool) (refTt : Fin 4) (s : State) : Out :=
  .next (s.feholt h 0x0D03 0 (some (.draftActivate h ns sec epoch expect refEn refTt)) (fun s =>
    let e := s.activateStatus h.sess (s.fullTime (ns.toNat % 2 ^ 30) sec.toNat) epoch.toNat expect.toNat
    if e = 0x12 then badR s
    else if e ≠ 0 then errR s e
    else
      let t := s.setFs [(OBS.ACTNS_NS, ns.toNat % 2 ^ 30), (OBS.ACTSEC_SEC, sec.toNat), (OBS.ACTEPOCH_E, epoch.toNat),
        (OBS.ACTSTAT_DONE, 0), (OBS.ACTSTAT_LATE, 0)]
      okR (t.actCtl (1 + 2 + refTt.val * 0x10 + b2n refEn * 0x40)) []))

/-- DRAFT_DISCARD (R522). -/
def execDraftDiscard (h : FHdr) (s : State) : Out :=
  .next (s.feholt h 0x0D04 0 none (fun s =>
    if s.draftOwner = some h.sess.val then okR { s.revert.setF OBS.ACTCTL_DMODE 0 with draftOwner := none } [] else errR s 0x23))

/-- DRAFT_COPY_WRITE (R519): a Keyblock write that lands in a draft copy while DMODE is 1. -/
def execDraftCopyWrite (rq : Rq) (addr val : Word) (s : State) : Out :=
  if !s.canReach ⟨rq, .fabric 0xB3, true, addr, 4, leBytes 4 val.toNat⟩ then .next s
  else
    let r := s.fabWrite 0xB3 rq addr.toNat (leBytes 4 val.toNat)
    .next (r.2.answer r.1)

end Sys2Proof.Machine
end

