-- ==== Sys2Proof/Machine/Proof.lean ====
section
/-! DEFINITION. The Proof (R472–R474, R476). -/
namespace Sys2Proof.Machine

/-- Words of consecutive registers as the Keyblock reads them with PEEK set. -/
def State.peekWords (s : State) (a n : Nat) : List Byte := (List.range n).flatMap (fun i => (s.busRead rqKb (a + 4 * i) 4).2.1)

/-- A section (Table 17.13): header, then the body padded with 0 to a multiple of 16. -/
def proofSection (unit typ addr : Nat) (body : List Byte) : List Byte :=
  leBytes 4 (unit + typ * 0x10000) ++ leBytes 4 body.length ++ leBytes 4 (crc32 body) ++ leBytes 4 addr
    ++ body ++ List.replicate ((16 - body.length % 16) % 16) 0

/-- Register ranges of Table 17.14: unit index and (address, bytes) pairs. The rows "Plate" and "Clocks, die link" name more than one
index and the fault hub none: `f` gives theirs. -/
def proofRanges (f : Nat → Nat) : List (Nat × List (Nat × Nat)) :=
  (List.range 24).map (fun n => (n, [(CC.ENGCTL (n / 3) (n % 3), 0x500)]))
  ++ (List.range 8).map (fun c => (0x18 + c, [(CC.SPERR c, 4), (CC.BCTL c 0, 0x2204)]))
  ++ (List.range 16).map (fun n => (0x20 + n, [(WSC.CORECFG n, 0x10)]))
  ++ (List.range 4).map (fun n => (0x34 + n, [(DM.CTL n, 0x10), (DM.CHCFG n 0, 0x400)]))
  ++ (List.range 16).map (fun p => (0x80 + p, [(PORT.CTL p, 0x48)]))
  ++ [(0xA8, [(0x40020000, 0xB80)]), (0xA9, [(TMU.CTL, 0x58)])]
  ++ (List.range 4).map (fun n => (0xAA + n, [(RUL.CTL n, 0x3C)]))
  ++ [(0xAE, [(LPE.CTL, 0x50)]), (0xAF, [(WSC.CFG, 0x300)]), (0xB0, [(0x40018000, 0x1000)]), (0xB1, [(PLT.IMGCTXOP, 0x4100)]),
    (f 0, [(PLT.CFG, 0x288)]), (f 1, [(SYS.CLKCTL, 0x14)]), (0xB8, [(BRN.CTL, 0x18)]), (f 2, [(FLT.STAT, 0x64)])]

/-- Units of Table 17.3 with a valid record, in index order. -/
def State.recordUnits (s : State) : List Nat := (List.range 354).filter (fun u => s.on (FLT.REC0_V u))

/-- The Tracing entries, oldest first: with a full RAM the oldest stands at WPTR. -/
def State.traceBytes (s : State) : List Byte :=
  let w := s.f WSC.TRCTL_WPTR
  (List.range 16384).flatMap (fun i =>
    (List.range 4).flatMap (fun k => leBytes 4 (tabGet s.trace 0 (4 * ((w + i) % 16384) + k)).toNat))

/-- The sections in the order of R474. -/
def State.proofSections (s : State) (f : Nat → Nat) : List (List Byte) :=
  s.recordUnits.map (fun u => proofSection u 1 0 (s.peekWords (FLT.REC0 u) 8))
  ++ (proofRanges f).map (fun r => proofSection r.1 2 (r.2.headD (0, 0)).1 (r.2.flatMap (fun p => s.peekWords p.1 (p.2 / 4))))
  ++ [proofSection 0xAF 3 0 s.traceBytes]

/-- The sections that fit into `room` bytes. -/
def fitSections (l : List (List Byte)) (room : Nat) : List (List Byte) :=
  match l with
  | [] => []
  | x :: t => if x.length ≤ room then x :: fitSections t (room - x.length) else []

/-- Writes bytes in blocks of 64; was every write answered OK? -/
def State.proofPut (s : State) (a : Nat) (bs : List Byte) : Bool × State :=
  (List.range ((bs.length + 63) / 64)).foldl (fun r i =>
    let q := r.2.busWrite rqKb (a + 64 * i) ((bs.drop (64 * i)).take 64)
    (r.1 && q.1 == 0, q.2)) (true, s)

/-- Writes the Proof of kind `kind` about unit `u` (R472–R474). -/
def State.writeProof (s : State) (kind u : Nat) : State :=
  let s := s.setF FLT.CTL_PEEK 1
  let p := s.free
  let q := p.2.free
  let r := q.2.free
  let s := r.2
  let f (i : Nat) : Nat := (if i = 0 then p.1 else if i = 1 then q.1 else r.1).toNat % 512
  let rom : Bool := s.romDue || s.f SYS.BOOTSTAT_STAGE != 4
  let all := s.proofSections f
  let l := fitSections all (0x100000 - 0x100)
  let body := l.flatten
  let base := 0x100000 * s.f FLT.PROOFBASE_ADDR
  let w := s.proofPut (base + 0x100) body
  let t := w.2
  let flags := kind + (if rom then 1 else 2) * 0x100 + b2n (l.length < all.length) * 0x10000 + b2n (!w.1) * 0x20000
  let word (x : Nat) : List Byte := leBytes 4 x
  let head := word 0x464F5250 ++ word 0x10000 ++ word flags ++ word (0x100 + body.length) ++ word l.length
    ++ word (s.f FLT.PROOFSTAT_COUNT + 1) ++ leBytes 8 s.sealNow ++ word (s.f OBS.RUNEPOCH_E) ++ word (s.f PLT.LCSTAT_STATE)
    ++ word (s.f (FLT.REC_TNS_TNS u)) ++ word (s.f (FLT.REC_TSEC_TSEC u)) ++ word (s.nowSec / 2 ^ 32) ++ word (feat 208 3)
    ++ word (if rom then 0 else Config.fwVersion.toNat) ++ word (s.rd FLT.STAT) ++ s.peekWords (FLT.REC0 u) 8 ++ word u
  let head := head ++ List.replicate (0xF8 - head.length) 0
  let head := head ++ word (crc32 head) ++ word 0
  let h := t.proofPut base head
  let t := h.2
  if h.1 then
    let t := (t.setFs [(FLT.PROOFSTAT_VALID, 1), (FLT.PROOFSTAT_KIND, kind), (FLT.PROOFSTAT_FLASH, 0)]).bump FLT.PROOFSTAT_COUNT
    let t := t.postEvent 0x8F81 [kind, 0x100 + body.length]
    if t.on FLT.CFG_FCOPY then (t.flashWrite 0x10000 0x100000 (head ++ body)).setF FLT.PROOFSTAT_FLASH 1 else t
  else t

/-- PROOF_WRITE (R457, R470, R472, R474): KIND 1 of a Fatal fault, KIND 2 in DEGRADED, of the second fault, or of the Keyblock's restart when its ROM
found no valid firmware (R467; DESIGN CHOICE, log 85); the held Proof is kept unless R472 lets the new one replace it. -/
def execProofWrite (s : State) : Out :=
  let fatal := s.f FLT.STAT_STATE = 3
  if !s.kbUp ∨ s.f BRN.STAT_STATE = 3 ∨ s.f FLT.STAT_STATE < 2 then .next s
  else
    let kind := if fatal then 1 else 2
    let u := if fatal then s.f FLT.FIRST_UNIT else if s.on FLT.STAT_SECOND then s.secondUnit else 0xB3
    if s.on FLT.PROOFBASE_V ∧ (!s.on FLT.PROOFSTAT_VALID ∨ (s.f FLT.PROOFSTAT_KIND = 2 ∧ kind = 1)) then .next (s.writeProof kind u)
    else .next (s.bump FLT.PROOFSTAT_SKIP)

end Sys2Proof.Machine
end

