-- ==== Sys2Proof/Machine/FeholtData.lean ====
section
/-! DEFINITION. The Feholt commands that read, load personalities, set power states and install images, and the completions of long commands
(Tables 2.13, 2.14, 5.11, 18.2; R169, R358, R476, R480, R504, R511, R524). -/
namespace Sys2Proof.Machine

/-! ## Reads -/

/-- Register words as the firmware reads them. -/
def State.fwRead (s : State) (l : List Nat) : List Nat × State :=
  l.foldl (fun (r : List Nat × State) a =>
    let q := r.2.regRead rqKb a
    (r.1 ++ [q.2.1], q.2.2)) ([], s)

/-- A reply with register words. -/
def State.regReply (s : State) (op : Nat) (l : List Nat) : FReply := let r := s.fwRead l; valR r.2 op r.1

/-- PORT_STATUS (R77). -/
def execPortStatus (h : FHdr) (p : Fin 16) (s : State) : Out :=
  .next (s.feholt h 0x0302 0 none (fun s => s.regReply 0x0302 [PORT.CTL p, PORT.STAT p]))

/-- PORT_COUNTERS (R77): the port's impression counters (Table 19.4). -/
def execPortCounters (h : FHdr) (p : Fin 16) (s : State) : Out :=
  .next (s.feholt h 0x0303 0 none (fun s =>
    let c (i : Nat) : Nat := tabGet s.obs.cnt 0 i
    valR s 0x0303 ((List.range 11).map (fun k => c (0x6FC + 11 * p + k)) ++ (List.range 4).map (fun k => c (0x7AC + 4 * p + k)))))

/-- TIME_GET (R77). -/
def execTimeGet (h : FHdr) (s : State) : Out :=
  .next (s.feholt h 0x0501 0 none (fun s => valR s 0x0501 [s.nowSec, s.nowNs, s.nowFrac]))

/-- IMAGE_MAP (R77): BAR2 offsets of the buffers and the header, and the image's lease register. -/
def execImageMap (h : FHdr) (i : Fin 256) (s : State) : Out :=
  .next (s.feholt h 0x0702 0 none (fun s =>
    if s.on (PLT.IMGCFG_EN i) then
      valR s 0x0702 ([0, 1, 2].map (fun b => s.imgBuf i b - plateLo) ++ [s.imgHdr i - plateLo, PLT.IMGCFG i + 0x1C])
    else errR s 0x44))

/-- LOOP_READ (R77): the parameter and the state record of a slot; the state word that a read clears is cleared (Table 12.10). -/
def execLoopRead (h : FHdr) (slot : Fin 512) (s : State) : Out :=
  .next (s.feholt h 0x0803 0 none (fun s =>
    let vals := (List.range 16).map (s.lpPar slot) ++ (List.range 8).map (s.lpSt slot)
    valR (s.lpSet 2 (8 * slot.val + 7) 0) 0x0803 vals))

/-- MB_STATUS (R77). -/
def execMbStatus (h : FHdr) (k : Fin 8) (s : State) : Out :=
  .next (s.feholt h 0x0902 0 none (fun s => s.regReply 0x0902 [MBUS.CTL k, MBUS.STAT k, MBUS.ERRC k]))

/-- SCHED_STATS (R77): depths and waits of the queues, states and loads of the cores. -/
def execSchedStats (h : FHdr) (s : State) : Out :=
  .next (s.feholt h 0x0B01 0 none (fun s =>
    let q := (List.range 25).map s.qstat
    valR s 0x0B01 (q ++ (List.range 16).flatMap (fun n => [s.rd (WSC.CORESTAT n), s.rd (WSC.LOAD n)]))))

/-- SEAL_GET (R77). -/
def execSealGet (h : FHdr) (s : State) : Out :=
  .next (s.feholt h 0x0D05 0 none (fun s => valR s 0x0D05 [s.sealNow % 2 ^ 32, s.sealNow / 2 ^ 32, s.f OBS.RUNEPOCH_E]))

/-- FAULT_READ (R77): the record of a unit. -/
def execFaultRead (h : FHdr) (u : Fin 354) (s : State) : Out :=
  .next (s.feholt h 0x0F01 0 none (fun s => valR s 0x0F01 ((List.range 8).map (fun w => s.rd (FLT.REC0 u + 4 * w)))))

/-- POWER_GET (R77). -/
def execPowerGet (h : FHdr) (s : State) : Out :=
  .next (s.feholt h 0x1002 0 none (fun s =>
    valR s 0x1002 ([s.rd SYS.PWRSTAT] ++ (List.range 4).map (fun n => s.rd (SYS.RGCTL n)) ++ (List.range 12).map (fun c => s.rd (SYS.DOZE c)))))

/-- A reply or completion with a bulk buffer: bytes written and their CRC-32 (R64). -/
def State.bulkReply (s : State) (n : Nat) (flags : Nat) (b : Option Bulk) (bs : List Byte) : FReply :=
  match b with
  | none => errR s 0x13
  | some b =>
    let r := s.bulkWrite n (bitOf flags 2) b bs
    if r.1 ≠ 0 then errR s 0x50 else okR r.2.2 (leBytes 4 r.2.1.length ++ leBytes 4 (crc32 r.2.1))

/-- An entry of the topology table as TOPOLOGY_READ returns it: 64 bytes in the layout of the Puset kit. -/
def neighBytes (e : Neigh) : List Byte :=
  let t := e.tlv.getD (0, 0, 0)
  let b := (Config.payload 0x0E01 ([e.src, e.via, b2n e.tlv.isSome, t.1, t.2.1, t.2.2, e.ttl, e.since, e.seen] ++ e.addr.map BitVec.toNat)).take 64
  b ++ List.replicate (64 - b.length) 0

/-- TOPOLOGY_READ (R524): a header with the count of entries and of neighbours not entered, then the entries; in the payload without a bulk
buffer. -/
def execTopologyRead (h : FHdr) (s : State) : Out :=
  .next (s.feholt h 0x0E01 0 none (fun s =>
    if bitOf h.flags.toNat 0 then
      if bitOf h.flags.toNat 3 then
        let head := (Config.payload 0x0E01 [s.neigh.length, s.neighLost]).take 64
        s.bulkReply h.sess h.flags.toNat h.bulk (head ++ List.replicate (64 - head.length) 0 ++ s.neigh.flatMap neighBytes)
      else errR s 0x13
    else valR s 0x0E01 [s.neigh.length, s.neighLost]))

/-! ## Long commands that copy to the host -/

/-- CAPTURE_READ (R358, R363): the capture registers given are written at once; the samples follow with the completion. -/
def execCaptureRead (h : FHdr) (c : Fin 4) (ws : List RegW) (s : State) : Out :=
  .next (s.feholt h 0x0802 2 (some (.captureRead h c ws)) (fun s =>
    s.putWords (fun a => a == LPE.CAPCFG c || a == LPE.CAPLEN c || a == LPE.CAPSTAT c) ws))

/-- Samples of capture channel `c` as bytes; a word with an uncorrectable error reads as the quiet NaN and is recorded (Table 12.7). -/
def State.captureBytes (s : State) (c : Nat) : List Byte × State :=
  let k := List.range (s.f (LPE.CAPSTAT_COUNT c))
  let bad (i : Nat) : Bool := s.lpBad 6 (65536 * c + i)
  let w (i : Nat) : Nat := if bad i then 0x7FC00000 else s.lpW 6 (65536 * c + i)
  (k.flatMap (fun i => leBytes 4 (w i)), if k.any bad then s.lpFault 4 c else s)

/-- IMPRESSION_READ (R511): NOT_FOUND when the slot has never been filled. -/
def execImpressionRead (h : FHdr) (slot : Fin 2) (s : State) : Out :=
  .next (s.feholt h 0x0C02 2 (some (.impressionRead h slot)) (fun s =>
    if tabHas s.obs.imp slot.val then okR s [] else errR s 0x44))

/-- PROOF_FETCH (R476). -/
def execProofFetch (h : FHdr) (s : State) : Out :=
  .next (s.feholt h 0x0F02 2 (some (.proofFetch h)) (fun s => if s.on FLT.PROOFSTAT_VALID then okR s [] else errR s 0x44))

/-- The bytes of the Proof that a fetch copies: code, bytes, state. -/
def State.proofRead (s : State) : Nat × List Byte × State :=
  let a := 0x100000 * s.f FLT.PROOFBASE_ADDR
  let r := s.plateAccess rqKb false (a + 0xC) 4 []
  if r.1 ≠ 0 then (r.1, [], r.2.2)
  else
    let n := min (leNat r.2.1) 0x100000
    (blockParts a n).foldl (fun (q : Nat × List Byte × State) p =>
      let x := q.2.2.plateAccess rqKb false p.1 p.2 []
      (if q.1 ≠ 0 then q.1 else x.1, q.2.1 ++ x.2.1, x.2.2)) (0, ([] : List Byte), r.2.2)

/-- PROOF_CLEAR (R476). -/
def execProofClear (h : FHdr) (s : State) : Out :=
  .next (s.feholt h 0x0F03 0 none (fun s =>
    let t := (s.proofPut (0x100000 * s.f FLT.PROOFBASE_ADDR) (List.replicate 0x100 0)).2
    okR (t.setF FLT.PROOFSTAT_VALID 0) []))

/-- SCAN (R524). -/
def execScan (h : FHdr) (s : State) : Out := .next (s.feholt h 0x0E02 0 (some (.scan h)) (fun s => okR s []))

/-- The end of a scan: partners listed enter or are renewed, entries of personalities that were not found are removed. -/
def State.scanEnd (s : State) (found : List ScanFound) : State :=
  let now := s.ticks / 500000
  let s := found.foldl (fun s x => (s.neighSeen ⟨1 + x.cpf.toNat, x.key.toNat, x.addr, none, 0, now, now⟩).2) s
  let gone (e : Neigh) : Bool :=
    e.src != 0 && !found.any (fun x => 1 + x.cpf.toNat == e.src && x.key.toNat == e.via && x.addr == e.addr)
  (List.range s.neigh.length).reverse.foldl (fun s i =>
    match s.neigh[i]? with
    | some e => if gone e then s.neighDrop i else s
    | none => s) s

/-! ## Personalities (R169–R171) -/

/-- The personality that thread `th` belongs to. -/
def State.persOf (s : State) (th : Nat) : Option Pers := s.pers.find? (fun p => p.threads.contains th)

/-- Does a thread hold a context? -/
def State.holdsContext (s : State) (th : Nat) : Bool := s.pers.any (fun p => p.threads.contains th || p.standbys.contains th)

/-- Region of engine `n`. -/
def regionOfCe (n : Nat) : Nat := n / 6

/-- PERS_LOAD: the long command starts, unless the engine's region is off (R85). -/
def execPersLoad (h : FHdr) (ce : Fin 24) (ts : List PersThread) (claims : List RegW) (s : State) : Out :=
  .next (s.feholt h 0x0201 1 (some (.persLoad h ce ts claims)) (fun s =>
    if s.regionDown (regionOfCe ce) then errR s 0x43 else okR s []))

/-- Base and size in bytes of a THIMEM or THDMEM word. -/
def partOf (w : Nat) : Nat × Nat := (bitsOf w 0 6 * 1024, bitsOf w 8 7 * 1024)

/-- WINC of a Ruling window. -/
def winClaim (a : Nat) : Bool := (List.range 4).any (fun t => (List.range 256).any (fun w => a == RUL.WINC t w))

/-- Resources whose owner a register holds (Table 5.12): Burin engines of the cluster and its pins (CC.PINOWN), rings of the region's port, channels of
its Pantograph instance, Ruling windows. PERS_LOAD writes it with the value claimed. -/
def ownerReg (n a : Nat) : Bool :=
  (List.range 8).any (fun k => a == CC.BOWN (n / 3) k) || (List.range 16).any (fun j => a == DM.CHCFG (regionOfCe n) j || a == SW.RCFG (regionOfCe n) j)
    || a == CC.PINOWN (n / 3) || winClaim a

/-- A KiB of the cluster's scratchpad, by its address. -/
def padClaim (n a : Nat) : Bool :=
  let b := 0x20000000 + n / 3 * 0xC0000 + 0x20000
  decide (b ≤ a) && decide (a < b + 0x20000) && a % 1024 == 0

/-- A process image of the region, by IMGCFG. -/
def State.imageClaim (s : State) (n a : Nat) : Bool :=
  (List.range 256).any (fun i => a == PLT.IMGCFG i && s.f (PLT.IMGCFG_REGION i) == regionOfCe n)

/-- A message-bus controller, a mailbox channel or a claim register, by its first word. -/
def mbClaim (a : Nat) : Bool := (List.range 8).any (fun k => a == 0x400B0000 + 0x1000 * k)
def chanClaim (a : Nat) : Option Nat := (List.range 64).find? (fun c => decide (8 ≤ c) && a == MBX.CHCFG c)
def clmClaim (a : Nat) : Bool := (List.range 256).any (fun k => a == MBX.CLM k)

/-- Is the address a resource that a load on engine `n` may claim (Table 5.12)? A claim of CC.PINOWN claims the pins whose V is 1 in the value, a claim
of a Ruling window (WINC) writes it when OV is 1 in the value, a claim of a process image when bit 0 (EN) is; else it only reads (DESIGN CHOICE,
log 24). -/
def State.claimable (s : State) (n a : Nat) : Bool :=
  ownerReg n a || padClaim n a || s.imageClaim n a || mbClaim a || (chanClaim a).isSome || clmClaim a

/-- Is a claimed channel not bound to the engine's identity (R170)? -/
def State.unbound (s : State) (n a : Nat) : Bool :=
  match chanClaim a with
  | some c => !(s.isSender c (0x10 + n) || s.isReceiver c (0x10 + n))
  | none => false

/-- Is the address IMGCFG of a process image? -/
def imageReg (a : Nat) : Bool := (List.range 256).any (fun i => a == PLT.IMGCFG i)

/-- Pins of cluster `n / 3` that a value of CC.PINOWN owns, each under a number of its own beyond every address. -/
def claimPins (n : Nat) (v : Nat) : List Nat := ((List.range 8).filter (fun i => bitOf v (4 * i + 3))).map (fun i => 2 ^ 33 + 8 * (n / 3) + i)

/-- What a claim makes the personality's alone (Table 5.12): each pin, the writing of a window or image, any other resource but claim registers, which
are shared, and channels, which are held per binding. -/
def heldAlone (n : Nat) (w : RegW) : List Nat :=
  let a := w.addr.toNat
  if a = CC.PINOWN (n / 3) then claimPins n w.val.toNat
  else if clmClaim a || (chanClaim a).isSome || (winClaim a && !bitOf w.val.toNat 24) || (imageReg a && !bitOf w.val.toNat 0) then []
  else [a]

/-- A claim that a register takes: a reader's claim of a window takes none. -/
def takesReg (n : Nat) (w : RegW) : Bool := ownerReg n w.addr.toNat && !(heldAlone n w).isEmpty

/-- The word that `v` makes of CC.PINOWN when it claims its pins: the others stay. -/
def pinMerge (old v : Nat) : Nat :=
  (List.range 8).foldl (fun x i => if bitOf v (4 * i + 3) then setBits x (4 * i) 4 (bitsOf v (4 * i) 4) else x) old

/-- What a claim writes into its owner register. -/
def State.claimVal (s : State) (n : Nat) (w : RegW) : RegW :=
  if w.addr.toNat = CC.PINOWN (n / 3) then ⟨w.addr, BitVec.ofNat 32 (pinMerge (s.rd (CC.PINOWN (n / 3))) w.val.toNat)⟩ else w

/-- What gives back what a personality on engine `n` holds in owner registers: pins lose their owner, every other register takes its reset value. -/
def State.freeClaims (s : State) (n : Nat) (held : List Nat) : List RegW :=
  let pins := held.filter (fun a => decide (2 ^ 33 ≤ a))
  let own := (held.filter (ownerReg n)).map (fun a => (⟨BitVec.ofNat 32 a, resetWord a⟩ : RegW))
  if pins.isEmpty then own
  else ⟨BitVec.ofNat 32 (CC.PINOWN (n / 3)), BitVec.ofNat 32 (pins.foldl (fun x a => setBits x (4 * (a % 8)) 4 0) (s.rd (CC.PINOWN (n / 3))))⟩ :: own

/-- May thread `u` stand by for a context of engine `n` with these claims (Table 5.9)? -/
def State.failoverOk (s : State) (n u : Nat) (claims : List RegW) : Bool :=
  let m := u / 8
  let has (p : Nat → Bool) : Bool := claims.any (fun w => p w.addr.toNat)
  if has (fun a => padClaim n a || a == CC.PINOWN (n / 3) || (List.range 8).any (fun k => a == CC.BOWN (n / 3) k)) then m != n && m / 3 == n / 3
  else if has (fun a => s.imageClaim n a || (List.range 16).any (fun j => a == DM.CHCFG (regionOfCe n) j || a == SW.RCFG (regionOfCe n) j)) then
    regionOfCe m == regionOfCe n
  else true

/-- Step 3 of Table 5.11 for one thread. -/
def persThreadOk (p : PersThread) : Bool :=
  let i := partOf p.imem.toNat
  let d := partOf p.dmem.toNat
  decide (i.1 + i.2 ≤ 65536) && decide (d.1 + d.2 ≤ 65536) && decide (p.code.length ≤ i.2) && decide (p.data.length ≤ d.2)
    && decide (bitsOf p.ckwin.toNat 24 7 ≤ 64)

/-- Do two partitions have a byte in common? -/
def partsMeet (p q : Nat × Nat) : Bool := p.2 != 0 && q.2 != 0 && overlaps p.1 p.2 q.1 q.2

/-- Do partitions of a thread of the load meet those of another personality on engine `n` (R149)? -/
def State.partMeets (s : State) (n : Nat) (p : PersThread) : Bool :=
  (List.range 8).any (fun t =>
    let th := 8 * n + t
    let i := partOf p.imem.toNat
    let d := partOf p.dmem.toNat
    let oi := partOf (s.rd (ofTh CC.THIMEM th))
    let od := partOf (s.rd (ofTh CC.THDMEM th))
    s.holdsContext th && (partsMeet i oi || partsMeet d od))

/-- Is thread `th` STOPPED without a context? -/
def State.threadFree (s : State) (th : Nat) : Bool := s.thState th == 0 && !s.holdsContext th

/-- Checks 2 to 4 of Table 5.11: status, 0 when all hold. `sig`: the signature verifies, with the production key or not. Which status step 3 gives to
which claim is a choice (log 24): NO_RESOURCE to a channel that is not bound to the engine, CONFLICT to what another personality holds. -/
def State.loadStatus (s : State) (n : Nat) (ts : List PersThread) (claims : List RegW) (sig : Option Bool) : Nat :=
  let mine := ts.map (fun p => 8 * n + p.th.val)
  let stand := ts.filterMap (fun p => p.standby.map Fin.val)
  match sig with
  | none => 0x60
  | some prod =>
    if !s.imageAllowed prod then 0x31
    else if ts.isEmpty ∨ !decide (mine ++ stand).Nodup ∨ ts.any (fun p => !persThreadOk p)
        ∨ claims.any (fun w => !s.claimable n w.addr.toNat) then 0x12
    else if claims.any (fun w => s.unbound n w.addr.toNat) then 0x45
    else if ts.any (s.partMeets n) ∨ claims.any (fun w => (heldAlone n w).any (fun k => s.pers.any (fun p => p.claims.contains k))) then 0x46
    else if mine.any (fun th => !s.threadFree th) then 0x46
    else 0

/-- May thread `u` take the standby of a load on engine `n` (step 8; R167)? -/
def State.standbyOk (s : State) (n : Nat) (p : PersThread) (u : Nat) (claims : List RegW) : Bool :=
  s.threadFree u && !s.regionDown (u / 48) && s.failoverOk n u claims && !s.partMeets (u / 8) p

/-- Writes an engine window as the Keyblock. -/
def State.winWrite (s : State) (a : Nat) (bs : List Byte) : Nat × State := if bs.isEmpty then (0, s) else s.busWrite rqKb a bs

/-- Steps 5 and 6 for thread `th`, context key `key`: memories, then its registers, then CLEAR. -/
def State.loadThread (s : State) (th key : Nat) (p : PersThread) : Nat × State :=
  let w := 0x20000000 + th / 8 * 0x40000
  let i := partOf p.imem.toNat
  let d := partOf p.dmem.toNat
  let x := s.winWrite (w + i.1) p.code
  let y := x.2.winWrite (w + 0x10000 + d.1) (p.data ++ List.replicate (d.2 - p.data.length) 0)
  let t := y.2
  let t := [(ofTh CC.THPC th, p.pc), (ofTh CC.THIMEM th, p.imem), (ofTh CC.THDMEM th, p.dmem), (ofTh CC.THIMG th, p.img), (ofTh CC.THCK th, p.ck),
    (ofTh CC.CKWIN th, p.ckwin), (ofTh CC.THWD th, p.wd)].foldl (fun t e => t.wrReg e.1 e.2.toNat) t
  let t := (t.setF (ofTh CC.THKEY_KEY th) key).thCmd false th 5 0
  (if x.1 ≠ 0 then x.1 else y.1, t)

/-- Step 7 of Table 5.11: the replay entries of context key `k` (R169), and its leases (R332). -/
def State.freshKey (s : State) (n k : Nat) : State :=
  let s := ((s.mbxClearKey k).swClear k).releaseHolder k
  let s := (s.setF (WSC.RPL_LAST_COS k) 0).rplClear 1 k
  (s.setF (DM.RPL_LAST_COS (regionOfCe n) k) 0).rplClear (2 + regionOfCe n) k

/-- Step 8 of Table 5.11 for one thread of the load: did it succeed, state. -/
def State.loadStandby (s : State) (n : Nat) (claims : List RegW) (p : PersThread) : Bool × State :=
  match p.standby with
  | none => (true, s)
  | some u =>
    let q := s.loadThread u (8 * n + p.th.val) p
    (s.standbyOk n p u claims && q.1 == 0, q.2.thCmd false u 4 0)

/-- PERS_LOAD ends (Table 5.11): status and state; a failing step leaves everything as it was. -/
def State.loadEndP (s : State) (n : Nat) (ts : List PersThread) (claims : List RegW) (sig : Option Bool) : FReply :=
  let e := s.loadStatus n ts claims sig
  if s.regionDown (regionOfCe n) then errR s 0x42
  else if e = 0x12 then badR s
  else if e ≠ 0 then errR s e
  else
    let r := ts.foldl (fun (r : Nat × State) p =>
      let th := 8 * n + p.th.val
      let a := r.2.loadThread th th p
      (if r.1 ≠ 0 then r.1 else a.1, a.2.freshKey n th)) (0, s)
    let c := (claims.filter (takesReg n)).foldl (fun (c : FReply) w =>
      if c.status ≠ 0 then c else c.st.putWords (fun _ => true) [c.st.claimVal n w]) (okR r.2 [])
    let b := ts.foldl (fun (b : Bool × State) p => let q := b.2.loadStandby n claims p; (b.1 && q.1, q.2)) (true, c.st)
    if r.1 = 4 then errR s 0x71
    else if r.1 ≠ 0 then errR s 0x41
    else if c.status ≠ 0 then errR s 0x46
    else if !b.1 then errR s 0x45
    else
      let p : Pers := ⟨ts.map (fun p => 8 * n + p.th.val), ts.filterMap (fun p => p.standby.map Fin.val), claims.flatMap (heldAlone n)⟩
      okR { b.2 with pers := b.2.pers ++ [p] } []

/-- A command on the personality of thread `th`: NOT_FOUND when there is none, DOMAIN_OFF when its region is off (R85). -/
def State.persCmd (s : State) (h : FHdr) (op th : Nat) (act : Pers → State → FReply) : State :=
  s.feholt h op 0 none (fun s =>
    match s.persOf th with
    | none => errR s 0x44
    | some p => if s.regionDown (th / 48) then errR s 0x43 else act p s)

/-- PERS_START (R169). -/
def execPersStart (h : FHdr) (th : Fin 192) (s : State) : Out :=
  .next (s.persCmd h 0x0202 th (fun p s => okR (p.threads.foldl (fun s t => (s.thCmd false t 1 0).postEvent 0x8280 [t, 1]) s) []))

/-- PERS_STOP (Table 5.1). -/
def execPersStop (h : FHdr) (th : Fin 192) (s : State) : Out :=
  .next (s.persCmd h 0x0203 th (fun p s => okR (p.threads.foldl (fun s t => (s.thCmd false t 2 0).postEvent 0x8280 [t, 0]) s) []))

/-- PERS_QUERY (R77). -/
def execPersQuery (h : FHdr) (th : Fin 192) (s : State) : Out :=
  .next (s.persCmd h 0x0204 th (fun p s =>
    valR s 0x0204 ((p.threads ++ p.standbys).flatMap (fun t => [t, s.thState t, s.f (ofTh CC.THKEY_KEY t)]))))

/-- PERS_UNLOAD (R415): its threads have stopped and its Pantograph channels are IDLE, else CONFLICT; contexts and claims go. -/
def execPersUnload (h : FHdr) (th : Fin 192) (s : State) : Out :=
  .next (s.persCmd h 0x0205 th (fun p s =>
    let l := p.threads ++ p.standbys
    if l.any (fun t => let st := s.thState t; st != 0 && st != 5 && st != 7) then errR s 0x46
    else
      let c := s.putWords (fun _ => true) (s.freeClaims (th / 8) p.claims)
      if c.status ≠ 0 then errR s 0x46
      else
        let t := l.foldl (fun s t => ((s.thCmd false t 5 0).wrReg (ofTh CC.THCK t) 0).setF (ofTh CC.THKEY_KEY t) 0) c.st
        okR { t with pers := t.pers.filter (fun q => q != p) } []))

/-! ## Power (R480) -/

/-- Table 18.2: is the request refused? -/
def State.powerRefused (s : State) (r : PowerReq) : Bool :=
  let busy := [0, 1, 2, 3].any (fun n => s.on (RUL.CTL_RUN n)) || s.install.isSome
  match r with
  | .hold => busy
  | .off => busy || s.ringsOn.any (fun r => s.f (NMG.RINGSTAT_STATE r) != 3)
  | .region n on => !on && (List.range 48).any (fun i => let st := s.thState (48 * n.val + i); st != 0 && st != 5)
  | .doze _ _ _ => false

/-- POWER_SET (R480). -/
def execPowerSet (h : FHdr) (req : PowerReq) (s : State) : Out :=
  let long : Option Instr := match req with | .hold => some (.powerSet h req) | .off => some (.powerSet h req) | _ => none
  .next (s.feholt h 0x1001 0 long (fun s =>
    if s.powerRefused req then errR s 0x46
    else
      match req with
      | .doze c en dly => okR (s.sysWrite rqKb (0x310 + 4 * c.val) (b2n en + dly.toNat * 16)).2 []
      | .region n on => okR (s.sysWrite rqKb (0x340 + 4 * n.val) (b2n on + 2 * s.f (SYS.RGCTL_RST n))).2 []
      | .hold => okR s []
      | .off => okR s []))

/-- What follows the completion of a POWER_SET (R487, R491). -/
def State.powerEnter (s : State) (r : PowerReq) : State :=
  match r with
  | .hold => (s.sysWrite rqKb 0x300 0x50570001).2
  | .off => ((s.wakeWrite rqKb 4 1).2.sysWrite rqKb 0x300 0x50570002).2
  | _ => s

/-! ## Installation (R504, R505) -/

/-- Offset of slot A (0) or B (1) in the flash (Table 18.13). -/
def slotBase (k : Nat) : Nat := if k = 0 then 0x200000 else 0xA00000

/-- ACTIVE slot of the latest record, and digests of A and B. -/
def State.bootRecord (s : State) : Nat × Nat × Nat :=
  match s.latestRecord with
  | some r => (r.active, r.digA, r.digB)
  | none => (0, 0, 0)

/-- INSTALL_BEGIN (R504, R505). -/
def execInstallBegin (h : FHdr) (s : State) : Out :=
  .next (s.feholt h 0x1101 0 none (fun s =>
    if s.install.isSome then errR s 0x46
    else
      let r := s.bootRecord
      let t := s.appendRecord r.1 false (if r.1 = 0 then r.2.1 else 0) (if r.1 = 0 then 0 else r.2.2)
      okR { t with install := some h.sess.val, installEnd := 0 } []))

/-- INSTALL_DATA (R504): one block of 64 KiB of the target at an aligned offset. -/
def execInstallData (h : FHdr) (off : BitVec 23) (s : State) : Out :=
  .next (s.feholt h 0x1102 1 (some (.installData h off)) (fun s =>
    if s.install.isNone then errR s 0x44
    else if s.install ≠ some h.sess.val then errR s 0x46
    else if off.toNat % 0x10000 ≠ 0 ∨ (h.bulk.map (fun b => decide (0x10000 < b.len.toNat))).getD true then badR s
    else okR s []))

/-- INSTALL_DATA ends: programmed, or FLASH with the block's content open. -/
def State.installBlock (s : State) (h : FHdr) (off : Nat) (flashOk : Bool) : FReply :=
  match h.bulk with
  | none => errR s 0x13
  | some b =>
    let r := s.bulkRead h.sess (bitOf h.flags.toNat 2) b
    let a := slotBase (1 - s.bootRecord.1) + off
    if !r.1 then errR r.2.2 0x50
    else if flashOk then okR (r.2.2.flashWrite a 0x10000 r.2.1) []
    else
      let n := r.2.2.freeIx
      errR ({ r.2.2 with freeIx := n + 1 }.flashWrite a 0x10000 ((List.range 0x10000).map (Config.freeByte n))) 0x61

/-- INSTALL_COMMIT (R504): `dig` is the first half of the target's manifest digest. -/
def execInstallCommit (h : FHdr) (dig : BitVec 128) (s : State) : Out :=
  .next (s.feholt h 0x1103 0 (some (.installCommit h dig)) (fun s =>
    if s.install.isNone then errR s 0x44
    else if s.install ≠ some h.sess.val then errR s 0x46
    else okR s []))

/-- INSTALL_COMMIT ends: the target passes R499 and becomes ACTIVE, or the installation has failed. -/
def State.installEndC (s : State) (dig : Nat) (sig : Option Bool) (flashOk : Bool) : FReply :=
  let good := match sig with | some prod => s.imageAllowed prod | none => false
  if !flashOk then errR { s with install := none, installEnd := 0x61 } 0x61
  else if !good then errR { s with install := none, installEnd := 0x60 } 0x60
  else
    let r := s.bootRecord
    let t := 1 - r.1
    okR { s.appendRecord t true (if t = 0 then dig else r.2.1) (if t = 0 then r.2.2 else dig) with install := none, installEnd := 0 } []

/-- INSTALL_STATUS (R505): open, status of the last end, ACTIVE slot, and whether each slot is valid. -/
def execInstallStatus (h : FHdr) (s : State) : Out :=
  .next (s.feholt h 0x1104 0 none (fun s =>
    let r := s.bootRecord
    valR s 0x1104 [b2n s.install.isSome, s.installEnd, r.1, b2n (r.2.1 != 0), b2n (r.2.2 != 0)]))

/-! ## Completions (R69, R76) -/

/-- What a long command comes to; `none` while it goes on: an activation that is armed (R520, R521). -/
def State.finish (s : State) (n : Nat) (c : Instr) (sig : Option Bool) (flashOk : Bool) (found : List ScanFound) : Option FReply :=
  match c with
  | .persLoad _ ce ts claims => some (s.loadEndP ce ts claims sig)
  | .captureRead h ch _ => let r := s.captureBytes ch; some (r.2.bulkReply n h.flags.toNat h.bulk r.1)
  | .impressionRead h slot =>
    some (s.bulkReply n h.flags.toNat h.bulk ((List.range 4624).flatMap (fun w => leBytes 4 (s.impWord slot w))))
  | .draftActivate _ _ _ _ _ _ _ =>
    if s.on OBS.ACTSTAT_LATE then some (errR s 0x62)
    else if s.on OBS.ACTSTAT_DONE then some (okR { s.setF OBS.ACTCTL_DMODE 0 with draftOwner := none } [])
    else none
  | .scan _ => some (okR (s.scanEnd found) [])
  | .proofFetch h =>
    let r := s.proofRead
    some (if r.1 ≠ 0 then errR r.2.2 0x71 else r.2.2.bulkReply n h.flags.toNat h.bulk r.2.1)
  | .installData h off => some (s.installBlock h off.toNat flashOk)
  | .installCommit _ dig => some (s.installEndC dig.toNat sig flashOk)
  | _ => some (okR s [])

/-- Does the completion of Hold or Off have to wait for its place: it must be committed before the write that enters the state (R85, R487, R491);
before Off, which ends the reply channels, so must those of the commands that Off overtakes. -/
def State.powerWaits (s : State) (n : Nat) (c : Instr) : Bool :=
  match c with
  | .powerSet _ req =>
    !((s.session n).events.isEmpty && s.canPost n)
      || (req == .off && [0, 1, 2, 3].any (fun k => (s.abortLongs.session k).events.any (fun e => answersCommand e.opcode)))
  | _ => false

/-- COMMAND_COMPLETION (R69): a long command finishes; `sig`: the image's signature verifies, with the production key or not; `flashOk`: no
flash error; `found`: the partners a scan lists. Hold and Off are entered after their completion is committed (R85, R487, R491). -/
def execCommandCompletion (n : Fin 4) (tag : BitVec 16) (sig : Option Bool) (flashOk : Bool) (found : List ScanFound) (s : State) : Out :=
  if !s.serves then .next s
  else
    match s.longs.find? (fun l => l.sess == n.val && l.tag == tag.toNat) with
    | none => .next s
    | some l =>
      if s.powerWaits n l.cmd then .next s
      else
      match s.finish n l.cmd sig flashOk found with
      | none => .next s
      | some r =>
        let t : State := { r.st with longs := r.st.longs.filter (fun x => !(x.sess == l.sess && x.tag == l.tag)) }
        let t := t.eventTo n (l.opcode + 0x8000) l.tag (r.status + r.detail * 2 ^ 16) r.payload
        match l.cmd with
        | .powerSet _ req => .next (t.powerEnter req)
        | _ => .next t

end Sys2Proof.Machine
end

