-- ==== Sys2Proof/Machine/IsaAlu.lean ====
section
/-! DEFINITION. The meanings of the Tilouzu integer instructions (Tables 4.4 and 4.5, R111–R122): each is one issue of a shared
operand form with the operation the table gives. -/
namespace Sys2Proof.Machine

/-! ## Shared forms -/

/-- Register form with v = 0 (R112): rd = op ra rb. -/
def aluRR (c : Nat) (f : FmtR) (op : Nat → Nat → Nat) (s : State) : IRes :=
  if f.v ≠ 0 then illegal s else .ok (s.setG c f.rd (op (s.gr c f.ra) (s.gr c f.rb)))

/-- Register form whose rb must be g0: rd = op ra. -/
def aluR1 (c : Nat) (f : FmtR) (op : Nat → Nat) (s : State) : IRes :=
  if f.v ≠ 0 ∨ f.rb ≠ 0 then illegal s else .ok (s.setG c f.rd (op (s.gr c f.ra)))

/-- Unary form with a use of v below `n`; the row asks nothing of rb (R112). -/
def aluV1 (c : Nat) (f : FmtR) (n : Nat) (op : Nat → Nat → Nat) (s : State) : IRes :=
  if f.v.toNat ≥ n then illegal s else .ok (s.setG c f.rd (op f.v.toNat (s.gr c f.ra)))

/-- Saturating sum or difference, setting SV (R115). -/
def aluSat (c : Nat) (f : FmtR) (op : Int → Int → Int) (s : State) : IRes :=
  if f.v ≠ 0 then illegal s
  else
    let r := satSigned (op (toSigned 32 (s.gr c f.ra)) (toSigned 32 (s.gr c f.rb)))
    let t := s.setG c f.rd r.1
    .ok (if r.2 then t.setCore c ((t.core c).setEctl 4 true) else t)

/-- Division and remainder: by 0 with DZT = 1 Divide by Zero, rd not written (R116). -/
def aluDiv (c : Nat) (f : FmtR) (op : Nat → Nat → Nat) (s : State) : IRes :=
  if f.v ≠ 0 then illegal s
  else if s.gr c f.rb = 0 ∧ (s.core c).dzt then .exc s 0xB 0 0 false
  else .ok (s.setG c f.rd (op (s.gr c f.ra) (s.gr c f.rb)))

/-- CRC step over `n` bytes of rb (R121). -/
def crcReg (c : Nat) (f : FmtR) (n : Nat) (s : State) : IRes :=
  .ok (s.setG c f.rd (crcStep (crcSel (s.core c) f.v.toNat) (s.gr c f.ra) (s.gr c f.rb) n))

/-- CRC step over `n` bytes loaded from [ra], then ra += n (R112, R121, R123). -/
def crcMem (c : Nat) (f : FmtR) (n : Nat) (s : State) : IRes :=
  if f.rb ≠ 0 ∨ f.rd = f.ra then illegal s
  else
    let a := s.gr c f.ra
    if a % n ≠ 0 then .exc s 7 0 a false
    else
      match s.load c a n with
      | .mpu => .exc s 9 0 a false
      | .bus code t => .exc t 0xA code a false
      | .wait => .stall s
      | .val v t =>
        let t := t.setG c f.rd (crcStep (crcSel (s.core c) f.v.toNat) (s.gr c f.rd) v n)
        .ok (t.setG c f.ra (w32 (a + n)))

/-- Immediate form with the immediate sign-extended. -/
def aluIS (c : Nat) (f : FmtI) (op : Nat → Nat → Nat) (s : State) : IRes :=
  .ok (s.setG c f.rd (op (s.gr c f.ra) (sext 18 f.imm.toNat)))

/-- Immediate form with the immediate zero-extended. -/
def aluIZ (c : Nat) (f : FmtI) (op : Nat → Nat → Nat) (s : State) : IRes :=
  .ok (s.setG c f.rd (op (s.gr c f.ra) f.imm.toNat))

/-- Field form (R120): pos + w above 32, or a reserved field that is not 0, is illegal; `op` takes rd, ra, pos and w. -/
def fieldM (c : Nat) (f : FmtM) (op : Nat → Nat → Nat → Nat → Nat) (s : State) : IRes :=
  if f.z ≠ 0 ∨ f.pos.toNat + (f.wm1.toNat + 1) > 32 then illegal s
  else .ok (s.setG c f.rd (op (s.gr c f.rd) (s.gr c f.ra) f.pos.toNat (f.wm1.toNat + 1)))

/-! ## Meanings -/

/-- ADD: wrapping sum (R112). -/
def execAdd (c : CoreIx) (f : FmtR) (s : State) : Out := issue c (aluRR c f (fun a b => w32 (a + b))) s

/-- ADDS: saturating sum, SV set when it saturates (R115). -/
def execAdds (c : CoreIx) (f : FmtR) (s : State) : Out := issue c (aluSat c f (fun a b => a + b)) s

/-- SUB: wrapping difference (R112). -/
def execSub (c : CoreIx) (f : FmtR) (s : State) : Out := issue c (aluRR c f (fun a b => sub32 a b)) s

/-- SUBS: saturating difference (R115). -/
def execSubs (c : CoreIx) (f : FmtR) (s : State) : Out := issue c (aluSat c f (fun a b => a - b)) s

/-- NEG: 0 − ra, wrapping; rb must be g0 (R112). -/
def execNeg (c : CoreIx) (f : FmtR) (s : State) : Out := issue c (aluR1 c f (fun a => sub32 0 a)) s

/-- AND: ra & rb. -/
def execAnd (c : CoreIx) (f : FmtR) (s : State) : Out := issue c (aluRR c f (fun a b => a &&& b)) s

/-- OR: ra | rb. -/
def execOr (c : CoreIx) (f : FmtR) (s : State) : Out := issue c (aluRR c f (fun a b => a ||| b)) s

/-- XOR: ra ^ rb. -/
def execXor (c : CoreIx) (f : FmtR) (s : State) : Out := issue c (aluRR c f (fun a b => a ^^^ b)) s

/-- ANDN: ra & ~rb. -/
def execAndn (c : CoreIx) (f : FmtR) (s : State) : Out := issue c (aluRR c f (fun a b => a &&& (0xFFFFFFFF - b))) s

/-- SLL: 0 by 32 or more (Table 4.8). -/
def execSll (c : CoreIx) (f : FmtR) (s : State) : Out := issue c (aluRR c f (fun a b => shl32 a b)) s

/-- SRL: 0 by 32 or more. -/
def execSrl (c : CoreIx) (f : FmtR) (s : State) : Out := issue c (aluRR c f (fun a b => shr32 a b)) s

/-- SRA: sign fill by 32 or more. -/
def execSra (c : CoreIx) (f : FmtR) (s : State) : Out := issue c (aluRR c f (fun a b => sar32 a b)) s

/-- ROR: amount modulo 32. -/
def execRor (c : CoreIx) (f : FmtR) (s : State) : Out := issue c (aluRR c f (fun a b => ror32 a b)) s

/-- MUL: low 32 bits of the product. -/
def execMul (c : CoreIx) (f : FmtR) (s : State) : Out := issue c (aluRR c f (fun a b => w32 (a * b))) s

/-- MULH: high 32 bits of the signed product. -/
def execMulh (c : CoreIx) (f : FmtR) (s : State) : Out := issue c (aluRR c f (fun a b => ofSigned 64 (toSigned 32 a * toSigned 32 b) / 2 ^ 32)) s

/-- MULHU: high 32 bits of the unsigned product. -/
def execMulhu (c : CoreIx) (f : FmtR) (s : State) : Out := issue c (aluRR c f (fun a b => a * b / 2 ^ 32)) s

/-- DIV: signed quotient toward zero (R116). -/
def execDiv (c : CoreIx) (f : FmtR) (s : State) : Out := issue c (aluDiv c f divS) s

/-- DIVU: unsigned quotient (R116). -/
def execDivu (c : CoreIx) (f : FmtR) (s : State) : Out := issue c (aluDiv c f divU) s

/-- REM: signed remainder (R116). -/
def execRem (c : CoreIx) (f : FmtR) (s : State) : Out := issue c (aluDiv c f remS) s

/-- REMU: unsigned remainder (R116). -/
def execRemu (c : CoreIx) (f : FmtR) (s : State) : Out := issue c (aluDiv c f remU) s

/-- MIN: signed minimum. -/
def execMin (c : CoreIx) (f : FmtR) (s : State) : Out := issue c (aluRR c f (fun a b => if toSigned 32 a ≤ toSigned 32 b then a else b)) s

/-- MAX: signed maximum. -/
def execMax (c : CoreIx) (f : FmtR) (s : State) : Out := issue c (aluRR c f (fun a b => if toSigned 32 a ≤ toSigned 32 b then b else a)) s

/-- MINU: unsigned minimum. -/
def execMinu (c : CoreIx) (f : FmtR) (s : State) : Out := issue c (aluRR c f (fun a b => min a b)) s

/-- MAXU: unsigned maximum. -/
def execMaxu (c : CoreIx) (f : FmtR) (s : State) : Out := issue c (aluRR c f (fun a b => max a b)) s

/-- CEQ: 1 if equal (R117). -/
def execCeq (c : CoreIx) (f : FmtR) (s : State) : Out := issue c (aluRR c f (fun a b => b2n (a == b))) s

/-- CNE: 1 if different. -/
def execCne (c : CoreIx) (f : FmtR) (s : State) : Out := issue c (aluRR c f (fun a b => b2n (a != b))) s

/-- CLT: 1 if less, signed. -/
def execClt (c : CoreIx) (f : FmtR) (s : State) : Out := issue c (aluRR c f (fun a b => b2n (decide (toSigned 32 a < toSigned 32 b)))) s

/-- CLTU: 1 if less, unsigned. -/
def execCltu (c : CoreIx) (f : FmtR) (s : State) : Out := issue c (aluRR c f (fun a b => b2n (decide (a < b)))) s

/-- CLE: 1 if less or equal, signed. -/
def execCle (c : CoreIx) (f : FmtR) (s : State) : Out := issue c (aluRR c f (fun a b => b2n (decide (toSigned 32 a ≤ toSigned 32 b)))) s

/-- CLEU: 1 if less or equal, unsigned. -/
def execCleu (c : CoreIx) (f : FmtR) (s : State) : Out := issue c (aluRR c f (fun a b => b2n (decide (a ≤ b)))) s

/-- CLZ: leading zeros; rb must be g0. -/
def execClz (c : CoreIx) (f : FmtR) (s : State) : Out := issue c (aluR1 c f clz32) s

/-- POPC: ones; rb must be g0. -/
def execPopc (c : CoreIx) (f : FmtR) (s : State) : Out := issue c (aluR1 c f (popCount 32)) s

/-- BREV: bit reversal in units that v names (R119). -/
def execBrev (c : CoreIx) (f : FmtR) (s : State) : Out := issue c (aluV1 c f 3 brev) s

/-- PARITY: parity of units that v names (R119). -/
def execParity (c : CoreIx) (f : FmtR) (s : State) : Out := issue c (aluV1 c f 3 parity) s

/-- SEXT: from bit 7 or 15 by v (R112). -/
def execSext (c : CoreIx) (f : FmtR) (s : State) : Out := issue c (aluV1 c f 2 (fun v a => sext (if v = 0 then 8 else 16) a)) s

/-- CRCB: CRC step of ra over 1 byte(s) of rb (R121). -/
def execCrcb (c : CoreIx) (f : FmtR) (s : State) : Out := issue c (crcReg c f 1) s

/-- CRCH: CRC step of ra over 2 byte(s) of rb (R121). -/
def execCrch (c : CoreIx) (f : FmtR) (s : State) : Out := issue c (crcReg c f 2) s

/-- CRCW: CRC step of ra over 4 byte(s) of rb (R121). -/
def execCrcw (c : CoreIx) (f : FmtR) (s : State) : Out := issue c (crcReg c f 4) s

/-- CRCBM: CRC step of rd over 1 byte(s) at [ra], ra advanced (R112, R121). -/
def execCrcbm (c : CoreIx) (f : FmtR) (s : State) : Out := issue c (crcMem c f 1) s

/-- CRCHM: CRC step of rd over 2 byte(s) at [ra], ra advanced (R112, R121). -/
def execCrchm (c : CoreIx) (f : FmtR) (s : State) : Out := issue c (crcMem c f 2) s

/-- CRCWM: CRC step of rd over 4 byte(s) at [ra], ra advanced (R112, R121). -/
def execCrcwm (c : CoreIx) (f : FmtR) (s : State) : Out := issue c (crcMem c f 4) s

/-- ADDI: wrapping sum with sext(imm18) (R111). -/
def execAddi (c : CoreIx) (f : FmtI) (s : State) : Out := issue c (aluIS c f (fun a b => w32 (a + b))) s

/-- ANDI: with zext(imm18). -/
def execAndi (c : CoreIx) (f : FmtI) (s : State) : Out := issue c (aluIZ c f (fun a b => a &&& b)) s

/-- ORI: with zext(imm18). -/
def execOri (c : CoreIx) (f : FmtI) (s : State) : Out := issue c (aluIZ c f (fun a b => a ||| b)) s

/-- XORI: with zext(imm18). -/
def execXori (c : CoreIx) (f : FmtI) (s : State) : Out := issue c (aluIZ c f (fun a b => a ^^^ b)) s

/-- SLLI: by zext(imm18). -/
def execSlli (c : CoreIx) (f : FmtI) (s : State) : Out := issue c (aluIZ c f (fun a b => shl32 a b)) s

/-- SRLI: by zext(imm18). -/
def execSrli (c : CoreIx) (f : FmtI) (s : State) : Out := issue c (aluIZ c f (fun a b => shr32 a b)) s

/-- SRAI: by zext(imm18). -/
def execSrai (c : CoreIx) (f : FmtI) (s : State) : Out := issue c (aluIZ c f (fun a b => sar32 a b)) s

/-- RORI: by zext(imm18). -/
def execRori (c : CoreIx) (f : FmtI) (s : State) : Out := issue c (aluIZ c f (fun a b => ror32 a b)) s

/-- CEQI: 1 if equal to sext(imm18). -/
def execCeqi (c : CoreIx) (f : FmtI) (s : State) : Out := issue c (aluIS c f (fun a b => b2n (a == b))) s

/-- CLTI: 1 if less, signed. -/
def execClti (c : CoreIx) (f : FmtI) (s : State) : Out := issue c (aluIS c f (fun a b => b2n (decide (toSigned 32 a < toSigned 32 b)))) s

/-- CLTUI: 1 if less, unsigned. -/
def execCltui (c : CoreIx) (f : FmtI) (s : State) : Out := issue c (aluIS c f (fun a b => b2n (decide (a < b)))) s

/-- LUI: rd = imm20 << 12; the field [21:20] must be 0 (R110, R111). -/
def execLui (c : CoreIx) (f : FmtU) (s : State) : Out :=
  issue c (fun s => if f.z ≠ 0 then illegal s else .ok (s.setG c f.rd (f.imm.toNat * 2 ^ 12))) s

/-- BFX: zero-extended field (R120). -/
def execBfx (c : CoreIx) (f : FmtM) (s : State) : Out := issue c (fieldM c f (fun _ a p w => bitsOf a p w)) s

/-- BFXS: sign-extended field (R120). -/
def execBfxs (c : CoreIx) (f : FmtM) (s : State) : Out := issue c (fieldM c f (fun _ a p w => sext w (bitsOf a p w))) s

/-- BFI: field insert into rd (R120). -/
def execBfi (c : CoreIx) (f : FmtM) (s : State) : Out := issue c (fieldM c f (fun d a p w => setBits d p w a)) s

end Sys2Proof.Machine
end

