-- ==== Sys2Proof/Machine/IsaFpu.lean ====
section
/-! DEFINITION. The meanings of the floating-point group (Table 4.7, R114, R136), on the A profile. -/
namespace Sys2Proof.Machine

/-- How an operation of core `x` rounds (Table 4.14). -/
def fenv (x : Core) : FEnv :=
  ⟨bitsOf x.fcsr.toNat 5 2, bitOf x.fcsr.toNat 7, Config.tinyAfter, Config.flushFlags, false⟩

/-- A floating-point operation: only on the A profile; its flags are ORed into FCSR; with FTE = 1, NV or DZ takes
Floating Point and rd is unchanged (R114, R136). -/
def fpOp (c : Nat) (f : FmtR) (unary : Bool) (op : FEnv → Nat → Nat → Nat × Nat) (s : State) : IRes :=
  let x := s.core c
  if prof c ≠ .a ∨ (unary ∧ f.rb ≠ 0) then illegal s
  else
    let r := op (fenv x) (x.gr f.ra) (x.gr f.rb)
    let y := { x with fcsr := x.fcsr ||| BitVec.ofNat 32 r.2 }
    if bitOf x.fcsr.toNat 8 ∧ r.2 &&& (fNV ||| fDZ) ≠ 0 then
      .exc (if Config.fpTrapSticky then s.setCore c y else s) 0xC r.2 0 false
    else .ok ((s.setCore c y).setG c f.rd r.1)

/-- FADD. -/
def execFadd (c : CoreIx) (f : FmtR) (s : State) : Out := issue c (fpOp c f false fAdd) s

/-- FSUB. -/
def execFsub (c : CoreIx) (f : FmtR) (s : State) : Out := issue c (fpOp c f false fSub) s

/-- FMUL. -/
def execFmul (c : CoreIx) (f : FmtR) (s : State) : Out := issue c (fpOp c f false fMul) s

/-- FDIV. -/
def execFdiv (c : CoreIx) (f : FmtR) (s : State) : Out := issue c (fpOp c f false fDiv) s

/-- FSQRT; rb must be g0. -/
def execFsqrt (c : CoreIx) (f : FmtR) (s : State) : Out := issue c (fpOp c f true (fun e a _ => fSqrt e a)) s

/-- FMIN. -/
def execFmin (c : CoreIx) (f : FmtR) (s : State) : Out := issue c (fpOp c f false (fun e => fMinMax e false)) s

/-- FMAX. -/
def execFmax (c : CoreIx) (f : FmtR) (s : State) : Out := issue c (fpOp c f false (fun e => fMinMax e true)) s

/-- FITOF; the row asks nothing of rb. -/
def execFitof (c : CoreIx) (f : FmtR) (s : State) : Out := issue c (fpOp c f false (fun e a _ => fOfInt e a)) s

/-- FFTOI. -/
def execFftoi (c : CoreIx) (f : FmtR) (s : State) : Out :=
  issue c (fpOp c f false (fun e a _ => fToInt e Config.ftoiInexact a)) s

/-- FCEQ. -/
def execFceq (c : CoreIx) (f : FmtR) (s : State) : Out := issue c (fpOp c f false (fun e => fCmp e 0)) s

/-- FCLT. -/
def execFclt (c : CoreIx) (f : FmtR) (s : State) : Out := issue c (fpOp c f false (fun e => fCmp e 1)) s

/-- FCLE. -/
def execFcle (c : CoreIx) (f : FmtR) (s : State) : Out := issue c (fpOp c f false (fun e => fCmp e 2)) s

end Sys2Proof.Machine
end

