-- ==== Sys2Proof/Machine/IsaMem.lean ====
section
/-! DEFINITION. The meanings of loads, stores, branches, the stack, REP and the system group (R113, R117, R118, R123–R134, R544). -/
namespace Sys2Proof.Machine

/-! ## Loads and stores -/

/-- A load (R123, R124): `ext` extends the loaded value; with P = 1 the address is ra, which then steps by the
immediate. -/
def loadForm (c : Nat) (f : FmtL) (len : Nat) (ext : Nat → Nat) (s : State) : IRes :=
  if f.p ∧ f.rd = f.ra then illegal s
  else
    let b := s.gr c f.ra
    let k := sext 17 f.imm.toNat
    let a := if f.p then b else w32 (b + k)
    if a % len ≠ 0 then .exc s 7 0 a false
    else
      match s.load c a len with
      | .mpu => .exc s 9 0 a false
      | .bus code t => .exc t 0xA code a false
      | .wait => .stall s
      | .val v t =>
        let t := t.setG c f.rd (ext v)
        .ok (if f.p then t.setG c f.ra (w32 (b + k)) else t)

/-- A store of the low bytes of rs (R123, R124). -/
def storeForm (c : Nat) (f : FmtL) (len : Nat) (s : State) : IRes :=
  let b := s.gr c f.ra
  let k := sext 17 f.imm.toNat
  let a := if f.p then b else w32 (b + k)
  if a % len ≠ 0 then .exc s 7 0 a false
  else
    match s.store c a (s.gr c f.rd % 2 ^ (8 * len)) len with
    | .mpu => .exc s 9 0 a false
    | .bus code => .exc s 0xA code a false
    | .wait => .wait s
    | .stall => .stall s
    | .done t => .ok (if f.p then t.setG c f.ra (w32 (b + k)) else t)

/-- LB (R111, R123). -/
def execLb (c : CoreIx) (f : FmtL) (s : State) : Out := issue c (loadForm c f 1 (sext 8)) s

/-- LBU. -/
def execLbu (c : CoreIx) (f : FmtL) (s : State) : Out := issue c (loadForm c f 1 id) s

/-- LH. -/
def execLh (c : CoreIx) (f : FmtL) (s : State) : Out := issue c (loadForm c f 2 (sext 16)) s

/-- LHU. -/
def execLhu (c : CoreIx) (f : FmtL) (s : State) : Out := issue c (loadForm c f 2 id) s

/-- LW. -/
def execLw (c : CoreIx) (f : FmtL) (s : State) : Out := issue c (loadForm c f 4 id) s

/-- SB. -/
def execSb (c : CoreIx) (f : FmtL) (s : State) : Out := issue c (storeForm c f 1) s

/-- SH. -/
def execSh (c : CoreIx) (f : FmtL) (s : State) : Out := issue c (storeForm c f 2) s

/-- SW. -/
def execSw (c : CoreIx) (f : FmtL) (s : State) : Out := issue c (storeForm c f 4) s

/-- May the `i`-th posted store be served: no older one touches its bytes (R125), and no older fenced output waits when it
is fenced itself (R157)? -/
def State.mayServe (s : State) (l : List Posted) (i : Nat) : Bool :=
  match l[i]? with
  | none => false
  | some p =>
    (l.take i).all (fun q => !q.touches p.addr p.data.length && !(s.fenced p.addr (leNat p.data) && s.fenced q.addr (leNat q.data)))

/-- Can the `i`-th posted store of core `c` go on: may it be served, and are there credits on its way (R34)? -/
def State.canServe (s : State) (c : Nat) (i : Nat) : Bool :=
  s.mayServe (s.core c).posted i && (s.core c).posted[i]?.any (fun p => s.wayFree c p.addr p.data.length true)

/-- POSTED_STORE_RESPONSE: the `i`-th outstanding store reaches its target and is answered (R124). A debug halt that waited for the last response is
then complete (R544). -/
def execPostedStoreResponse (c : CoreIx) (i : Fin 4) (s : State) : Out :=
  .next (if s.canServe c i then ((s.answerStore c i).settleHalt c).ckAdvance (c.val / 8) 9 else s)

/-! ## Branches and jumps -/

/-- The PC-relative target of a branch or jump word at `pc`. -/
def relTarget (pc n disp : Nat) : Nat := ofSigned 32 ((pc : Int) + 4 * toSigned n disp)

/-- PC of core `c`. -/
def State.pc (s : State) (c : Nat) : Nat := (s.core c).pc.toNat

/-- BZ (R117). -/
def execBz (c : CoreIx) (f : FmtB) (s : State) : Out :=
  issue c (fun s => if s.gr c f.rt = 0 then .jump s (relTarget (s.pc c) 22 f.disp.toNat) else .ok s) s

/-- BNZ (R117). -/
def execBnz (c : CoreIx) (f : FmtB) (s : State) : Out :=
  issue c (fun s => if s.gr c f.rt ≠ 0 then .jump s (relTarget (s.pc c) 22 f.disp.toNat) else .ok s) s

/-- JMP (R111). -/
def execJmp (c : CoreIx) (disp : BitVec 26) (s : State) : Out :=
  issue c (fun s => .jump s (relTarget (s.pc c) 26 disp.toNat)) s

/-- The checked push of CALL and CALLR and the jump (R127). -/
def callTo (c : Nat) (s : State) (target : Nat) : IRes :=
  let sp := s.sp c
  let a := sub32 sp 4
  let sl := (s.core c).sl.toNat
  if sp % 4 ≠ 0 then .exc s 7 0 sp false
  else if sl ≠ 0 ∧ a < sl then .exc s 8 0 a false
  else
    match s.store c a (w32 (s.pc c + 4)) 4 with
    | .mpu => .exc s 9 0 a false
    | .bus code => .exc s 0xA code a false
    | .wait => .wait s
    | .stall => .stall s
    | .done t => .jump (t.setG c 15 a) target

/-- CALL (R127). -/
def execCall (c : CoreIx) (disp : BitVec 26) (s : State) : Out :=
  issue c (fun s => callTo c s (relTarget (s.pc c) 26 disp.toNat)) s

/-- REP names one of these as the word it repeats (R129)? -/
def repForbidden (w : Nat) : Bool :=
  let op := w / 2 ^ 26
  let sub := w / 2 ^ 12 % 64
  (0x20 ≤ op && op ≤ 0x24)
    || (op == 0x28 && (sub == 1 || sub == 2 || sub == 3 || sub == 4 || sub == 7 || sub == 8 || sub == 9 || sub == 0xA
        || (sub == 6 && w % 4096 == 1)))

/-- REP (R128–R130): checks the word it repeats, loads RC and sets REPA; a count of 0 skips the word. Of the refusals that apply the one of the
lowest priority number is taken (R131). An MPU refusal of the repeated word is raised here, with the REP word as return address (DESIGN CHOICE,
log 72). -/
def execRep (c : CoreIx) (f : FmtRep) (s : State) : Out :=
  issue c (fun s =>
    let next := w32 (s.pc c + 4)
    match s.fetchBad c next with
    | some d => .exc (if d = 4 then s.countEcc c next true else s) 1 d next false
    | none =>
      if f.z ≠ 0 then illegal s
      else if repForbidden (s.fetchWord c next) then .exc s 3 0 0 false
      else if !s.mpuOk c 2 next then .exc s 9 0 next false
      else
        let n := if f.i then f.imm.toNat else s.gr c f.rs
        let x := s.core c
        if n = 0 then .jump (s.setCore c { x with rc := 0 }) (w32 (next + 4))
        else .jump (s.setCore c (({ x with rc := BitVec.ofNat 32 n, repFresh := true }).setEctl 5 true)) next) s

/-! ## System group -/

/-- FENCE: completes when every earlier store is answered; an imprecise Bus Error found then is taken instead, with the FENCE word as return
address (R124). -/
def execFence (c : CoreIx) (f : FmtX) (s : State) : Out :=
  issue c (fun s =>
    if f.rd ≠ 0 ∨ f.ra ≠ 0 ∨ f.imm ≠ 0 then illegal s
    else if !(s.core c).posted.isEmpty then .wait s
    else if (s.core c).imp.isEmpty then .ok s else .imp s) s

/-- JR (R118). -/
def execJr (c : CoreIx) (f : FmtX) (s : State) : Out :=
  issue c (fun s =>
    let t := s.gr c f.ra
    if f.rd ≠ 0 ∨ f.imm ≠ 0 then illegal s else if t % 4 ≠ 0 then .exc s 7 0 t false else .jump s t) s

/-- CALLR (R118, R127). -/
def execCallr (c : CoreIx) (f : FmtX) (s : State) : Out :=
  issue c (fun s =>
    let t := s.gr c f.ra
    if f.rd ≠ 0 ∨ f.imm ≠ 0 then illegal s else if t % 4 ≠ 0 then .exc s 7 0 t false else callTo c s t) s

/-- RET (R118, R127): the popped address is checked before sp changes. -/
def execRet (c : CoreIx) (f : FmtX) (s : State) : Out :=
  issue c (fun s =>
    let sp := s.sp c
    if f.rd ≠ 0 ∨ f.ra ≠ 0 ∨ f.imm ≠ 0 then illegal s
    else if sp % 4 ≠ 0 then .exc s 7 0 sp false
    else
      match s.load c sp 4 with
      | .mpu => .exc s 9 0 sp false
      | .bus code t => .exc t 0xA code sp false
      | .wait => .stall s
      | .val v t => if v % 4 ≠ 0 then .exc s 7 0 v false else .jump (t.setG c 15 (w32 (sp + 4))) v) s

/-- ECTL as RETE writes it from a status word (R133): the RW fields, SEC only kept, REPA from the word. -/
def reteEctl (x : Core) (c st : Nat) : Core :=
  match x.mts c 3 st with
  | some y => y.setEctl 5 (bitOf st 5)
  | none => x

/-- The three pops of RETE: RC, status word and return address; else the way RETE ends. -/
def retePops (c : Nat) (s : State) : Except IRes (Nat × Nat × Nat × State) :=
  let sp := s.sp c
  match s.load c sp 4 with
  | .mpu => .error (.exc s 9 0 sp false)
  | .bus code t => .error (.exc t 0xA code sp false)
  | .wait => .error (.stall s)
  | .val rc t =>
    match t.load c (w32 (sp + 4)) 4 with
    | .mpu => .error (.exc s 9 0 (w32 (sp + 4)) false)
    | .bus code t => .error (.exc t 0xA code (w32 (sp + 4)) false)
    | .wait => .error (.stall s)
    | .val st t =>
      match t.load c (w32 (sp + 8)) 4 with
      | .mpu => .error (.exc s 9 0 (w32 (sp + 8)) false)
      | .bus code t => .error (.exc t 0xA code (w32 (sp + 8)) false)
      | .wait => .error (.stall s)
      | .val ra t => .ok (rc, st, ra, t)

/-- The return address that RETE would pop, where it can be read. -/
def State.reteTarget (s : State) (c : Nat) : Option Nat :=
  match s.load c (w32 (s.sp c + 8)) 4 with
  | .val v _ => some v
  | _ => none

/-- RETE (R131, R133): pops RC, status and return address. Of the exceptions that apply the one of the lowest priority number is taken: encoding,
Privilege, Alignment of sp or of the popped address (R118), MPU at any of the three words, Bus Error. -/
def execRete (c : CoreIx) (f : FmtX) (s : State) : Out :=
  issue c (fun s => if f.rd ≠ 0 ∨ f.ra ≠ 0 ∨ f.imm ≠ 0 then illegal s else privileged c (fun s =>
    let sp := s.sp c
    if sp % 4 ≠ 0 then .exc s 7 0 sp false
    else if (s.reteTarget c).any (fun v => v % 4 != 0) then .exc s 7 0 ((s.reteTarget c).getD 0) false
    else
      match [sp, w32 (sp + 4), w32 (sp + 8)].find? (fun a => !s.mpuOk c 0 a) with
      | some a => .exc s 9 0 a false
      | none =>
        match retePops c s with
        | .error r => r
        | .ok (rc, st, ra, t) =>
          let t := t.setG c 15 (w32 (sp + 12))
          let x := reteEctl (t.core c) c st
          .jump (t.setCore c { x with rc := BitVec.ofNat 32 rc }) ra) s) s

/-- MFS (R107). -/
def execMfs (c : CoreIx) (f : FmtX) (s : State) : Out :=
  issue c (fun s =>
    if f.ra ≠ 0 then illegal s
    else
      match s.mfs c f.imm.toNat with
      | none => illegal s
      | some (v, t) => .ok (t.setG c f.rd v)) s

/-- MTS (R107, R108): in user mode only RC and FCSR. -/
def execMts (c : CoreIx) (f : FmtX) (s : State) : Out :=
  issue c (fun s =>
    if f.rd ≠ 0 then illegal s
    else
      match (s.core c).mts c f.imm.toNat (s.gr c f.ra) with
      | none => illegal s
      | some x =>
        if (s.core c).user ∧ f.imm.toNat ≠ 1 ∧ f.imm.toNat ≠ 12 then .exc s 4 0 0 false
        else .ok (s.setCore c x)) s

/-- TRAP (R113, R131): imm12 in DETAIL, return address the next word. -/
def execTrap (c : CoreIx) (f : FmtX) (s : State) : Out :=
  issue c (fun s => if f.rd ≠ 0 ∨ f.ra ≠ 0 then illegal s else .exc s 5 f.imm.toNat 0 true) s

/-- Halts a thread or core (R544): state DEBUG, or HALTED. -/
def State.halt (s : State) (c : Nat) (brk : Bool) : State :=
  match prof c with
  | .e => s.setTh c 6
  | .a => s.setFs [(SYS.DBGCTL_HALTED (c - 192), 1), (SYS.DBGCTL_BRKHIT (c - 192), b2n brk)]
  | .k => s.setFs [(SYS.DBGCTL_HALTED 16, 1), (SYS.DBGCTL_BRKHIT 16, b2n brk)]

/-- BRK (R544): halts at the word after BRK when the debug port is attached; otherwise Breakpoint. A halt is complete once every posted store is
answered: until then BRK waits and is not executed, so that an asynchronous exception may come first (DESIGN CHOICE, log 72). -/
def execBrk (c : CoreIx) (f : FmtX) (s : State) : Out :=
  issue c (fun s =>
    if f.rd ≠ 0 ∨ f.ra ≠ 0 then illegal s
    else if s.dbgAttached then
      if (s.core c).posted.isEmpty then .jump (s.halt c true) (w32 (s.pc c + 4)) else .wait s
    else .exc s 6 f.imm.toNat 0 true) s

/-- WFE (R113, R155, R403, R454): completes at once when a source is pending, otherwise waits. -/
def execWfe (c : CoreIx) (f : FmtX) (s : State) : Out :=
  issue c (fun s => if f.rd ≠ 0 ∨ f.ra ≠ 0 ∨ f.imm ≠ 0 then illegal s else privileged c (fun s =>
    if s.wfeSources c ≠ 0 then .ok s
    else
      let t := s.setCore c { s.core c with wfe := true }
      .wait (if prof c = .e then t.setTh c 2 else t)) s) s

/-- Ends the wait of a WFE and moves past it. -/
def State.endWfe (s : State) (c : Nat) : State :=
  let x := s.core c
  let s := s.setCore c { x with wfe := false, pc := BitVec.ofNat 32 (x.pc.toNat + 4) }
  if prof c = .e then s.setTh c 1 else s

/-- WFE_WAKE (R155, R403, R454): a waiting WFE completes when a source is pending. -/
def execWfeWake (c : CoreIx) (s : State) : Out :=
  if s.waits c ∧ s.wfeSources c ≠ 0 then .next (s.endWfe c) else .next s

/-- INTERRUPT (R131, R132): the asynchronous exception that is due is taken at the boundary, imprecise Bus Error first. A
WFE whose source is pending completes first; one met by a Bus Error executes again. -/
def execInterrupt (c : CoreIx) (s : State) : Out :=
  let ready := s.runs c || s.waits c
  let asked := s
  let s := if (s.core c).wfe then s else s.resume c
  let x := s.core c
  if !ready || !s.asyncDue c then .next asked
  else if !x.imp.isEmpty then
    let s := if x.wfe then
        let s := s.setCore c { x with wfe := false }
        if prof c = .e then s.setTh c 1 else s
      else s
    .next (s.takeImp c (s.pc c))
  else
    match s.intNow c with
    | none => .next s
    | some n =>
      let s := if x.wfe then s.endWfe c else s
      .next (s.enter c 0xD n 0 (s.pc c) false)

/-- DEBUG_HALT (R544): SYS.DBGCTLi.HALT by the debug port; the halt is complete when every posted store is answered. -/
def execDebugHalt (rq : Rq) (i : Fin 17) (s : State) : Out :=
  let r := s.busWrite rq (SYS.DBGCTL i) (leBytes 4 1)
  .next (r.2.answer r.1)

/-- DEBUG_RESUME (R544). -/
def execDebugResume (rq : Rq) (i : Fin 17) (s : State) : Out :=
  let r := s.busWrite rq (SYS.DBGCTL i) (leBytes 4 2)
  .next (r.2.answer r.1)

end Sys2Proof.Machine
end

