-- ==== Sys2Proof/Machine/Marks.lean ====
section
/-! DEFINITION. Cycle marks of the Ruling instances and what they start (R318, R154, R58, R187, R326, R339, R403). -/
namespace Sys2Proof.Machine

/-- Burin sync starts that mark `m` of TTn triggers (Table 6.6). -/
def State.markSyncs (s : State) (k : Nat) : State :=
  (List.range 8).foldl (fun s c =>
    if s.on (CC.BSYNC_ARM c) && s.f (CC.BSYNC_TRIG c) == 2 && s.f (CC.BSYNC_MARK c) == k && !s.syncDue.contains c then
      { s with syncDue := s.syncDue ++ [c] }
    else s) s

/-- Image publications of mark `m` of TTn (R326). -/
def State.markImages (s : State) (n m : Nat) : State :=
  s.enabledImages.foldl (fun s i =>
    if !s.on (PLT.IMGCFG_PUB i) && s.f (PLT.IMGCFG_TT i) == n && s.f (PLT.IMGCFG_MARK i) == m then s.imageMark i else s) s

/-- Mark `m` of TTn fires. -/
def State.markFires (s : State) (n m : Nat) : State :=
  let k := 16 * n + m
  ((((s.fireBoth (1 + k)).markSyncs k).markImages n m).lpTrigger (1 + k)).coreMarks n m

/-- CYCLE_MARK (R318): an enabled mark whose OFFSET lies in the cycle, while the instance fires marks. -/
def execCycleMark (n : Fin 4) (m : Fin 16) (s : State) : Out :=
  .next (if s.markActive n m then s.markFires n m else s)

end Sys2Proof.Machine
end

