-- ==== Sys2Proof/Machine/PantoRun.lean ====
section
/-! DEFINITION. What a Pantograph channel executes (R418–R426): reach, transfers of both classes, lists, loops, WAIT, SIGNAL, FENCE, HALT.
A row's command is the channel's turn: it acts when the instruction at CHPC is the row's. -/
namespace Sys2Proof.Machine

/-! ## Reach (Table 15.1) -/

/-- Row of Table 15.1 an address lies in, for the register class or the buffer class. -/
def reachRow (n : Nat) (reg : Bool) (a : Nat) : Option Nat :=
  if inPlate a 1 then some 0
  else if inPlateOrAlias a 1 then some 1
  else if inScratch n a 1 then some (2 + (a - 0x20000000) / 0x40000)
  else if 0x21000000 + n * 0x400000 ≤ a ∧ a < 0x21400000 + n * 0x400000 then some 1000
  else if 0x80000000 ≤ a ∧ a < 0x100000000 then some 1001
  else if reg && (blockTable a).isSome && a / 0x10000 != 0x4001 && a / 0x10000 != 0x4006
      && !(decide (0x4030 ≤ a / 0x10000) && decide (a / 0x10000 < 0x4034))
      && !(decide (0x4020 ≤ a / 0x10000) && decide (a / 0x10000 < 0x4028) && decide (0x8000 ≤ a % 0x10000)) then some 1002
  else none

/-- Does a range lie in one reachable row? The row of the register blocks has gaps: every half block of the range must lie in it. -/
def reaches (n : Nat) (reg : Bool) (a len : Nat) : Bool :=
  match reachRow n reg a with
  | none => false
  | some r =>
    reachRow n reg (a + len - 1) == some r
      && (r != 1002 || (List.range ((a + len - 1) / 0x8000 - a / 0x8000)).all (fun i => reachRow n reg ((a / 0x8000 + i + 1) * 0x8000) == some r))

/-- Identity of a channel's requests (R414). -/
def State.panRq (s : State) (n j : Nat) : Rq := ⟨BitVec.ofNat 8 (s.f (DM.CHCFG_OWNER n j)), none, none, 0, false, false⟩

/-- Credits that must be left besides on the queues of a cluster or of the region: queue, class, direction, number. Of their Bulk credits those
reserved for checkpoints (R162) are left alone. -/
def dmNeeds (n a len : Nat) (write : Bool) : List (Nat × Nat × Nat × Nat) :=
  let d := if write then 0 else 1
  if inScratch n a len then [(0x18 + (a - 0x20000000) / 0x40000 / 3, 3, 1 - d, entries len + 4)]
  else if a / 0x400000 = 0x84 + n then []
  else [(0x38 + n, 3, d, entries len + 8)]

/-- Has channel `j` of instance `n` the credits for an access, on every queue of its way? Without them its engine stalls. -/
def State.dmReady (s : State) (n j a len : Nat) (write : Bool) : Bool :=
  let rq := s.panRq n j
  (dmNeeds n a len write).all (fun q => decide (q.2.2.2 ≤ (s.pool q.1 q.2.1 q.2.2.1).avail))
    && s.mayPass (reqQueues (0x34 + n) rq.id.toNat a) len write true && s.banksOpen rq a len write true

/-- An access passes the queues on its way. -/
def State.dmCarry (s : State) (n id a len : Nat) (write : Bool) : State := s.carryOver (reqQueues (0x34 + n) id a) len write true

/-- One read access of channel `j`: code, bytes, state. A scratchpad of the region admits every channel of its instance (Table 5.3). -/
def State.panRead (s : State) (n j : Nat) (reg : Bool) (a len : Nat) : Nat × List Byte × State :=
  let rq := s.panRq n j
  let zeros : List Byte := List.replicate len 0
  if !reaches n reg a len then (2, zeros, s)
  else
    match s.fabRefused (0x34 + n) rq a with
    | some t => (2, zeros, t)
    | none =>
      let s := s.dmCarry n rq.id.toNat a len false
      if inScratch n a len then
        let c := s.busCode rq a len
        if c ≠ 0 then (c, zeros, s) else (s.wakeDoze a).ramRead a len
      else s.busRead rq a len true

/-- One write access of channel `j`; bytes written and answered are counted (R430), the last host address is kept for the flush (R425). -/
def State.panWrite (s : State) (n j : Nat) (reg : Bool) (a : Nat) (bs : List Byte) : Nat × State :=
  let rq := s.panRq n j
  let len := bs.length
  if !reaches n reg a len then (2, s)
  else
    match s.fabRefused (0x34 + n) rq a with
    | some t => (2, t)
    | none =>
      let s := s.dmCarry n rq.id.toNat a len true
      let r : Nat × State :=
        if inScratch n a len then
          let c := s.busCode rq a len
          if c ≠ 0 then (c, s) else (s.wakeDoze a).ramWrite a bs
        else s.busWrite rq a bs true
      if r.1 ≠ 0 then r
      else
        let t := r.2.setF (DM.CHBYTES_BYTES n j) ((r.2.f (DM.CHBYTES_BYTES n j) + len) % 2 ^ 32)
        let t := t.countPart (0x63C + 3 * (16 * n + j)) 64 len
        (0, if 0x80000000 ≤ a then t.setPan n j { t.pan n j with host := some (a + len - 1) } else t)

/-! ## Turns (R427) -/

/-- Does channel `k` want the engines: a transfer of it is under way, or is its next instruction? -/
def State.dmWants (s : State) (n k : Nat) : Bool :=
  s.chanSt n k == 1 && ((s.pan n k).xfer.isSome ||
    (let a := 16 * s.f (DM.CHPC_PC n k)
     let r := s.panRead n k false a 16
     fetchRange n a && r.1 == 0 && decide (1 ≤ leNat (r.2.1.take 1) % 16) && decide (leNat (r.2.1.take 1) % 16 ≤ 3)))

/-- Other channels of the instance that want the engines. -/
def State.dmRivals (s : State) (n j : Nat) : List Nat := (List.range 16).filter (fun k => k != j && s.dmWants n k)

/-- Those at the channel's level of priority. -/
def State.dmPeers (s : State) (n j : Nat) : List Nat := (s.dmRivals n j).filter (fun k => s.on (DM.CHCFG_PRI n k) == s.on (DM.CHCFG_PRI n j))

/-- Is it channel `j`'s turn: none of higher priority wants the engines, and in rotating order it is the first of its level? -/
def State.dmTurn (s : State) (n j : Nat) : Bool :=
  let p := tabGet s.dmPtr 0 n
  (s.on (DM.CHCFG_PRI n j) || (s.dmRivals n j).all (fun k => !s.on (DM.CHCFG_PRI n k)))
    && (s.dmPeers n j).all (fun k => decide ((j + 16 - p) % 16 < (k + 16 - p) % 16))

/-- Accesses of each engine in a turn: BURST + 1, and as many as the transfer takes while no other channel of the level wants one. -/
def State.dmBurst (s : State) (n j : Nat) : Nat := if (s.dmPeers n j).isEmpty then 2 ^ 33 else s.f (DM.CHCFG_BURST n j) + 1

/-- After a turn that others wait for, the next channel is served. -/
def State.dmPass (s : State) (n j : Nat) : State := if (s.dmPeers n j).isEmpty then s else { s with dmPtr := tabPut s.dmPtr n ((j + 1) % 16) }

/-! ## Transfers -/

/-- One side of a transfer: register class, width in bytes, fixed. -/
structure PSide where
  reg : Bool
  width : Nat
  fixed : Bool
deriving DecidableEq, Repr

/-- Length of the next access of a side at `a` with `n` bytes left: its width, or up to the next 32-byte boundary (R422, R423). -/
def sideLen (d : PSide) (a n : Nat) : Nat := if d.reg then d.width else min n (32 - a % 32)

/-- Address after an access of `k` bytes. -/
def sideNext (d : PSide) (a k : Nat) : Nat := if d.fixed then a else a + k

/-- What a transfer has come to in a turn: response code, failing address, next source and destination address, state; bytes still to read and to
write of its range, bytes in the segment, reads and writes left of the turn; next list entry and entries left. -/
structure PMove where
  code : Nat
  bad : Nat
  src : Nat
  dst : Nat
  st : State
  rd : Nat
  wr : Nat
  hold : List Byte
  reads : Nat
  writes : Nat
  la : Nat := 0
  ents : Nat := 0

/-- Bytes that may wait between the engines: a channel's segment of the buffer (R427), in the register class the 64-bit holding register (R422). -/
def PSide.room (d : PSide) : Nat := if d.reg then 8 else 4096

/-- Copies the bytes that are left of a range (R422, R423): a write is made as soon as its bytes are there, a read when there is room for the whole
response; an engine stops when the turn is over, or stalls without credits, and holds up the other only by bytes or room that it lacks (R427). -/
def copyRun (n j : Nat) (x y : PSide) (fuel : Nat) (m : PMove) : PMove :=
  match fuel with
  | 0 => m
  | k + 1 =>
    if m.wr = 0 then m
    else
      let dl := sideLen y m.dst m.wr
      if dl ≤ m.hold.length ∧ m.writes ≠ 0 ∧ m.st.dmReady n j m.dst dl true then
        let r := m.st.panWrite n j y.reg m.dst (m.hold.take dl)
        if r.1 ≠ 0 then { m with code := r.1, bad := m.dst, st := r.2 }
        else copyRun n j x y k { m with
          dst := sideNext y m.dst dl, st := r.2, wr := m.wr - dl, hold := m.hold.drop dl, writes := m.writes - 1 }
      else
        let sl := sideLen x m.src m.rd
        if m.rd = 0 ∨ m.reads = 0 ∨ x.room < m.hold.length + sl ∨ !m.st.dmReady n j m.src sl false then m
        else
          let r := m.st.panRead n j x.reg m.src sl
          if r.1 ≠ 0 then { m with code := r.1, bad := m.src, st := r.2.2 }
          else copyRun n j x y k { m with
            src := sideNext x m.src sl, st := r.2.2, rd := m.rd - sl, hold := m.hold ++ r.2.1, reads := m.reads - 1 }

/-- Copies what is left of a range in this turn. -/
def PMove.copy (m : PMove) (n j : Nat) (x y : PSide) : PMove := copyRun n j x y (m.rd + m.wr) m

/-- A range of `len` bytes at the start of a turn. -/
def State.range0 (s : State) (n j sa da len : Nat) : PMove := ⟨0, 0, sa, da, s, len, len, [], s.dmBurst n j, s.dmBurst n j, 0, 0⟩

/-- Is a length legal for the sides (R422)? -/
def lenFits (x y : PSide) (len : Nat) : Bool := !x.reg || len % max x.width y.width == 0

/-- Is an address aligned to a side's width (R422)? -/
def sideAligned (d : PSide) (a : Nat) : Bool := !d.reg || a % d.width == 0

/-- Reads the list entry at `la`: code of Table 15.7, address, length, state (R421). -/
def State.listEntry (s : State) (n j : Nat) (side : PSide) (la : Nat) : Nat × Nat × Nat × State :=
  if la % 16 ≠ 0 ∨ !(inPlate la 16 || inScratch n la 16) then (8, 0, 0, s)
  else
    let r := s.panRead n j false la 16
    if r.1 ≠ 0 then (r.1, 0, 0, r.2.2)
    else
      let a := leNat (r.2.1.take 8)
      let len := leNat ((r.2.1.drop 8).take 4)
      let span := if side.fixed then side.width else len
      if leNat (r.2.1.drop 12) ≠ 0 ∨ (len ≠ 0 ∧ !(decide (a < 2 ^ 32) && reaches n side.reg a span)) then (8, 0, 0, r.2.2)
      else (0, a, len, r.2.2)

/-- GATHER (`gather`) or SCATTER: the range under way, then the `k` list entries from `m.la` on; the running address is the destination or the source,
the other ends where the last entry's bytes ended. -/
def listRun (n j : Nat) (gather : Bool) (x y : PSide) (ins k : Nat) (m : PMove) : PMove :=
  let m := { m.copy n j x y with ents := k }
  match k with
  | 0 => m
  | k + 1 =>
    if m.code ≠ 0 ∨ m.wr ≠ 0 ∨ m.reads = 0 ∨ !m.st.dmReady n j m.la 16 false then m
    else
      let e := m.st.listEntry n j (if gather then x else y) m.la
      let m := { m with st := e.2.2.2, reads := m.reads - 1 }
      if e.1 ≠ 0 then { m with code := e.1, bad := m.la }
      else
        let a := e.2.1
        let len := e.2.2.1
        let m := { m with la := m.la + 16 }
        if len = 0 then listRun n j gather x y ins k m
        else if !lenFits x y len || !sideAligned (if gather then x else y) a then { m with code := 7, bad := ins }
        else listRun n j gather x y ins k
          { m with src := if gather then a else m.src, dst := if gather then m.dst else a, rd := len, wr := len, hold := [] }

/-! ## Instructions -/

/-- Source codes of a WAIT (R426). -/
def waitSource (c : Nat) : Bool := waitCode c || (decide (0x88 ≤ c) && decide (c ≤ 0x97))

/-- Is a field of word 0 zero? -/
def zeroBits (w lo n : Nat) : Bool := bitsOf w lo n == 0

/-- Is the instruction legal (R418, Tables 15.4, 15.5)? A Count of 0 and a fifth loop are loop errors instead. -/
def pinsLegal (i : PIns) : Bool :=
  let op := i.w0 % 16
  let w := i.w0
  let none5 := zeroBits w 4 7 && zeroBits w 11 2
  zeroBits w 14 2 &&
  (if op = 1 ∨ op = 2 ∨ op = 3 then
    zeroBits w 13 1 && zeroBits w 16 16 && (bitOf w 4 || zeroBits w 5 6)
      && decide (1 ≤ i.w3) && decide (i.w3 ≤ if op = 1 then 16777216 else 65536)
  else if op = 4 then zeroBits w 4 7 && zeroBits w 13 1 && zeroBits w 16 16 && decide (i.w3 ≤ 16777216)
  else if op = 6 then none5 && zeroBits w 13 1 && waitSource (bitsOf w 16 8) && zeroBits w 24 8 && i.w1 == 0 && i.w2 == 0
  else if op = 7 then none5 && i.w3 == 0
  else if op = 0 ∨ op = 5 ∨ op = 8 then
    none5 && zeroBits w 13 1 && zeroBits w 16 16 && i.w1 == 0 && i.w2 == 0 && i.w3 == 0
  else false)

/-- The next instruction of channel `j`. -/
def State.panNext (s : State) (n j : Nat) : State := s.setF (DM.CHPC_PC n j) ((s.f (DM.CHPC_PC n j) + 1) % 2 ^ 28)

/-- Sides of a transfer (Table 15.4). -/
def srcSide (i : PIns) : PSide := ⟨bitOf i.w0 4, 2 ^ bitsOf i.w0 5 2, bitOf i.w0 9⟩
def dstSide (i : PIns) : PSide := ⟨bitOf i.w0 4, 2 ^ bitsOf i.w0 7 2, bitOf i.w0 10⟩

/-- A turn of a transfer ends: with the channel error; or the transfer is complete, and the pointers stand past it; or it goes on in a later turn
(R419, R427, R429). -/
def endMove (n j : Nat) (i : PIns) (m : PMove) : State :=
  let t := m.st.dmPass n j
  if m.code ≠ 0 then t.chanErr n j m.code m.bad false
  else if m.wr ≠ 0 ∨ m.ents ≠ 0 then t.setPan n j { t.pan n j with xfer := some ⟨i, m.src, m.dst, m.rd, m.wr, m.hold, m.la, m.ents⟩ }
  else ((t.setPan n j { t.pan n j with xfer := none }).setFs
    [(DM.CHPSRC_A n j, m.src % 2 ^ 32), (DM.CHPDST_A n j, m.dst % 2 ^ 32)]).panNext n j

/-- Address of word 1 or PSRC; of word 2 or PDST (R419). -/
def State.panSrc (s : State) (n j : Nat) (i : PIns) : Nat := if bitOf i.w0 11 then s.f (DM.CHPSRC_A n j) else i.w1
def State.panDst (s : State) (n j : Nat) (i : PIns) : Nat := if bitOf i.w0 12 then s.f (DM.CHPDST_A n j) else i.w2

/-- An instruction that fences enters FENCING (Tables 15.3, 15.6) and waits there for the responses of the channel's writes. -/
def State.dmFencing (s : State) (n j : Nat) (i : PIns) : State :=
  (s.setPan n j { s.pan n j with xfer := some ⟨i, 0, 0, 0, 0, [], 0, 0⟩ }).setDmChan n j 3

/-- FENCE, SIGNAL and HALT: the channel enters FENCING, and once its writes are answered `go` follows, in RUN again. The writes of a turn have been
answered by its end (DESIGN CHOICE, log 50), so the next turn finds them so. -/
def State.dmFenced (s : State) (n j : Nat) (i : PIns) (go : State → State) : State :=
  if s.chanSt n j = 3 then go ((s.setPan n j { s.pan n j with xfer := none }).setDmChan n j 1) else s.dmFencing n j i

/-- The instruction at CHPC, when channel `j` runs: fetched with the channel's identity from the ranges of Table 15.1, and used as it was fetched;
`run` is called when it is a legal instruction with opcode `op`. A row for another opcode finds nothing to do. -/
def State.panStep (s : State) (n j op : Nat) (run : PIns → Nat → State → State) : State :=
  if (s.chanSt n j ≠ 1 ∧ s.chanSt n j ≠ 3) ∨ s.regionDown n then s
  else
    let a := 16 * s.f (DM.CHPC_PC n j)
    match (s.pan n j).xfer with
    | some q => if q.ins.w0 % 16 = op then run q.ins a s else s
    | none =>
      let r : Nat × List Byte × State := if fetchRange n a then s.panRead n j false a 16 else (2, [], s)
      if r.1 ≠ 0 then r.2.2.chanErr n j r.1 a true
      else
        let w (k : Nat) : Nat := leNat ((r.2.1.drop (4 * k)).take 4)
        let i : PIns := ⟨w 0, w 1, w 2, w 3⟩
        if !pinsLegal i then r.2.2.chanErr n j 6 a false
        else if i.w0 % 16 = op then run i a r.2.2
        else s

/-- The transfer under way, at the start of a turn. -/
def State.resumed (s : State) (n j : Nat) (q : PXfer) : PMove :=
  ⟨0, 0, q.src, q.dst, s, q.rd, q.wr, q.hold, s.dmBurst n j, s.dmBurst n j, q.la, q.ents⟩

/-- MOVE (R418, R422, R423): a turn of it (R427). -/
def State.panMove (s : State) (n j : Nat) (i : PIns) (ins : Nat) : State :=
  let x := srcSide i
  let y := dstSide i
  let sa := s.panSrc n j i
  let da := s.panDst n j i
  if !s.dmTurn n j then s
  else
    match (s.pan n j).xfer with
    | some q => endMove n j i ((s.resumed n j q).copy n j x y)
    | none =>
      if !lenFits x y i.w3 || !sideAligned x sa || !sideAligned y da then s.chanErr n j 7 ins false
      else endMove n j i ((s.range0 n j sa da i.w3).copy n j x y)

/-- GATHER: the list stands where the source does. -/
def State.panGather (s : State) (n j : Nat) (i : PIns) (ins : Nat) : State :=
  let x := srcSide i
  let y := dstSide i
  let da := s.panDst n j i
  if !s.dmTurn n j then s
  else
    match (s.pan n j).xfer with
    | some q => endMove n j i (listRun n j true x y ins q.ents (s.resumed n j q))
    | none =>
      if !sideAligned y da then s.chanErr n j 7 ins false
      else endMove n j i (listRun n j true x y ins i.w3 { s.range0 n j (s.f (DM.CHPSRC_A n j)) da 0 with la := s.panSrc n j i })

/-- SCATTER: the list stands where the destination does. -/
def State.panScatter (s : State) (n j : Nat) (i : PIns) (ins : Nat) : State :=
  let x := srcSide i
  let y := dstSide i
  let sa := s.panSrc n j i
  if !s.dmTurn n j then s
  else
    match (s.pan n j).xfer with
    | some q => endMove n j i (listRun n j false x y ins q.ents (s.resumed n j q))
    | none =>
      if !sideAligned x sa then s.chanErr n j 7 ins false
      else endMove n j i (listRun n j false x y ins i.w3 { s.range0 n j sa (s.f (DM.CHPDST_A n j)) 0 with la := s.panDst n j i })

/-- LOOP (R420). -/
def State.panLoop (s : State) (n j : Nat) (i : PIns) (ins : Nat) : State :=
  let p := s.pan n j
  if p.loops.length = 4 ∨ i.w3 = 0 then s.chanErr n j 9 ins false
  else
    let s := if bitOf i.w0 11 then s.setF (DM.CHPSRC_A n j) i.w1 else s
    let s := if bitOf i.w0 12 then s.setF (DM.CHPDST_A n j) i.w2 else s
    (s.setPan n j { p with loops := (s.f (DM.CHPC_PC n j) + 1, i.w3) :: p.loops }).panNext n j

/-- ENDLOOP (R420). -/
def State.panEndloop (s : State) (n j ins : Nat) : State :=
  let p := s.pan n j
  match p.loops with
  | [] => s.chanErr n j 9 ins false
  | (b, c) :: t =>
    if c ≤ 1 then (s.setPan n j { p with loops := t }).panNext n j
    else (s.setPan n j { p with loops := (b, c - 1) :: t }).setF (DM.CHPC_PC n j) b

/-- WAIT (R426). -/
def State.panWait (s : State) (n j : Nat) (i : PIns) : State :=
  let p := s.pan n j
  let c := bitsOf i.w0 16 8
  if p.armed = some c ∧ s.on (DM.CHSTAT_WPEND n j) then (s.setF (DM.CHSTAT_WPEND n j) 0).panNext n j
  else
    let s := if p.armed = some c then s else s.setF (DM.CHSTAT_WPEND n j) 0
    (s.setPan n j { p with armed := some c, tmo := i.w3 }).setDmChan n j 2

/-- Steps 4 and 5 of Table 15.6. -/
def State.panSignalled (s : State) (n j imm : Nat) : State :=
  let s := s.setFs [(DM.CHSIG_LAST n j, imm), (DM.CHSIG_SIGCNT n j, (s.f (DM.CHSIG_SIGCNT n j) + 1) % 2 ^ 16)]
  let s := s.count (0x63C + 3 * (16 * n + j) + 1)
  let s := s.fireFor (fun th => th / 48 == n) (0x88 + j)
  (s.tplSubmit (16 * n + j) (s.f (DM.CHCFG_OWNER n j))).toPanto (0x88 + j) n

/-- SIGNAL from step 2 on (Table 15.6). -/
def State.panSignal (s : State) (n j : Nat) (i : PIns) (ins : Nat) : State :=
  let flush : Nat × Nat × State :=
    match (s.pan n j).host with
    | none => (0, 0, s)
    | some h =>
      let r := s.panRead n j true (h / 4 * 4) 4
      (r.1, h / 4 * 4, r.2.2)
  if flush.1 ≠ 0 then flush.2.2.chanErr n j flush.1 flush.2.1 false
  else
    let s := flush.2.2
    if bitOf i.w0 13 && i.w1 % 4 != 0 then s.chanErr n j 7 ins false
    else
      let r := if bitOf i.w0 13 then s.panWrite n j true i.w1 (leBytes 4 i.w2) else (0, s)
      if r.1 ≠ 0 then r.2.chanErr n j r.1 i.w1 false
      else
        let s := r.2.setPan n j { r.2.pan n j with host := none }
        (s.panSignalled n j (bitsOf i.w0 16 16)).panNext n j

/-- HALT, fenced: IDLE with CAUSE 1 (Table 15.5, R420). -/
def State.panHalt (s : State) (n j : Nat) : State := (s.setF (DM.CHSTAT_CAUSE n j) 1).setDmChan n j 0

/-! ## Meanings -/

/-- PANTO_MOVE. -/
def execPantoMove (n : Fin 4) (j : Fin 16) (s : State) : Out := .next (s.panStep n j 1 (fun i a s => s.panMove n j i a))

/-- PANTO_GATHER. -/
def execPantoGather (n : Fin 4) (j : Fin 16) (s : State) : Out := .next (s.panStep n j 2 (fun i a s => s.panGather n j i a))

/-- PANTO_SCATTER. -/
def execPantoScatter (n : Fin 4) (j : Fin 16) (s : State) : Out := .next (s.panStep n j 3 (fun i a s => s.panScatter n j i a))

/-- PANTO_LOOP. -/
def execPantoLoop (n : Fin 4) (j : Fin 16) (s : State) : Out := .next (s.panStep n j 4 (fun i a s => s.panLoop n j i a))

/-- PANTO_ENDLOOP. -/
def execPantoEndloop (n : Fin 4) (j : Fin 16) (s : State) : Out := .next (s.panStep n j 5 (fun _ a s => s.panEndloop n j a))

/-- PANTO_WAIT. -/
def execPantoWait (n : Fin 4) (j : Fin 16) (s : State) : Out := .next (s.panStep n j 6 (fun i _ s => s.panWait n j i))

/-- PANTO_SIGNAL. -/
def execPantoSignal (n : Fin 4) (j : Fin 16) (s : State) : Out := .next (s.panStep n j 7 (fun i a s => s.dmFenced n j i (fun s => s.panSignal n j i a)))

/-- PANTO_FENCE (R424). -/
def execPantoFence (n : Fin 4) (j : Fin 16) (s : State) : Out := .next (s.panStep n j 8 (fun i _ s => s.dmFenced n j i (fun s => s.panNext n j)))

/-- PANTO_HALT. -/
def execPantoHalt (n : Fin 4) (j : Fin 16) (s : State) : Out := .next (s.panStep n j 0 (fun i a s => if (s.pan n j).loops.isEmpty then s.dmFenced n j i (fun s => s.panHalt n j) else s.chanErr n j 9 a false))

end Sys2Proof.Machine
end

