-- ==== Sys2Proof/Machine/Dispatch.lean ====
section
/-! DEFINITION. The one match over the commands: each arm is one call of the command's meaning. -/
namespace Sys2Proof.Machine

def exec (i : Instr) (s : State) : Host.Outcome State Fault Refusal :=
  match i with
  | .registerWrite unit rq addr val => Sys2Proof.Machine.execRegisterWrite unit rq addr val s
  | .fabricRequest reqs => Sys2Proof.Machine.execFabricRequest reqs s
  | .creditReturn q cls dir => Sys2Proof.Machine.execCreditReturn q cls dir s
  | .unitLocalReset unit => Sys2Proof.Machine.execUnitLocalReset unit s
  | .refclkLossDeclared refB => Sys2Proof.Machine.execRefclkLossDeclared refB s
  | .referenceSwitchComplete => Sys2Proof.Machine.execReferenceSwitchComplete s
  | .returnA rq => Sys2Proof.Machine.execReturnA rq s
  | .referenceReturnComplete => Sys2Proof.Machine.execReferenceReturnComplete s
  | .pllStart aPresent bPresent => Sys2Proof.Machine.execPllStart aPresent bPresent s
  | .flitReceive toPort flit => Sys2Proof.Machine.execFlitReceive toPort flit s
  | .laneFailure lane => Sys2Proof.Machine.execLaneFailure lane s
  | .laneSparingComplete => Sys2Proof.Machine.execLaneSparingComplete s
  | .bar2Access f write off len data => Sys2Proof.Machine.execBar2Access f write off len data s
  | .msixMaskClear f v => Sys2Proof.Machine.execMsixMaskClear f v s
  | .functionLevelReset f => Sys2Proof.Machine.execFunctionLevelReset f s
  | .pcieHotReset => Sys2Proof.Machine.execPcieHotReset s
  | .sessionOpen h lo hi credits keepalive => Sys2Proof.Machine.execSessionOpen h lo hi credits keepalive s
  | .sessionClose h => Sys2Proof.Machine.execSessionClose h s
  | .sessionPing h => Sys2Proof.Machine.execSessionPing h s
  | .subscribe h mask => Sys2Proof.Machine.execSubscribe h mask s
  | .deviceInfo h => Sys2Proof.Machine.execDeviceInfo h s
  | .keepaliveTimeout n => Sys2Proof.Machine.execKeepaliveTimeout n s
  | .noCreditReply h op => Sys2Proof.Machine.execNoCreditReply h op s
  | .queuedEventPost n batch => Sys2Proof.Machine.execQueuedEventPost n batch s
  | .commandCompletion n tag sig flashOk found => Sys2Proof.Machine.execCommandCompletion n tag sig flashOk found s
  | .persLoad h ce ts claims => Sys2Proof.Machine.execPersLoad h ce ts claims s
  | .persStart h th => Sys2Proof.Machine.execPersStart h th s
  | .persStop h th => Sys2Proof.Machine.execPersStop h th s
  | .persQuery h th => Sys2Proof.Machine.execPersQuery h th s
  | .persUnload h th => Sys2Proof.Machine.execPersUnload h th s
  | .portConfig h p ws => Sys2Proof.Machine.execPortConfig h p ws s
  | .portStatus h p => Sys2Proof.Machine.execPortStatus h p s
  | .portCounters h p => Sys2Proof.Machine.execPortCounters h p s
  | .fdbWrite h vlan es => Sys2Proof.Machine.execFdbWrite h vlan es s
  | .streamWrite h meter es => Sys2Proof.Machine.execStreamWrite h meter es s
  | .queueConfig h ws => Sys2Proof.Machine.execQueueConfig h ws s
  | .stencilWrite h p cycle baseNs baseSec entries => Sys2Proof.Machine.execStencilWrite h p cycle baseNs baseSec entries s
  | .timeGet h => Sys2Proof.Machine.execTimeGet h s
  | .timeSet h sec ns => Sys2Proof.Machine.execTimeSet h sec ns s
  | .servoConfig h ws => Sys2Proof.Machine.execServoConfig h ws s
  | .tioConfig h ws ask => Sys2Proof.Machine.execTioConfig h ws ask s
  | .rulConfig h n ws margin guards => Sys2Proof.Machine.execRulConfig h n ws margin guards s
  | .markConfig h n ws => Sys2Proof.Machine.execMarkConfig h n ws s
  | .rulStart h n => Sys2Proof.Machine.execRulStart h n s
  | .rulStop h n => Sys2Proof.Machine.execRulStop h n s
  | .imageDefine h ix ws => Sys2Proof.Machine.execImageDefine h ix ws s
  | .imageMap h ix => Sys2Proof.Machine.execImageMap h ix s
  | .loopWrite h r => Sys2Proof.Machine.execLoopWrite h r s
  | .captureRead h c ws => Sys2Proof.Machine.execCaptureRead h c ws s
  | .loopRead h slot => Sys2Proof.Machine.execLoopRead h slot s
  | .tsgConfig h ws => Sys2Proof.Machine.execTsgConfig h ws s
  | .mbConfig h k ws => Sys2Proof.Machine.execMbConfig h k ws s
  | .mbStatus h k => Sys2Proof.Machine.execMbStatus h k s
  | .nmConfig h ws => Sys2Proof.Machine.execNmConfig h ws s
  | .sleepRequest h r => Sys2Proof.Machine.execSleepRequest h r s
  | .wakeRequest h r => Sys2Proof.Machine.execWakeRequest h r s
  | .schedStats h => Sys2Proof.Machine.execSchedStats h s
  | .coreConfig h ws => Sys2Proof.Machine.execCoreConfig h ws s
  | .applicationMessage rq c ws => Sys2Proof.Machine.execApplicationMessage rq c ws s
  | .epochConfig h ws => Sys2Proof.Machine.execEpochConfig h ws s
  | .impressionRead h slot => Sys2Proof.Machine.execImpressionRead h slot s
  | .stippleConfig h ws => Sys2Proof.Machine.execStippleConfig h ws s
  | .draftOpen h => Sys2Proof.Machine.execDraftOpen h s
  | .draftWrite h ws => Sys2Proof.Machine.execDraftWrite h ws s
  | .draftActivate h ns sec epoch expect refEn refTt => Sys2Proof.Machine.execDraftActivate h ns sec epoch expect refEn refTt s
  | .draftDiscard h => Sys2Proof.Machine.execDraftDiscard h s
  | .sealGet h => Sys2Proof.Machine.execSealGet h s
  | .topologyRead h => Sys2Proof.Machine.execTopologyRead h s
  | .scan h => Sys2Proof.Machine.execScan h s
  | .faultRead h u => Sys2Proof.Machine.execFaultRead h u s
  | .proofFetch h => Sys2Proof.Machine.execProofFetch h s
  | .proofClear h => Sys2Proof.Machine.execProofClear h s
  | .powerSet h req => Sys2Proof.Machine.execPowerSet h req s
  | .powerGet h => Sys2Proof.Machine.execPowerGet h s
  | .installBegin h => Sys2Proof.Machine.execInstallBegin h s
  | .installData h off => Sys2Proof.Machine.execInstallData h off s
  | .installCommit h dig => Sys2Proof.Machine.execInstallCommit h dig s
  | .installStatus h => Sys2Proof.Machine.execInstallStatus h s
  | .slotWrite rq c slot w val => Sys2Proof.Machine.execSlotWrite rq c slot w val s
  | .slotRead rq c slot w => Sys2Proof.Machine.execSlotRead rq c slot w s
  | .commit rq c => Sys2Proof.Machine.execCommit rq c s
  | .release rq c => Sys2Proof.Machine.execRelease rq c s
  | .doorbellMaskWrite rq id val => Sys2Proof.Machine.execDoorbellMaskWrite rq id val s
  | .doorbellSet rq id bit => Sys2Proof.Machine.execDoorbellSet rq id bit s
  | .bindLock rq => Sys2Proof.Machine.execBindLock rq s
  | .mbxCtxopClear rq key => Sys2Proof.Machine.execMbxCtxopClear rq key s
  | .mbxCtxopRevert rq key => Sys2Proof.Machine.execMbxCtxopRevert rq key s
  | .claimRead k rqs => Sys2Proof.Machine.execClaimRead k rqs s
  | .claimReleaseWrite rq k val => Sys2Proof.Machine.execClaimReleaseWrite rq k val s
  | .claimForceRelease rq k => Sys2Proof.Machine.execClaimForceRelease rq k s
  | .add c f => Sys2Proof.Machine.execAdd c f s
  | .adds c f => Sys2Proof.Machine.execAdds c f s
  | .sub c f => Sys2Proof.Machine.execSub c f s
  | .subs c f => Sys2Proof.Machine.execSubs c f s
  | .neg c f => Sys2Proof.Machine.execNeg c f s
  | .and c f => Sys2Proof.Machine.execAnd c f s
  | .or c f => Sys2Proof.Machine.execOr c f s
  | .xor c f => Sys2Proof.Machine.execXor c f s
  | .andn c f => Sys2Proof.Machine.execAndn c f s
  | .sll c f => Sys2Proof.Machine.execSll c f s
  | .srl c f => Sys2Proof.Machine.execSrl c f s
  | .sra c f => Sys2Proof.Machine.execSra c f s
  | .ror c f => Sys2Proof.Machine.execRor c f s
  | .mul c f => Sys2Proof.Machine.execMul c f s
  | .mulh c f => Sys2Proof.Machine.execMulh c f s
  | .mulhu c f => Sys2Proof.Machine.execMulhu c f s
  | .div c f => Sys2Proof.Machine.execDiv c f s
  | .divu c f => Sys2Proof.Machine.execDivu c f s
  | .rem c f => Sys2Proof.Machine.execRem c f s
  | .remu c f => Sys2Proof.Machine.execRemu c f s
  | .min c f => Sys2Proof.Machine.execMin c f s
  | .max c f => Sys2Proof.Machine.execMax c f s
  | .minu c f => Sys2Proof.Machine.execMinu c f s
  | .maxu c f => Sys2Proof.Machine.execMaxu c f s
  | .ceq c f => Sys2Proof.Machine.execCeq c f s
  | .cne c f => Sys2Proof.Machine.execCne c f s
  | .clt c f => Sys2Proof.Machine.execClt c f s
  | .cltu c f => Sys2Proof.Machine.execCltu c f s
  | .cle c f => Sys2Proof.Machine.execCle c f s
  | .cleu c f => Sys2Proof.Machine.execCleu c f s
  | .clz c f => Sys2Proof.Machine.execClz c f s
  | .popc c f => Sys2Proof.Machine.execPopc c f s
  | .brev c f => Sys2Proof.Machine.execBrev c f s
  | .parity c f => Sys2Proof.Machine.execParity c f s
  | .sext c f => Sys2Proof.Machine.execSext c f s
  | .crcb c f => Sys2Proof.Machine.execCrcb c f s
  | .crch c f => Sys2Proof.Machine.execCrch c f s
  | .crcw c f => Sys2Proof.Machine.execCrcw c f s
  | .crcbm c f => Sys2Proof.Machine.execCrcbm c f s
  | .crchm c f => Sys2Proof.Machine.execCrchm c f s
  | .crcwm c f => Sys2Proof.Machine.execCrcwm c f s
  | .addi c f => Sys2Proof.Machine.execAddi c f s
  | .andi c f => Sys2Proof.Machine.execAndi c f s
  | .ori c f => Sys2Proof.Machine.execOri c f s
  | .xori c f => Sys2Proof.Machine.execXori c f s
  | .slli c f => Sys2Proof.Machine.execSlli c f s
  | .srli c f => Sys2Proof.Machine.execSrli c f s
  | .srai c f => Sys2Proof.Machine.execSrai c f s
  | .rori c f => Sys2Proof.Machine.execRori c f s
  | .ceqi c f => Sys2Proof.Machine.execCeqi c f s
  | .clti c f => Sys2Proof.Machine.execClti c f s
  | .cltui c f => Sys2Proof.Machine.execCltui c f s
  | .lui c f => Sys2Proof.Machine.execLui c f s
  | .bfx c f => Sys2Proof.Machine.execBfx c f s
  | .bfxs c f => Sys2Proof.Machine.execBfxs c f s
  | .bfi c f => Sys2Proof.Machine.execBfi c f s
  | .lb c f => Sys2Proof.Machine.execLb c f s
  | .lbu c f => Sys2Proof.Machine.execLbu c f s
  | .lh c f => Sys2Proof.Machine.execLh c f s
  | .lhu c f => Sys2Proof.Machine.execLhu c f s
  | .lw c f => Sys2Proof.Machine.execLw c f s
  | .sb c f => Sys2Proof.Machine.execSb c f s
  | .sh c f => Sys2Proof.Machine.execSh c f s
  | .sw c f => Sys2Proof.Machine.execSw c f s
  | .postedStoreResponse c ix => Sys2Proof.Machine.execPostedStoreResponse c ix s
  | .bz c f => Sys2Proof.Machine.execBz c f s
  | .bnz c f => Sys2Proof.Machine.execBnz c f s
  | .jmp c disp => Sys2Proof.Machine.execJmp c disp s
  | .call c disp => Sys2Proof.Machine.execCall c disp s
  | .rep c f => Sys2Proof.Machine.execRep c f s
  | .fence c f => Sys2Proof.Machine.execFence c f s
  | .jr c f => Sys2Proof.Machine.execJr c f s
  | .callr c f => Sys2Proof.Machine.execCallr c f s
  | .ret c f => Sys2Proof.Machine.execRet c f s
  | .rete c f => Sys2Proof.Machine.execRete c f s
  | .mfs c f => Sys2Proof.Machine.execMfs c f s
  | .mts c f => Sys2Proof.Machine.execMts c f s
  | .trap c f => Sys2Proof.Machine.execTrap c f s
  | .brk c f => Sys2Proof.Machine.execBrk c f s
  | .wfe c f => Sys2Proof.Machine.execWfe c f s
  | .wfeWake c => Sys2Proof.Machine.execWfeWake c s
  | .ckpt c f => Sys2Proof.Machine.execCkpt c f s
  | .fadd c f => Sys2Proof.Machine.execFadd c f s
  | .fsub c f => Sys2Proof.Machine.execFsub c f s
  | .fmul c f => Sys2Proof.Machine.execFmul c f s
  | .fdiv c f => Sys2Proof.Machine.execFdiv c f s
  | .fsqrt c f => Sys2Proof.Machine.execFsqrt c f s
  | .fmin c f => Sys2Proof.Machine.execFmin c f s
  | .fmax c f => Sys2Proof.Machine.execFmax c f s
  | .fitof c f => Sys2Proof.Machine.execFitof c f s
  | .fftoi c f => Sys2Proof.Machine.execFftoi c f s
  | .fceq c f => Sys2Proof.Machine.execFceq c f s
  | .fclt c f => Sys2Proof.Machine.execFclt c f s
  | .fcle c f => Sys2Proof.Machine.execFcle c f s
  | .interrupt c => Sys2Proof.Machine.execInterrupt c s
  | .debugHalt rq ix => Sys2Proof.Machine.execDebugHalt rq ix s
  | .debugResume rq ix => Sys2Proof.Machine.execDebugResume rq ix s
  | .threadStart rq th => Sys2Proof.Machine.execThreadStart rq th s
  | .threadStop rq th => Sys2Proof.Machine.execThreadStop rq th s
  | .threadRestore rq th pend => Sys2Proof.Machine.execThreadRestore rq th pend s
  | .threadStandby rq th => Sys2Proof.Machine.execThreadStandby rq th s
  | .threadClear rq th => Sys2Proof.Machine.execThreadClear rq th s
  | .threadFail rq th => Sys2Proof.Machine.execThreadFail rq th s
  | .threadDebug rq th => Sys2Proof.Machine.execThreadDebug rq th s
  | .engineLocalReset rq n => Sys2Proof.Machine.execEngineLocalReset rq n s
  | .engineClearDone n => Sys2Proof.Machine.execEngineClearDone n s
  | .softwareEvent rq n mask => Sys2Proof.Machine.execSoftwareEvent rq n mask s
  | .checkpointComplete n => Sys2Proof.Machine.execCheckpointComplete n s
  | .restoreComplete n => Sys2Proof.Machine.execRestoreComplete n s
  | .threadWatchdogExpiry th => Sys2Proof.Machine.execThreadWatchdogExpiry th s
  | .engineParityError n => Sys2Proof.Machine.execEngineParityError n s
  | .burinStart rq n startpc swpc => Sys2Proof.Machine.execBurinStart rq n startpc swpc s
  | .burinStop rq n startpc swpc => Sys2Proof.Machine.execBurinStop rq n startpc swpc s
  | .burinSwapRequest rq n startpc swpc => Sys2Proof.Machine.execBurinSwapRequest rq n startpc swpc s
  | .burinSwap n pins => Sys2Proof.Machine.execBurinSwap n pins s
  | .burinLocalReset rq n startpc swpc => Sys2Proof.Machine.execBurinLocalReset rq n startpc swpc s
  | .burinNop n pins => Sys2Proof.Machine.execBurinNop n pins s
  | .burinSho n pins => Sys2Proof.Machine.execBurinSho n pins s
  | .burinShi n pins => Sys2Proof.Machine.execBurinShi n pins s
  | .burinShx n pins => Sys2Proof.Machine.execBurinShx n pins s
  | .burinPull n pins => Sys2Proof.Machine.execBurinPull n pins s
  | .burinPush n pins => Sys2Proof.Machine.execBurinPush n pins s
  | .burinSet n pins => Sys2Proof.Machine.execBurinSet n pins s
  | .burinWaitp n pins => Sys2Proof.Machine.execBurinWaitp n pins s
  | .burinWaitt n pins => Sys2Proof.Machine.execBurinWaitt n pins s
  | .burinJmp n pins => Sys2Proof.Machine.execBurinJmp n pins s
  | .burinLdc n pins => Sys2Proof.Machine.execBurinLdc n pins s
  | .burinLdi n pins => Sys2Proof.Machine.execBurinLdi n pins s
  | .burinMov n pins => Sys2Proof.Machine.execBurinMov n pins s
  | .burinIrq n pins => Sys2Proof.Machine.execBurinIrq n pins s
  | .burinSynco n pins => Sys2Proof.Machine.execBurinSynco n pins s
  | .burinClkr n pins => Sys2Proof.Machine.execBurinClkr n pins s
  | .burinHalt n pins => Sys2Proof.Machine.execBurinHalt n pins s
  | .burinShiftEnd n smp => Sys2Proof.Machine.execBurinShiftEnd n smp s
  | .automaticPull n => Sys2Proof.Machine.execAutomaticPull n s
  | .automaticPush n => Sys2Proof.Machine.execAutomaticPush n s
  | .burinTxWrite rq n val => Sys2Proof.Machine.execBurinTxWrite rq n val s
  | .burinRxRead rq n => Sys2Proof.Machine.execBurinRxRead rq n s
  | .burinStallTimeout n => Sys2Proof.Machine.execBurinStallTimeout n s
  | .burinSyncArm rq c val => Sys2Proof.Machine.execBurinSyncArm rq c val s
  | .burinSyncAction c => Sys2Proof.Machine.execBurinSyncAction c s
  | .burinInject rq n word pins => Sys2Proof.Machine.execBurinInject rq n word pins s
  | .burinInjectedExecute n pins => Sys2Proof.Machine.execBurinInjectedExecute n pins s
  | .burinForcedInject rq n word pins => Sys2Proof.Machine.execBurinForcedInject rq n word pins s
  | .linkOk p speed fdx draw => Sys2Proof.Machine.execLinkOk p speed fdx draw s
  | .holdElapsed p => Sys2Proof.Machine.execHoldElapsed p s
  | .lossOfLink loss => Sys2Proof.Machine.execLossOfLink loss s
  | .fastLinkFail loss => Sys2Proof.Machine.execFastLinkFail loss s
  | .frameReceive p bytes symbolError started => Sys2Proof.Machine.execFrameReceive p bytes symbolError started s
  | .collision p late => Sys2Proof.Machine.execCollision p late s
  | .backoffExpiry at_ => Sys2Proof.Machine.execBackoffExpiry at_ s
  | .plcaBeacon p => Sys2Proof.Machine.execPlcaBeacon p s
  | .frameTransmit p => Sys2Proof.Machine.execFrameTransmit p s
  | .tsqRead rq p => Sys2Proof.Machine.execTsqRead rq p s
  | .switchFrameIngress p => Sys2Proof.Machine.execSwitchFrameIngress p s
  | .branchReadmit p => Sys2Proof.Machine.execBranchReadmit p s
  | .fdbAgeOut ix => Sys2Proof.Machine.execFdbAgeOut ix s
  | .nodeTableAgeOut ix entry => Sys2Proof.Machine.execNodeTableAgeOut ix entry s
  | .transmissionSelection at_ => Sys2Proof.Machine.execTransmissionSelection at_ s
  | .stencilGateChange p => Sys2Proof.Machine.execStencilGateChange p s
  | .stencilChangeOver p => Sys2Proof.Machine.execStencilChangeOver p s
  | .pipelineClockStop p => Sys2Proof.Machine.execPipelineClockStop p s
  | .ringPost rq n r rpi => Sys2Proof.Machine.execRingPost rq n r rpi s
  | .txDescriptorFetch n r => Sys2Proof.Machine.execTxDescriptorFetch n r s
  | .rxRingDelivery p => Sys2Proof.Machine.execRxRingDelivery p s
  | .ringRelease rq n r rci => Sys2Proof.Machine.execRingRelease rq n r rci s
  | .swCtxopClear rq key => Sys2Proof.Machine.execSwCtxopClear rq key s
  | .swCtxopRevert rq key => Sys2Proof.Machine.execSwCtxopRevert rq key s
  | .hkRingPoll k r => Sys2Proof.Machine.execHkRingPoll k r s
  | .tableWrite rq table index d0 d1 d2 d3 => Sys2Proof.Machine.execTableWrite rq table index d0 d1 d2 d3 s
  | .tableRead rq table index => Sys2Proof.Machine.execTableRead rq table index s
  | .timeRead rq => Sys2Proof.Machine.execTimeRead rq s
  | .setState rq code => Sys2Proof.Machine.execSetState rq code s
  | .timeStep rq sec ns => Sys2Proof.Machine.execTimeStep rq sec ns s
  | .correlationRequest rq => Sys2Proof.Machine.execCorrelationRequest rq s
  | .periodicCorrelation => Sys2Proof.Machine.execPeriodicCorrelation s
  | .freqWrite rq val => Sys2Proof.Machine.execFreqWrite rq val s
  | .phaseWrite rq val => Sys2Proof.Machine.execPhaseWrite rq val s
  | .updateTimeout => Sys2Proof.Machine.execUpdateTimeout s
  | .tioCapture ix rising => Sys2Proof.Machine.execTioCapture ix rising s
  | .captureQueueRead rq ix => Sys2Proof.Machine.execCaptureQueueRead rq ix s
  | .triggerArm rq ix mode3 => Sys2Proof.Machine.execTriggerArm rq ix mode3 s
  | .triggerEdge ix start => Sys2Proof.Machine.execTriggerEdge ix start s
  | .ppsOutPulse start => Sys2Proof.Machine.execPpsOutPulse start s
  | .runSet rq n run => Sys2Proof.Machine.execRunSet rq n run s
  | .cycleStart n => Sys2Proof.Machine.execCycleStart n s
  | .rulingFrameLaunch n c k => Sys2Proof.Machine.execRulingFrameLaunch n c k s
  | .rulingFrameReceive p bytes => Sys2Proof.Machine.execRulingFrameReceive p bytes s
  | .returnDeadline n c k => Sys2Proof.Machine.execReturnDeadline n c k s
  | .repairPoint n c k => Sys2Proof.Machine.execRepairPoint n c k s
  | .listenTimerExpiry n => Sys2Proof.Machine.execListenTimerExpiry n s
  | .cycleMark n m => Sys2Proof.Machine.execCycleMark n m s
  | .imageFillComplete ix => Sys2Proof.Machine.execImageFillComplete ix s
  | .imageReadyWrite rq ix cyc => Sys2Proof.Machine.execImageReadyWrite rq ix cyc s
  | .hardwareReady ix => Sys2Proof.Machine.execHardwareReady ix s
  | .imageEnable rq ix cfg => Sys2Proof.Machine.execImageEnable rq ix cfg s
  | .imageDisable rq ix => Sys2Proof.Machine.execImageDisable rq ix s
  | .imageBufferWrite rq addr data => Sys2Proof.Machine.execImageBufferWrite rq addr data s
  | .imageBufferRead rq addr len => Sys2Proof.Machine.execImageBufferRead rq addr len s
  | .leaseTake rq ix => Sys2Proof.Machine.execLeaseTake rq ix s
  | .leaseRelease rq ix => Sys2Proof.Machine.execLeaseRelease rq ix s
  | .imgctxopRelease rq holder => Sys2Proof.Machine.execImgctxopRelease rq holder s
  | .softwareTrigger rq => Sys2Proof.Machine.execSoftwareTrigger rq s
  | .loopTimerFire j => Sys2Proof.Machine.execLoopTimerFire j s
  | .loopBatch => Sys2Proof.Machine.execLoopBatch s
  | .loopStep l => Sys2Proof.Machine.execLoopStep l s
  | .loopOutputResponse l => Sys2Proof.Machine.execLoopOutputResponse l s
  | .pendsetSet rq kind slot => Sys2Proof.Machine.execPendsetSet rq kind slot s
  | .pendsetClear rq kind slot => Sys2Proof.Machine.execPendsetClear rq kind slot s
  | .recordTake kind slot => Sys2Proof.Machine.execRecordTake kind slot s
  | .iwdataRead rq => Sys2Proof.Machine.execIwdataRead rq s
  | .iwdataWrite rq val => Sys2Proof.Machine.execIwdataWrite rq val s
  | .rcClearDone => Sys2Proof.Machine.execRcClearDone s
  | .tsgArm rq g => Sys2Proof.Machine.execTsgArm rq g s
  | .tsgDisable rq g => Sys2Proof.Machine.execTsgDisable rq g s
  | .captureArm rq c => Sys2Proof.Machine.execCaptureArm rq c s
  | .txRequest rq k b => Sys2Proof.Machine.execTxRequest rq k b s
  | .txAbort rq k b => Sys2Proof.Machine.execTxAbort rq k b s
  | .startDecision k => Sys2Proof.Machine.execStartDecision k s
  | .transmissionAttemptEnd k result ago => Sys2Proof.Machine.execTransmissionAttemptEnd k result ago s
  | .mbFrameReceive k id fmt data ago => Sys2Proof.Machine.execMbFrameReceive k id fmt data ago s
  | .busError k tx lec exempt heavy => Sys2Proof.Machine.execBusError k tx lec exempt heavy s
  | .busIntegration k => Sys2Proof.Machine.execBusIntegration k s
  | .busoffRecover rq k => Sys2Proof.Machine.execBusoffRecover rq k s
  | .busoffRecoveryDone k => Sys2Proof.Machine.execBusoffRecoveryDone k s
  | .rxPop rq k => Sys2Proof.Machine.execRxPop rq k s
  | .rxWindowAutopop rq k => Sys2Proof.Machine.execRxWindowAutopop rq k s
  | .mbLocalReset rq k => Sys2Proof.Machine.execMbLocalReset rq k s
  | .mbConfigTake k => Sys2Proof.Machine.execMbConfigTake k s
  | .ringReport rq r si => Sys2Proof.Machine.execRingReport rq r si s
  | .ringTimerExpiry r => Sys2Proof.Machine.execRingTimerExpiry r s
  | .tokenDue r => Sys2Proof.Machine.execTokenDue r s
  | .ringctlLocal rq r local_ => Sys2Proof.Machine.execRingctlLocal rq r local_ s
  | .ringctlWake rq r => Sys2Proof.Machine.execRingctlWake rq r s
  | .sleepWaitExpiry r => Sys2Proof.Machine.execSleepWaitExpiry r s
  | .wakePulseEnd => Sys2Proof.Machine.execWakePulseEnd s
  | .wakeLineQualified => Sys2Proof.Machine.execWakeLineQualified s
  | .wakeLineRelease => Sys2Proof.Machine.execWakeLineRelease s
  | .remoteWake c => Sys2Proof.Machine.execRemoteWake c s
  | .failsafeRequest rq c req => Sys2Proof.Machine.execFailsafeRequest rq c req s
  | .failsafeKick rq c val => Sys2Proof.Machine.execFailsafeKick rq c val s
  | .failsafeExpiry c => Sys2Proof.Machine.execFailsafeExpiry c s
  | .submit rq => Sys2Proof.Machine.execSubmit rq s
  | .hostSubmitPoll f => Sys2Proof.Machine.execHostSubmitPoll f s
  | .dispatchDecision => Sys2Proof.Machine.execDispatchDecision s
  | .spill => Sys2Proof.Machine.execSpill s
  | .take rq => Sys2Proof.Machine.execTake rq s
  | .done rq => Sys2Proof.Machine.execDone rq s
  | .coreFailure n cause => Sys2Proof.Machine.execCoreFailure n cause s
  | .coreWatchdogExpiry n => Sys2Proof.Machine.execCoreWatchdogExpiry n s
  | .coreopRequeue rq n => Sys2Proof.Machine.execCoreopRequeue rq n s
  | .coreopDiscard rq n => Sys2Proof.Machine.execCoreopDiscard rq n s
  | .coreopAdmit rq n => Sys2Proof.Machine.execCoreopAdmit rq n s
  | .wscCtxopClear rq key => Sys2Proof.Machine.execWscCtxopClear rq key s
  | .loadIntervalEnd => Sys2Proof.Machine.execLoadIntervalEnd s
  | .channelStart rq n j prog => Sys2Proof.Machine.execChannelStart rq n j prog s
  | .channelAbort rq n j => Sys2Proof.Machine.execChannelAbort rq n j s
  | .abortComplete n j => Sys2Proof.Machine.execAbortComplete n j s
  | .channelClear rq n j => Sys2Proof.Machine.execChannelClear rq n j s
  | .dmLocalReset rq n => Sys2Proof.Machine.execDmLocalReset rq n s
  | .dmCtxopClear rq n key => Sys2Proof.Machine.execDmCtxopClear rq n key s
  | .pantoMove n j => Sys2Proof.Machine.execPantoMove n j s
  | .pantoGather n j => Sys2Proof.Machine.execPantoGather n j s
  | .pantoScatter n j => Sys2Proof.Machine.execPantoScatter n j s
  | .pantoLoop n j => Sys2Proof.Machine.execPantoLoop n j s
  | .pantoEndloop n j => Sys2Proof.Machine.execPantoEndloop n j s
  | .pantoWait n j => Sys2Proof.Machine.execPantoWait n j s
  | .waitSourceOccurrence n => Sys2Proof.Machine.execWaitSourceOccurrence n s
  | .waitTimeout n j => Sys2Proof.Machine.execWaitTimeout n j s
  | .pantoSignal n j => Sys2Proof.Machine.execPantoSignal n j s
  | .pantoFence n j => Sys2Proof.Machine.execPantoFence n j s
  | .pantoHalt n j => Sys2Proof.Machine.execPantoHalt n j s
  | .plateAccess rq write addr len data => Sys2Proof.Machine.execPlateAccess rq write addr len data s
  | .rotateAliasAccess rq write addr len data => Sys2Proof.Machine.execRotateAliasAccess rq write addr len data s
  | .scrub b => Sys2Proof.Machine.execScrub b s
  | .bankRetire rq b => Sys2Proof.Machine.execBankRetire rq b s
  | .bankTest rq b => Sys2Proof.Machine.execBankTest rq b s
  | .bankTestDone ok => Sys2Proof.Machine.execBankTestDone ok s
  | .sealedBankAccess rq write addr len data => Sys2Proof.Machine.execSealedBankAccess rq write addr len data s
  | .sealedWipeRequest rq => Sys2Proof.Machine.execSealedWipeRequest rq s
  | .wipeComplete => Sys2Proof.Machine.execWipeComplete s
  | .tamperQualified ix => Sys2Proof.Machine.execTamperQualified ix s
  | .memoryClear => Sys2Proof.Machine.execMemoryClear s
  | .memoryClearDone => Sys2Proof.Machine.execMemoryClearDone s
  | .lifecycleRequest rq target confirm => Sys2Proof.Machine.execLifecycleRequest rq target confirm s
  | .fuseProgrammingDone ok => Sys2Proof.Machine.execFuseProgrammingDone ok s
  | .noticeRead rq => Sys2Proof.Machine.execNoticeRead rq s
  | .recoveryDone rq seq => Sys2Proof.Machine.execRecoveryDone rq seq s
  | .recordClear rq u => Sys2Proof.Machine.execRecordClear rq u s
  | .softwareFaultRecord rq code fatal => Sys2Proof.Machine.execSoftwareFaultRecord rq code fatal s
  | .forceWrite rq force => Sys2Proof.Machine.execForceWrite rq force s
  | .proofWrite => Sys2Proof.Machine.execProofWrite s
  | .heartbeat rq val => Sys2Proof.Machine.execHeartbeat rq val s
  | .heartbeatTimeout => Sys2Proof.Machine.execHeartbeatTimeout s
  | .lockstepDivergence => Sys2Proof.Machine.execLockstepDivergence s
  | .romTimeout => Sys2Proof.Machine.execRomTimeout s
  | .romRecovery ok => Sys2Proof.Machine.execRomRecovery ok s
  | .oscillatorCheck osc => Sys2Proof.Machine.execOscillatorCheck osc s
  | .dozeEntry c held pins => Sys2Proof.Machine.execDozeEntry c held pins s
  | .dozeWake c held pins edge => Sys2Proof.Machine.execDozeWake c held pins edge s
  | .regionPowerOff rq n => Sys2Proof.Machine.execRegionPowerOff rq n s
  | .regionPowerUp rq n => Sys2Proof.Machine.execRegionPowerUp rq n s
  | .regionUpComplete n => Sys2Proof.Machine.execRegionUpComplete n s
  | .regionResetAssert rq n => Sys2Proof.Machine.execRegionResetAssert rq n s
  | .regionResetRelease rq n => Sys2Proof.Machine.execRegionResetRelease rq n s
  | .holdEntry rq key late => Sys2Proof.Machine.execHoldEntry rq key late s
  | .holdWake cause => Sys2Proof.Machine.execHoldWake cause s
  | .holdExitComplete => Sys2Proof.Machine.execHoldExitComplete s
  | .offEntry rq key => Sys2Proof.Machine.execOffEntry rq key s
  | .offWake cause => Sys2Proof.Machine.execOffWake cause s
  | .powerOnReset strap => Sys2Proof.Machine.execPowerOnReset strap s
  | .porst strap => Sys2Proof.Machine.execPorst strap s
  | .warmReset rq key strap => Sys2Proof.Machine.execWarmReset rq key strap s
  | .powerGoodLoss monitor supply => Sys2Proof.Machine.execPowerGoodLoss monitor supply s
  | .monitorFault temp supply => Sys2Proof.Machine.execMonitorFault temp supply s
  | .plateClear rq keepEn keep => Sys2Proof.Machine.execPlateClear rq keepEn keep s
  | .plateClearDone => Sys2Proof.Machine.execPlateClearDone s
  | .boot okA okB ms cfg partners => Sys2Proof.Machine.execBoot okA okB ms cfg partners s
  | .hostBootImage ok ms cfg prov => Sys2Proof.Machine.execHostBootImage ok ms cfg prov s
  | .governorSample tj => Sys2Proof.Machine.execGovernorSample tj s
  | .epochBoundary => Sys2Proof.Machine.execEpochBoundary s
  | .epochForce rq => Sys2Proof.Machine.execEpochForce rq s
  | .epochConfigWrite rq ix val => Sys2Proof.Machine.execEpochConfigWrite rq ix val s
  | .impressionWritten => Sys2Proof.Machine.execImpressionWritten s
  | .draftCopyWrite rq addr val => Sys2Proof.Machine.execDraftCopyWrite rq addr val s
  | .revert rq => Sys2Proof.Machine.execRevert rq s
  | .activationArm rq => Sys2Proof.Machine.execActivationArm rq s
  | .activationBoundary => Sys2Proof.Machine.execActivationBoundary s
  | .lldpSend p => Sys2Proof.Machine.execLldpSend p s
  | .lldpReceive p du => Sys2Proof.Machine.execLldpReceive p du s
  | .neighbourAgeOut ix => Sys2Proof.Machine.execNeighbourAgeOut ix s
  | .epochMismatchTimeout ix => Sys2Proof.Machine.execEpochMismatchTimeout ix s
  | .referenceValid refB => Sys2Proof.Machine.execReferenceValid refB s
  | .pllLockLost => Sys2Proof.Machine.execPllLockLost s
  | .dieLinkTrainingLost => Sys2Proof.Machine.execDieLinkTrainingLost s
  | .controlStateError u => Sys2Proof.Machine.execControlStateError u s
  | .slewEnd => Sys2Proof.Machine.execSlewEnd s
  | .powerGood strap => Sys2Proof.Machine.execPowerGood strap s
  | .bankSupplyChange c v => Sys2Proof.Machine.execBankSupplyChange c v s
  | .plcaStatusLoss p => Sys2Proof.Machine.execPlcaStatusLoss p s
  | .queueLengthSample => Sys2Proof.Machine.execQueueLengthSample s

end Sys2Proof.Machine
end

