-- ==== Sys2Proof/Machine/Step.lean ====
section
/-! DEFINITION. The step of the block: the command at the front of the queue, or one period of TCLK when none waits. -/
namespace Sys2Proof.Machine

/-- One step. The command at the front of the queue runs on the state that holds the queue's rest; with an empty queue one period of TCLK
passes (DESIGN CHOICE, log 1). -/
def step (s : State) : Host.Outcome State Fault Refusal :=
  match s.pending with
  | [] => .next s.tclk
  | c :: rest => exec c { s with pending := rest }

/-- `s` with the command that the word spells put in front of its queue: a 32-bit word spells the instruction it encodes (R110); any other
word spells no command and leaves `s` as it is. -/
def State.withFetchWord (s : State) (nbits w : Nat) : State :=
  match decodeTableWord nbits w with
  | some c => { s with pending := c :: s.pending }
  | none => s

end Sys2Proof.Machine
end

