-- ==== Sys2Proof/Safety.lean ====
section
/-! DEFINITION. What a sound state of the block is, which outcomes of a step are safe, and the words the statements use. -/
namespace Sys2Proof.Machine

/-! ## Soundness -/

/-- A memory in canonical form: addresses strictly rising, no byte equal to what an unlisted address reads as. -/
abbrev Memory.wf (m : List Host.Cell) : Bool := cellsWf (fun _ => (0 : Byte)) m

/-- The register words in canonical form against their reset values (R9, R11). -/
abbrev State.regsWf (s : State) : Bool := cellsWf resetWord s.regs

/-- The network time has a nanoseconds field below 1,000,000,000 and a seconds field of 48 bits (R263, Table 9.1). -/
def State.timeWf (s : State) : Bool := decide (s.time.sub < secUnit) && decide (s.time.sec < 2 ^ 48)

/-- Every memory of the block, and the register words, in canonical form, the network time in range. -/
def State.sound (s : State) : Bool := Memory.wf s.mem && Memory.wf s.hostMem && s.regsWf && s.timeWf

/-- A safe outcome: the block goes on. No command stops it, whatever its operands. -/
def safeOutcome (o : Host.Outcome State Fault Refusal) : Bool :=
  match o with
  | .next _ => true
  | .fault _ => false
  | .refused _ => false

/-! ## Tilouzu -/

/-- Core `c` issues the instruction at its PC (R110, R131, R126, R149, R150, R412): it runs and waits for no credit, no asynchronous exception is due,
the fetch is good and corrects no ECC error, and the word at PC is listed. -/
def State.issues (s : State) (c : CoreIx) : Prop :=
  s.runs c = true ∧ s.asyncDue c = false ∧ s.fetchBad c (s.pc c) = none ∧ s.mpuOk c 2 (s.pc c) = true ∧
    s.fetchFixes c (s.pc c) = false ∧ s.wordListed c (s.pc c) = true ∧ (c.val < 192 → s.thState c = 1)

/-- General register `i` of core `c` as a word. -/
def State.g (s : State) (c : CoreIx) (i : BitVec 4) : Word := BitVec.ofNat 32 (s.gr c i)

/-- `v` is written to general register `rd` of core `c`, and the instruction completes (R106, R128). -/
def State.wroteG (s : State) (c : CoreIx) (rd : BitVec 4) (v : Word) : State := (s.setG c rd v.toNat).advance c (s.pc c)

/-- Core `c` takes exception `cause` at the instruction it issues (R132). -/
def State.traps (s : State) (c : CoreIx) (cause detail eaddr : Nat) : State := s.enter c cause detail eaddr (s.pc c) false

/-- The outcome is a next state, and `p` holds of it. -/
abbrev isNext (o : Host.Outcome State Fault Refusal) (p : State → Prop) : Prop := ∃ t, o = .next t ∧ p t

/-! ## Feholt -/

/-- The state in which the own rules of a command judge it: the expected sequence number of an open session has stepped (R65, R66). -/
abbrev State.took (s : State) (h : FHdr) : State := s.stepSeq h

/-- The Keyblock executes the command: it serves the session, which is open and has credit, the sender was not reset since, the sequence number is the
expected one (R61, R66, R82), and nothing of R63, R69, R71, R81, R457, R503 refuses it. -/
def State.admits (s : State) (h : FHdr) (op needs : Nat) (long : Bool) : Prop :=
  s.serves = true ∧ s.epochOld h = false ∧ (s.session h.sess).isOpen = true ∧ s.beyondCredit h.sess = false ∧
    h.seq.toNat = (s.session h.sess).cmdSeq ∧ (s.took h).refusal h op needs long = 0

/-- The Keyblock executes the draft command: the session's draft is open as well (R78). -/
def State.admitsDraft (s : State) (h : FHdr) (op : Nat) : Prop := s.admits h op 0 false ∧ s.draftOwner = some h.sess.val

/-- The answer of a command: opcode, status, detail and payload (R62, Table 2.8). -/
def State.replied (s : State) (h : FHdr) (op status detail : Nat) (p : List Byte) : Host.Outcome State Fault Refusal :=
  .next (s.postMsg h.sess op h.tag.toNat status detail p)

/-- The answer OK without payload. -/
abbrev State.replyOk (s : State) (h : FHdr) (op : Nat) : Host.Outcome State Fault Refusal := s.replied h op 0 0 []

/-- The answer OK with the values of a reply, laid out as the Puset kit says (R77). -/
abbrev State.replyVals (s : State) (h : FHdr) (op : Nat) (vals : List Nat) : Host.Outcome State Fault Refusal :=
  s.replied h op 0 0 (Config.payload op vals)

/-- The answer ACCEPTED of a long command, which then waits for its completion (R69). -/
def State.replyAccepted (s : State) (h : FHdr) (op : Nat) (c : Instr) : Host.Outcome State Fault Refusal :=
  ({ s with longs := s.longs ++ [⟨h.sess.val, h.tag.toNat, op, c⟩] } : State).replied h op 1 0 []

/-- Register words that the Keyblock writes, one after the other. -/
def kbWrites (ws : List RegW) (s : State) : State := ws.foldl (fun t w => (t.regWrite rqKb w.addr.toNat w.val.toNat).2) s

/-- Every write of `kbWrites` is taken. -/
def kbTakes (ws : List RegW) (s : State) : Prop :=
  match ws with
  | [] => True
  | w :: l => (s.regWrite rqKb w.addr.toNat w.val.toNat).1 = 0 ∧ kbTakes l (s.regWrite rqKb w.addr.toNat w.val.toNat).2

/-! ## Burin -/

/-- Engine `n` is at an instruction: it advances, it is not halted, no injected word, stop or swap is due, and the word at PC, without a parity error,
is `w` (R178, R190, R191, R198). -/
def State.burinAt (s : State) (n w : Nat) : Prop :=
  let pc := s.f (ofBe CC.BSTAT_PC n)
  let bank := s.f (ofBe CC.BSTAT_ACTBANK n)
  s.burinLives n = true ∧ s.f (ofBe CC.BSTAT_STATE n) ≠ 0 ∧ (s.bu n).inj = none ∧ (s.bu n).alone = false ∧ s.boundary n = none ∧
    s.eccIn (bankPlace n bank pc) 8 2 = false ∧ s.rd (CC.BBANK (n / 8) (n % 8) bank pc) = w

/-- An instruction of engine `n` has executed: PC steps, and the engine runs on, or is in the data stall of its shift (R178, R185). -/
def State.burinDone (s t : State) (n : Nat) : Prop :=
  t.f (ofBe CC.BSTAT_PC n) = (s.f (ofBe CC.BSTAT_PC n) + 1) % 32 ∧ t.f (ofBe CC.BSTAT_STATE n) = if t.shiftStalled n then 3 else 1

/-! ## Pantograph -/

/-- The instruction that 16 bytes spell (R418): four little-endian words. -/
def pinsOf (bs : List Byte) : PIns :=
  let w (k : Nat) : Nat := leNat ((bs.drop (4 * k)).take 4)
  ⟨w 0, w 1, w 2, w 3⟩

/-- Channel `j` of instance `n` runs and stands at the legal instruction `i`, whose fetch leaves state `t` (R414, R418). -/
def State.panAt (s : State) (n j : Nat) (i : PIns) (t : State) : Prop :=
  let a := 16 * s.f (DM.CHPC_PC n j)
  s.chanSt n j = 1 ∧ s.regionDown n = false ∧ (s.pan n j).xfer = none ∧ fetchRange n a = true ∧ pinsLegal i = true ∧
    ∃ bs, s.panRead n j false a 16 = (0, bs, t) ∧ pinsOf bs = i

end Sys2Proof.Machine
end

