-- ==== Sys2Proof/Certificates/Slice0/Obligations.lean ====
section
/-! DEFINITION. The statements for the provers. Each docstring says which rule of spec/ it formalises and what is the model's own choice. -/
open Sys2Proof Sys2Proof.Machine

/-! ## The block as a whole -/

/-- A step with a command at the front of the queue is that command on the state that holds the queue's rest. -/
def Obligations.StepRunsTheFrontCommand : Prop :=
  ∀ (c : Instr) (rest : List Instr) (s : State), s.pending = c :: rest → step s = exec c { s with pending := rest }

/-- R263, R264, R266, R490, R492, R545: reset and the idle step. The reset state is sound; its queue is empty, the network time 0 and FREE, every
register word holds its reset value, so that no unlisted word differs from it, and the Seal is the reset Seal. With an empty queue one period of TCLK
passes (the model's choice, log 1): in Run without phase left the network time moves on by `inc`; in Hold until its exit has ended, in Off, without
power-good and while both dies wait in reset for a reference (R25) it stands still, and the halted ticks are counted; each clock that stands counts
the periods it misses. R177, R199: at a BCLK edge of a cluster whose clock runs its pin synchronisers take the level each pin has before the edge.
Where no correlation waits for its edge nothing else changes. -/
def Obligations.ResetIsSoundAndTheIdleStepIsATick : Prop :=
  let z := State.reset
  (z.sound = true ∧ z.pending = [] ∧ z.now = 0 ∧ z.f TMU.STAT_STATE = 0 ∧ (∀ a, z.rd a = (resetWord a).toNat) ∧ z.sealNow = resetSeal) ∧
  (∀ s : State, s.pending = [] →
    let halted := s.powerOff = true ∨ s.lostPower = true ∨ s.noRef = true ∨ s.f SYS.PWRSTAT_STATE = 4 ∨ s.f SYS.PWRSTAT_STATE = 2
    let sum := (s.time.sub : Int) + s.tickInc
    isNext (step s) (fun t => t.ticks = s.ticks + 1 ∧
      (halted ∨ s.corrDue = false → { t with ticks := s.ticks, time := s.time, tOff := s.tOff, bIdle := s.bIdle, pinSync := s.pinSync } = s) ∧
      (∀ c, c < 13 → tabGet t.bIdle 0 c = tabGet s.bIdle 0 c + b2n (!s.clkLives c)) ∧
      (∀ c, c < 8 → let x := s.pinSyncOf c
        t.pinSyncOf c = if s.clkLives c = true ∧ (s.beNow (8 * c) + 1) % 2 = 0 ∧ (tabHas s.regs (CC.PINOWN c) = true ∨ x.hist ≠ [])
          then { x with hist := (s.padLevels c :: x.hist).take 3 } else x) ∧
      (halted → t.time = s.time ∧ t.tOff = s.tOff + 1) ∧ (¬halted → t.tOff = s.tOff) ∧
      (¬halted → s.time.rem = 0 → 0 ≤ sum → t.time = { s.time with
        sub := sum.toNat % secUnit, sec := (s.time.sec + sum.toNat / secUnit) % 2 ^ 48 }) ∧
      (s.f TMU.FREQ_FREQ = 0 → s.tickInc = 2 * 2 ^ 48)))

/-- No command stops the block: every one of them, with whatever operands and in whatever state, answers a next state. -/
def Obligations.NoCommandStopsTheBlock : Prop :=
  ∀ (c : Instr) (s : State), ∃ t, exec c s = .next t

/-- A command's effect leaves the queue of waiting commands as it is: commands come from outside the block alone. -/
def Obligations.NoCommandTouchesTheQueue : Prop :=
  ∀ (c : Instr) (s t : State), exec c s = .next t → t.pending = s.pending

/-- R263, R264, R273, Table 9.1: the network time keeps its range. From every state whose nanoseconds field is below 1,000,000,000 and whose seconds
field has 48 bits, every step, a command or a tick, leads to such a state. -/
def Obligations.EveryStepKeepsTheNetworkTimeInRange : Prop :=
  ∀ s t : State, s.timeWf = true → step s = .next t → t.timeWf = true

/-! ## Tilouzu (chapter 4) -/

/-- Table 4.4, R112, R115–R117: what the register instructions with `v` = 0 write, in 32-bit arithmetic: wrapping sum, difference and product, logic,
shifts by the full amount of rb, rotation modulo 32, high halves, minimum and maximum, comparisons as 1 or 0. R115: ADDS and SUBS write the sum or
difference where it is a signed 32-bit number and keep SV; otherwise they write the bound on its side and set ECTL.SV (bit 4). -/
def Obligations.RegisterOperationsWriteTheirResult : Prop :=
  (
  ∀ (c : CoreIx) (f : FmtR) (s : State), s.issues c → f.v = 0 →
    let a := s.g c f.ra
    let b := s.g c f.rb
    let done := fun v : Word => (Host.Outcome.next (s.wroteG c f.rd v) : Host.Outcome State Fault Refusal)
    let flag := fun p : Bool => if p then (1 : Word) else 0
    exec (.add c f) s = done (a + b) ∧ exec (.sub c f) s = done (a - b) ∧
    exec (.and c f) s = done (a &&& b) ∧ exec (.or c f) s = done (a ||| b) ∧
    exec (.xor c f) s = done (a ^^^ b) ∧ exec (.andn c f) s = done (a &&& ~~~b) ∧
    exec (.sll c f) s = done (a <<< b.toNat) ∧ exec (.srl c f) s = done (a >>> b.toNat) ∧
    exec (.sra c f) s = done (a.sshiftRight b.toNat) ∧ exec (.ror c f) s = done (a.rotateRight b.toNat) ∧
    exec (.mul c f) s = done (a * b) ∧
    exec (.mulh c f) s = done ((a.signExtend 64 * b.signExtend 64).extractLsb' 32 32) ∧
    exec (.mulhu c f) s = done ((a.zeroExtend 64 * b.zeroExtend 64).extractLsb' 32 32) ∧
    exec (.min c f) s = done (if a.sle b then a else b) ∧ exec (.max c f) s = done (if a.sle b then b else a) ∧
    exec (.minu c f) s = done (if a.ule b then a else b) ∧ exec (.maxu c f) s = done (if a.ule b then b else a) ∧
    exec (.ceq c f) s = done (flag (a == b)) ∧ exec (.cne c f) s = done (flag (a != b)) ∧
    exec (.clt c f) s = done (flag (a.slt b)) ∧ exec (.cltu c f) s = done (flag (a.ult b)) ∧
    exec (.cle c f) s = done (flag (a.sle b)) ∧ exec (.cleu c f) s = done (flag (a.ule b))) ∧
  (
  ∀ (c : CoreIx) (f : FmtR) (s : State), s.issues c → f.v = 0 →
    let a := s.g c f.ra
    let b := s.g c f.rb
    let sat := fun (t : State) => (t.setCore c ((t.core c).setEctl 4 true)).advance c (s.pc c)
    exec (.adds c f) s = .next (if a.toInt + b.toInt > 0x7FFFFFFF then sat (s.setG c f.rd 0x7FFFFFFF)
      else if a.toInt + b.toInt < -0x80000000 then sat (s.setG c f.rd 0x80000000) else s.wroteG c f.rd (a + b)) ∧
    exec (.subs c f) s = .next (if a.toInt - b.toInt > 0x7FFFFFFF then sat (s.setG c f.rd 0x7FFFFFFF)
      else if a.toInt - b.toInt < -0x80000000 then sat (s.setG c f.rd 0x80000000) else s.wroteG c f.rd (a - b)))

/-- R116, Table 4.8: division toward zero. By 0 the quotient is all ones and the remainder the dividend, and with ECTL.DZT = 1 Divide by Zero (cause
0xB) is taken and rd is not written. -/
def Obligations.DivisionResultsAndDivideByZero : Prop :=
  ∀ (c : CoreIx) (f : FmtR) (s : State), s.issues c → f.v = 0 →
    let a := s.g c f.ra
    let b := s.g c f.rb
    let done := fun v : Word => (Host.Outcome.next (s.wroteG c f.rd v) : Host.Outcome State Fault Refusal)
    let trap := (Host.Outcome.next (s.traps c 0xB 0 0) : Host.Outcome State Fault Refusal)
    if b = 0 then
      if (s.core c).dzt then
        exec (.div c f) s = trap ∧ exec (.divu c f) s = trap ∧ exec (.rem c f) s = trap ∧ exec (.remu c f) s = trap
      else
        exec (.div c f) s = done (BitVec.allOnes 32) ∧ exec (.divu c f) s = done (BitVec.allOnes 32) ∧
        exec (.rem c f) s = done a ∧ exec (.remu c f) s = done a
    else
      exec (.div c f) s = done (a.sdiv b) ∧ exec (.divu c f) s = done (a / b) ∧
      exec (.rem c f) s = done (a.srem b) ∧ exec (.remu c f) s = done (a % b)

/-- Table 4.4, R112, R119: the instructions of one operand. NEG, CLZ and POPC ask rb = g0; BREV reverses and PARITY folds bytes, halfwords or the word
as `v` says; SEXT extends from bit 7 or bit 15. Tables 4.3 and 4.5, R111, R120: the immediate instructions. ADDI, CEQI, CLTI and CLTUI sign-extend
imm18, the others zero-extend it; LUI puts imm20 into bits 31–12; the field instructions take `w` bits from bit `pos` where they lie in the word.
R121, R122, Table 4.9: CRCB, CRCH and CRCW write the CRC step of ra over 1, 2 and 4 bytes of rb; CRCBM, CRCHM and CRCWM, with rb = g0 and rd ≠ ra at
an aligned address whose load gives a value, write the step of rd over the loaded bytes and advance ra by their number. -/
def Obligations.UnaryImmediateAndCrcInstructionsWriteTheirResult : Prop :=
  (
  ∀ (c : CoreIx) (f : FmtR) (s : State), s.issues c →
    let a := s.g c f.ra
    let done := fun v : Word => (Host.Outcome.next (s.wroteG c f.rd v) : Host.Outcome State Fault Refusal)
    let byte := fun k : Nat => a.extractLsb' (8 * k) 8
    let half := fun k : Nat => a.extractLsb' (16 * k) 16
    let odd := fun {n : Nat} (x : BitVec n) => x.cpop.getLsbD 0
    (f.v = 0 → f.rb = 0 → exec (.neg c f) s = done (-a) ∧ exec (.clz c f) s = done a.clz ∧ exec (.popc c f) s = done a.cpop) ∧
    (f.v = 0 → exec (.brev c f) s = done ((byte 3).reverse ++ (byte 2).reverse ++ (byte 1).reverse ++ (byte 0).reverse) ∧
      exec (.parity c f) s = done ((BitVec.ofBool (odd (byte 3)) ++ BitVec.ofBool (odd (byte 2)) ++ BitVec.ofBool (odd (byte 1)) ++
        BitVec.ofBool (odd (byte 0))).setWidth 32) ∧
      exec (.sext c f) s = done ((byte 0).signExtend 32)) ∧
    (f.v = 1 → exec (.brev c f) s = done ((half 1).reverse ++ (half 0).reverse) ∧
      exec (.parity c f) s = done ((BitVec.ofBool (odd (half 1)) ++ BitVec.ofBool (odd (half 0))).setWidth 32) ∧
      exec (.sext c f) s = done ((half 0).signExtend 32)) ∧
    (f.v = 2 → exec (.brev c f) s = done a.reverse ∧ exec (.parity c f) s = done ((BitVec.ofBool (odd a)).setWidth 32))) ∧
  (
  ∀ (c : CoreIx) (f : FmtI) (u : FmtU) (m : FmtM) (s : State), s.issues c →
    let a := s.g c f.ra
    let si := f.imm.signExtend 32
    let zi := f.imm.zeroExtend 32
    let done := fun v : Word => (Host.Outcome.next (s.wroteG c f.rd v) : Host.Outcome State Fault Refusal)
    let flag := fun p : Bool => if p then (1 : Word) else 0
    let w := m.wm1.toNat + 1
    let x := s.g c m.ra
    let d := s.g c m.rd
    let mask := (BitVec.allOnes w).zeroExtend 32 <<< m.pos.toNat
    (exec (.addi c f) s = done (a + si) ∧ exec (.andi c f) s = done (a &&& zi) ∧ exec (.ori c f) s = done (a ||| zi) ∧
      exec (.xori c f) s = done (a ^^^ zi) ∧ exec (.slli c f) s = done (a <<< zi.toNat) ∧ exec (.srli c f) s = done (a >>> zi.toNat) ∧
      exec (.srai c f) s = done (a.sshiftRight zi.toNat) ∧ exec (.rori c f) s = done (a.rotateRight zi.toNat) ∧
      exec (.ceqi c f) s = done (flag (a == si)) ∧ exec (.clti c f) s = done (flag (a.slt si)) ∧
      exec (.cltui c f) s = done (flag (a.ult si))) ∧
    (u.z = 0 → exec (.lui c u) s = .next (s.wroteG c u.rd (u.imm.zeroExtend 32 <<< 12))) ∧
    (m.z = 0 → m.pos.toNat + w ≤ 32 →
      exec (.bfx c m) s = .next (s.wroteG c m.rd ((x.extractLsb' m.pos.toNat w).zeroExtend 32)) ∧
      exec (.bfxs c m) s = .next (s.wroteG c m.rd ((x.extractLsb' m.pos.toNat w).signExtend 32)) ∧
      exec (.bfi c m) s = .next (s.wroteG c m.rd ((d &&& ~~~mask) ||| (x <<< m.pos.toNat &&& mask))))) ∧
  (
  ∀ (c : CoreIx) (f : FmtR) (s : State), s.issues c →
    let sel := crcSel (s.core c) f.v.toNat
    let a := s.gr c f.ra
    let reg := fun n => s.wroteG c f.rd (BitVec.ofNat 32 (crcStep sel a (s.gr c f.rb) n))
    let mem := fun n v (t : State) => ((t.setG c f.rd (crcStep sel (s.gr c f.rd) v n)).setG c f.ra (w32 (a + n))).advance c (s.pc c)
    exec (.crcb c f) s = .next (reg 1) ∧ exec (.crch c f) s = .next (reg 2) ∧ exec (.crcw c f) s = .next (reg 4) ∧
    (f.rb = 0 → f.rd ≠ f.ra → ∀ v t,
      (s.load c a 1 = .val v t → exec (.crcbm c f) s = .next (mem 1 v t)) ∧
      (a % 2 = 0 → s.load c a 2 = .val v t → exec (.crchm c f) s = .next (mem 2 v t)) ∧
      (a % 4 = 0 → s.load c a 4 = .val v t → exec (.crcwm c f) s = .next (mem 4 v t))))

/-- R106, R128: an instruction that completes with a result writes it to rd unless rd is g0, moves the PC to the next word (with REPA = 1 it counts RC
down instead, and leaves the repeat at 0), and changes nothing else: no other register of the core, no special register, no other core, no memory,
nothing of any other unit. -/
def Obligations.RetiringWritesOneRegisterAndMovesOn : Prop :=
  ∀ (c : CoreIx) (rd : BitVec 4) (v : Word) (s : State),
    let t := s.wroteG c rd v
    let x := s.core c
    let y := t.core c
    (∀ i, t.g c i = if i = rd ∧ rd ≠ 0 then v else s.g c i) ∧
    (x.repa = false → y = { x with g := y.g, pc := x.pc + 4 }) ∧
    (x.repa = true → 1 < x.rc.toNat → y = { x with g := y.g, rc := x.rc - 1, repFresh := false }) ∧
    (x.repa = true → x.rc.toNat ≤ 1 → y = { x with g := y.g, rc := 0, ectl := x.ectl &&& ~~~(32 : Word), repFresh := false, pc := x.pc + 4 }) ∧
    (∀ d : CoreIx, d ≠ c → t.core d = s.core d) ∧ { t with cores := s.cores } = s

/-- R123, R124, R126, R149: a load whose address is aligned and answered writes the loaded bytes, sign- or zero-extended, to rd; with P = 1 the
address is ra, and ra then steps by the immediate. In the local RAM alias, where the partition admits it and no ECC error stands, the value is the
bytes of memory, least significant first, and nothing else changes. R123, R124, R149: a store at an aligned address that is taken completes, with P =
1 stepping ra. In the local RAM alias it writes the low bytes of rs at once and no other byte of memory; outside the alias it is posted behind the at
most three stores without a response: on the direct path to the Burin block at once, on the core's queue with a Request credit and room for the
response (R33, R34, R183). -/
def Obligations.LoadsAndStoresMoveTheirBytes : Prop :=
  (
  (∀ (c : CoreIx) (f : FmtL) (s t : State) (v : Nat), s.issues c → (f.p = true → f.rd ≠ f.ra) →
    let b := s.gr c f.ra
    let step := w32 (b + sext 17 f.imm.toNat)
    let a := if f.p then b else step
    let done := fun (n : Nat) => (Host.Outcome.next
      ((if f.p then (t.setG c f.rd n).setG c f.ra step else t.setG c f.rd n).advance c (s.pc c)) : Host.Outcome State Fault Refusal)
    (s.load c a 1 = .val v t → exec (.lb c f) s = done (((BitVec.ofNat 8 v).signExtend 32).toNat) ∧ exec (.lbu c f) s = done v) ∧
    (a % 2 = 0 → s.load c a 2 = .val v t →
      exec (.lh c f) s = done (((BitVec.ofNat 16 v).signExtend 32).toNat) ∧ exec (.lhu c f) s = done v) ∧
    (a % 4 = 0 → s.load c a 4 = .val v t → exec (.lw c f) s = done v)) ∧
  (∀ (c : CoreIx) (a n : Nat) (s : State), s.mpuOk c 0 a = true → a < 0x20000 → s.localCode c a n false = 0 → ¬(prof c = .k ∧ a < 0x8000) →
    s.eccIn (s.localPlace c a) n 1 = false → s.eccIn (s.localPlace c a) n 2 = false →
    s.load c a n = .val (leNat ((List.range n).map (fun i => s.byte (s.localPlace c a + i)))) s)) ∧
  (
  (∀ (c : CoreIx) (f : FmtL) (s t : State), s.issues c →
    let b := s.gr c f.ra
    let step := w32 (b + sext 17 f.imm.toNat)
    let a := if f.p then b else step
    let v := s.gr c f.rd
    let done := (Host.Outcome.next ((if f.p then t.setG c f.ra step else t).advance c (s.pc c)) : Host.Outcome State Fault Refusal)
    (s.store c a (v % 2 ^ 8) 1 = .done t → exec (.sb c f) s = done) ∧
    (a % 2 = 0 → s.store c a (v % 2 ^ 16) 2 = .done t → exec (.sh c f) s = done) ∧
    (a % 4 = 0 → s.store c a (v % 2 ^ 32) 4 = .done t → exec (.sw c f) s = done)) ∧
  (∀ (c : CoreIx) (a v n : Nat) (s : State), s.mpuOk c 1 a = true → a < 0x20000 → s.localCode c a n true = 0 →
    ∃ t, s.store c a v n = .done t ∧ { t with mem := s.mem, ecc := s.ecc } = s ∧
      (∀ i, i < n → t.byte (s.localPlace c a + i) = BitVec.ofNat 8 (v / 256 ^ i)) ∧
      (∀ x, x < s.localPlace c a ∨ s.localPlace c a + n ≤ x → t.byte x = s.byte x)) ∧
  (∀ (c : CoreIx) (a v n : Nat) (s t : State), s.mpuOk c 1 a = true → 0x20000 ≤ a → (s.core c).posted.length < 4 → s.portShut c = false →
    (direct c a = true ∧ t = s ∨ direct c a = false ∧ ∃ w, s.spend (coreQueue c) 0 0 1 = some w ∧ w.spend (coreQueue c) 1 1 1 = some t) →
    ∃ u p, s.store c a v n = .done u ∧ (u.core c).posted = ((t.stepCos c a v).core c).posted ++ [p] ∧
      p.addr = a ∧ p.data = leBytes n v ∧ u.mem = (t.stepCos c a v).mem))

/-- R111, R117, R118, R127: branches, jumps, calls and returns. A branch goes to PC + 4 × sext(disp) when its test holds and otherwise only to the
next word; JMP always; JR to an aligned register; CALL and CALLR, with an aligned sp whose push is not below SL, store the address of the next word at
sp − 4 and step sp; RET, with an aligned sp and an aligned popped address, steps sp past it. R128–R130: REP before a word that may be repeated loads
RC with its count, sets REPA and goes on to that word, at whose first boundary no asynchronous exception is taken; with a count of 0 it skips the
word; before a word that R129 names it takes Illegal Repeat and changes neither RC nor REPA. -/
def Obligations.BranchesCallsAndRepeatsMoveThePc : Prop :=
  (
  ∀ (c : CoreIx) (b : FmtB) (disp : BitVec 26) (f : FmtX) (s : State), s.issues c →
    let pc := (s.core c).pc
    let near := (pc + (b.disp.signExtend 32 <<< 2)).toNat
    let far := (pc + (disp.signExtend 32 <<< 2)).toNat
    let sp := s.sp c
    let r := s.gr c f.ra
    let fits := sp % 4 = 0 ∧ ((s.core c).sl = 0 ∨ (s.core c).sl.toNat ≤ sub32 sp 4)
    let pushed := fun (t : State) (target : Nat) => (t.setG c 15 (sub32 sp 4)).setPc c target
    exec (.bz c b) s = .next (if s.g c b.rt = 0 then s.setPc c near else s.advance c pc.toNat) ∧
    exec (.bnz c b) s = .next (if s.g c b.rt = 0 then s.advance c pc.toNat else s.setPc c near) ∧
    exec (.jmp c disp) s = .next (s.setPc c far) ∧
    (f.rd = 0 → f.imm = 0 → r % 4 = 0 → exec (.jr c f) s = .next (s.setPc c r)) ∧
    (fits → ∀ t, s.store c (sub32 sp 4) (pc + 4).toNat 4 = .done t → exec (.call c disp) s = .next (pushed t far) ∧
      (f.rd = 0 → f.imm = 0 → r % 4 = 0 → exec (.callr c f) s = .next (pushed t r))) ∧
    (f.rd = 0 → f.ra = 0 → f.imm = 0 → sp % 4 = 0 → ∀ v t, s.load c sp 4 = .val v t → v % 4 = 0 →
      exec (.ret c f) s = .next ((t.setG c 15 (w32 (sp + 4))).setPc c v))) ∧
  (
  ∀ (c : CoreIx) (f : FmtRep) (s : State), s.issues c → f.z = 0 →
    let pc := s.pc c
    let next := w32 (pc + 4)
    let n := if f.i then f.imm.toNat else s.gr c f.rs
    s.fetchBad c next = none → s.mpuOk c 2 next = true →
    (repForbidden (s.fetchWord c next) = true → exec (.rep c f) s = .next (s.traps c 3 0 0)) ∧
    (repForbidden (s.fetchWord c next) = false → isNext (exec (.rep c f) s) (fun t =>
      (∀ i, t.g c i = s.g c i) ∧ { t with cores := s.cores } = s ∧
      (n = 0 → (t.core c).rc = 0 ∧ (t.core c).repa = (s.core c).repa ∧ (t.core c).pc = (s.core c).pc + 8) ∧
      (n ≠ 0 → (t.core c).rc.toNat = n ∧ (t.core c).repa = true ∧ (t.core c).pc = (s.core c).pc + 4 ∧ t.asyncDue c = false))))

/-- R107, R108, R113, R124: FENCE with every store answered only moves on, or takes the imprecise Bus Error it finds; MFS reads the special register
into rd; MTS writes it, in user mode only RC and FCSR; any other MTS in user mode takes Privilege; a register that the profile lacks is an Illegal
Instruction. R108, Table 4.2: an MTS to ECTL takes IE, DZT and SV, U on the A profile alone, clears SEC on the K profile where 0 is written and never
sets it, and leaves REPA. -/
def Obligations.FenceMfsAndMtsComplete : Prop :=
  (
  ∀ (c : CoreIx) (f : FmtX) (s : State), s.issues c →
    let n := f.imm.toNat
    (f.rd = 0 → f.ra = 0 → f.imm = 0 → (s.core c).posted = [] → exec (.fence c f) s = .next
      (if (s.core c).imp = [] then s.advance c (s.pc c) else s.takeImp c (s.pc c))) ∧
    (f.rd = 0 → f.ra = 0 → f.imm = 0 → (s.core c).posted ≠ [] → exec (.fence c f) s = .next s) ∧
    (f.ra = 0 → ∀ v t, s.mfs c n = some (v, t) → exec (.mfs c f) s = .next ((t.setG c f.rd v).advance c (s.pc c))) ∧
    (f.ra = 0 → s.mfs c n = none → exec (.mfs c f) s = .next (s.traps c 2 0 0)) ∧
    (f.rd = 0 → ∀ x, (s.core c).mts c n (s.gr c f.ra) = some x →
      ((s.core c).user = false ∨ n = 1 ∨ n = 12 → exec (.mts c f) s = .next ((s.setCore c x).advance c (s.pc c))) ∧
      ((s.core c).user = true → n ≠ 1 → n ≠ 12 → exec (.mts c f) s = .next (s.traps c 4 0 0))) ∧
    (f.rd = 0 → (s.core c).mts c n (s.gr c f.ra) = none → exec (.mts c f) s = .next (s.traps c 2 0 0))) ∧
  (
  ∀ (c : CoreIx) (v : Nat) (x : Core), ∃ y, x.mts c 3 v = some y ∧ (
    y = { x with ectl := y.ectl } ∧ y.ie = bitOf v 0 ∧ y.dzt = bitOf v 3 ∧ bitOf y.ectl.toNat 4 = bitOf v 4 ∧ y.repa = x.repa ∧
    y.user = (if prof c = .a then bitOf v 1 else x.user) ∧ y.sec = (if prof c = .k then x.sec && bitOf v 2 else x.sec)))

/-- R113, R131, R544, Table 4.12: TRAP takes cause 5 and BRK without a debug port cause 6, each with imm12 as DETAIL and the next word as return
address; with a debug port attached and every store answered BRK halts at the word after it. R131, R132, R135: taking an exception with an aligned
stack pointer, room above SL − 16 and a stack frame in the local RAM alias that the core may write: return address, status and RC are stored below sp;
ESTAT gets cause, IMP and DETAIL, EADDR the address; IE, U, REPA and RC become 0 and on the K profile SEC 1; the PC goes to EVB (0 on the K profile) +
16 × cause; every other register of the core stands. R133: RETE in privileged mode, with an aligned sp and three words that the MPU admits and that
load, pops RC, status and return address: SEC becomes saved AND current, REPA is taken from the status word, the PC goes to an aligned return address.
In user mode it takes Privilege. -/
def Obligations.ExceptionsAreTakenAndReturnedFrom : Prop :=
  (
  ∀ (c : CoreIx) (f : FmtX) (s : State), s.issues c → f.rd = 0 → f.ra = 0 →
    exec (.trap c f) s = .next (s.enter c 5 f.imm.toNat 0 (w32 (s.pc c + 4)) false) ∧
    (s.dbgAttached = false → exec (.brk c f) s = .next (s.enter c 6 f.imm.toNat 0 (w32 (s.pc c + 4)) false)) ∧
    (s.dbgAttached = true → (s.core c).posted = [] → exec (.brk c f) s = .next ((s.halt c true).setPc c (w32 (s.pc c + 4))))) ∧
  (
  ∀ (c : CoreIx) (cause detail eaddr ret : Nat) (imp : Bool) (s : State),
    let sp := s.sp c
    let x := s.core c
    sp % 4 = 0 → 0x10000 + 12 ≤ sp → sp ≤ 0x20000 → (prof c = .k → sp ≤ 0x18000) → (x.sl = 0 ∨ sub32 x.sl.toNat 16 ≤ sp - 12) →
    (∀ k, 1 ≤ k → k ≤ 3 → s.mpuOk c 1 (sp - 4 * k) = true ∧ s.localCode c (sp - 4 * k) 4 true = 0) →
    let t := s.enter c cause detail eaddr ret imp
    let y := t.core c
    let at_ := s.localPlace c (sp - 12)
    t.memWord (at_ + 8) = ret % 2 ^ 32 ∧ t.memWord (at_ + 4) = x.ectl.toNat ∧ t.memWord at_ = x.rc.toNat ∧
    (∀ a, a < at_ ∨ at_ + 12 ≤ a → t.byte a = s.byte a) ∧
    t.sp c = sp - 12 ∧ (∀ i, i ≠ 15 → t.g c i = s.g c i) ∧
    y.estat.toNat = (cause + b2n imp * 0x100 + detail * 0x10000) % 2 ^ 32 ∧ y.eaddr.toNat = eaddr % 2 ^ 32 ∧
    y.ie = false ∧ y.user = false ∧ y.repa = false ∧ y.rc = 0 ∧ y.sec = (if prof c = .k then true else x.sec) ∧
    y.pc.toNat = ((if prof c = .k then 0 else x.evb.toNat) + 16 * cause) % 2 ^ 32 ∧
    y = { x with g := y.g, pc := y.pc, rc := 0, ectl := y.ectl, estat := y.estat, eaddr := y.eaddr, repFresh := false } ∧
    { t with cores := s.cores, mem := s.mem, ecc := s.ecc } = s) ∧
  (
  ∀ (c : CoreIx) (f : FmtX) (s t1 t2 t3 : State) (rc st ra : Nat), s.issues c → f.rd = 0 → f.ra = 0 → f.imm = 0 →
    let sp := s.sp c
    ((s.core c).user = true → exec (.rete c f) s = .next (s.traps c 4 0 0)) ∧
    ((s.core c).user = false → sp % 4 = 0 → s.mpuOk c 0 sp = true → s.mpuOk c 0 (w32 (sp + 4)) = true → s.mpuOk c 0 (w32 (sp + 8)) = true →
      (∀ v u, s.load c (w32 (sp + 8)) 4 = .val v u → v % 4 = 0) → s.load c sp 4 = .val rc t1 → t1.load c (w32 (sp + 4)) 4 = .val st t2 →
      t2.load c (w32 (sp + 8)) 4 = .val ra t3 → ra % 4 = 0 → isNext (exec (.rete c f) s) (fun t =>
        let x := t3.core c
        let y := t.core c
        (∀ i, t.g c i = if i = 15 then BitVec.ofNat 32 (sp + 12) else t3.g c i) ∧
        y.rc = BitVec.ofNat 32 rc ∧ y.pc = BitVec.ofNat 32 ra ∧ y.repa = bitOf st 5 ∧ y.ie = bitOf st 0 ∧
        y.sec = (if prof c = .k then x.sec && bitOf st 2 else x.sec) ∧ y.user = (if prof c = .a then bitOf st 1 else x.user) ∧
        y = { x with g := y.g, rc := y.rc, pc := y.pc, ectl := y.ectl } ∧ { t with cores := t3.cores } = t3)))

/-- R155, R403, R454: a WFE in privileged mode whose source is pending completes at once; otherwise the core waits, an engine thread in state WFE (2).
A waiting core whose source comes completes the WFE: an engine thread is in RUN again and the PC is past the WFE. R131, R155: at a boundary of a
running core the imprecise Bus Error found first is taken, with its address and IMP; without one, the lowest interrupt source, with its number in
DETAIL; each with the address of the next instruction. -/
def Obligations.WaitingCoresWakeAndAsynchronousExceptionsComeInOrder : Prop :=
  (
  ∀ (c : CoreIx) (f : FmtX) (s : State), f.rd = 0 → f.ra = 0 → f.imm = 0 →
    (s.issues c → (s.core c).user = false → s.wfeSources c ≠ 0 → exec (.wfe c f) s = .next (s.advance c (s.pc c))) ∧
    (s.issues c → (s.core c).user = false → s.wfeSources c = 0 →
      isNext (exec (.wfe c f) s) (fun t => (t.core c).wfe = true ∧ (t.core c).pc = (s.core c).pc ∧ (prof c = .e → t.thState c = 2))) ∧
    (s.waits c = true → s.wfeSources c ≠ 0 →
      isNext (exec (.wfeWake c) s) (fun t => (t.core c).wfe = false ∧ (t.core c).pc = (s.core c).pc + 4 ∧ (prof c = .e → t.thState c = 1))) ∧
    (s.waits c = true → s.wfeSources c = 0 → exec (.wfeWake c) s = .next s)) ∧
  (
  ∀ (c : CoreIx) (s : State), s.runs c = true → (s.core c).repFresh = false →
    let x := s.core c
    let u := s.resume c
    (∀ a code rest, x.imp = (a, code) :: rest →
      exec (.interrupt c) s = .next ((u.setCore c { x with imp := rest }).enter c 0xA code a (s.pc c) true)) ∧
    (∀ n, x.imp = [] → s.intNow c = some n → exec (.interrupt c) s = .next (u.enter c 0xD n 0 (s.pc c) false)) ∧
    (x.imp = [] → s.intNow c = none → exec (.interrupt c) s = .next s))

/-- R124, R125: a posted store that no older store to its bytes (and, fenced, no older fenced output) precedes is answered: it leaves the list,
reaches its target with the identity attached at issue, once there are credits on its way (R34), and with a code other than OK an imprecise Bus Error
with its address and code waits. R31, R33, R183: off the direct path the room kept for its response is free again and its data pass the queues behind
the core's. -/
def Obligations.PostedStoreIsAnsweredOrRaisesBusError : Prop :=
  ∀ (c : CoreIx) (i : Fin 4) (s : State) (p : Posted),
    let x := s.core c
    s.mayServe x.posted i = true → x.posted[i.val]? = some p → s.wayFree c p.addr p.data.length true = true →
    let off := s.setCore c { x with posted := listDel x.posted i.val }
    let w := if direct c p.addr then off else (off.giveBack (coreQueue c) 1 1 1).carryOver (pathBehind c p.addr) p.data.length true
    let r := w.busWrite p.rq p.addr p.data
    let y := r.2.core c
    let u := if r.1 = 0 then r.2 else r.2.setCore c { y with imp := y.imp ++ [(p.addr, r.1)] }
    exec (.postedStoreResponse c i) s = .next ((u.settleHalt c).ckAdvance (c.val / 8) 9)

/-- R114, R136: on an application core a floating-point operation writes the IEEE 754 result of its operands under FCSR.RM and FZ and ORs the flags
raised into FCSR, unless FTE = 1 and NV or DZ was raised: then Floating Point (0xC) is taken with the flags as DETAIL and rd stands. On the other
profiles each is an Illegal Instruction. -/
def Obligations.FloatingPointOperationsWriteOrTrap : Prop :=
  ∀ (c : CoreIx) (f : FmtR) (s : State), s.issues c →
    let x := s.core c
    let a := s.gr c f.ra
    let b := s.gr c f.rb
    let e := fenv x
    let does := fun (i : Instr) (r : Nat × Nat) =>
      if prof c = .a then
        if bitOf x.fcsr.toNat 8 = true ∧ r.2 &&& 0x18 ≠ 0 then
          isNext (exec i s) (fun t => ∃ u : State, t = u.traps c 0xC r.2 0 ∧ (∀ j, u.g c j = s.g c j) ∧ { u with cores := s.cores } = s)
        else exec i s = .next (((s.setCore c { x with fcsr := x.fcsr ||| BitVec.ofNat 32 r.2 }).setG c f.rd r.1).advance c (s.pc c))
      else exec i s = .next (s.traps c 2 0 0)
    does (.fadd c f) (fAdd e a b) ∧ does (.fsub c f) (fSub e a b) ∧ does (.fmul c f) (fMul e a b) ∧ does (.fdiv c f) (fDiv e a b) ∧
    (f.rb = 0 → does (.fsqrt c f) (fSqrt e a)) ∧ does (.fmin c f) (fMinMax e false a b) ∧ does (.fmax c f) (fMinMax e true a b) ∧
    does (.fitof c f) (fOfInt e a) ∧ does (.fftoi c f) (fToInt e Config.ftoiInexact a) ∧
    does (.fceq c f) (fCmp e 0 a b) ∧ does (.fclt c f) (fCmp e 1 a b) ∧ does (.fcle c f) (fCmp e 2 a b)

/-- R107, R110, R112, R120, R131: an encoding that the instruction's format refuses takes Illegal Instruction at the word, whatever the mode: v other
than 0 in ADD, rb other than g0 in NEG, an unlisted v in BREV, a load that steps its own destination, a field past the word, a misaligned word access
takes Alignment with the address. -/
def Obligations.RefusedFormsTakeTheirException : Prop :=
  ∀ (c : CoreIx) (f : FmtR) (l : FmtL) (m : FmtM) (x : FmtX) (s : State), s.issues c →
    let bad := (Host.Outcome.next (s.traps c 2 0 0) : Host.Outcome State Fault Refusal)
    let a := if l.p then s.gr c l.ra else w32 (s.gr c l.ra + sext 17 l.imm.toNat)
    (f.v ≠ 0 → exec (.add c f) s = bad ∧ exec (.div c f) s = bad) ∧ (f.rb ≠ 0 → exec (.neg c f) s = bad ∧ exec (.crcbm c f) s = bad) ∧
    (f.v.toNat ≥ 3 → exec (.brev c f) s = bad) ∧ (l.p = true → l.rd = l.ra → exec (.lw c l) s = bad) ∧
    (m.pos.toNat + m.wm1.toNat ≥ 32 → exec (.bfx c m) s = bad) ∧ (x.rd ≠ 0 → exec (.rete c x) s = bad ∧ exec (.wfe c x) s = bad) ∧
    ((l.p = true → l.rd ≠ l.ra) → a % 4 ≠ 0 → exec (.lw c l) s = .next (s.traps c 7 0 a)) ∧
    (a % 4 ≠ 0 → exec (.sw c l) s = .next (s.traps c 7 0 a))

/-- R159–R162: a CKPT of an engine thread with a valid slot and an admissible window takes its place at the end of the engine's queue with its tag;
the thread is in CKPT (3), with BUSY = 1, and the checkpoint unit goes on with what it can. R161, R163, R165, R166, R544: the checkpoint at the head
of the queue whose header is written is complete: the thread runs on after its CKPT, the half is the valid one. A RESTORE loads the latest valid half,
or the thread fails with FCAUSE 5; while the engine's RAMs are being cleared one with a state window fails, with an error code that the spec does not
give (R151; DESIGN CHOICE, log 83). A halt of an application core or the Keyblock is complete when its posted stores are answered, and a resume ends
it. -/
def Obligations.CheckpointsAndHaltsComplete : Prop :=
  (
  ∀ (c : CoreIx) (f : FmtX) (s : State), s.issues c → prof c = .e → f.rd = 0 → f.imm = 0 → s.on (ofTh CC.THCK_V c) = true →
    s.windowOk c (s.ckBase c) (s.f (ofTh CC.CKWIN_LEN c)) = true → ∃ u : State,
      exec (.ckpt c f) s = .next (u.ckAdvance (c / 8) 9) ∧ u.thState c = 3 ∧ u.on (ofTh CC.CKSTAT_BUSY c) = true ∧
      u.ckOps (c / 8) = s.ckOps (c / 8) ++ [⟨c, false, false, 0, s.gr c f.ra, 0, [], 0, s.ticks⟩]) ∧
  (
  ∀ (rq : Rq) (n : Fin 24) (o : CkOp) (l : List CkOp) (ix : Fin 17) (s : State),
    let th := o.th
    let hit := s.latestHalf th
    let w := (s.lendBulk th 64).busWrite (s.coreRq th) (s.halfAt th o.half) o.hdr true
    let c := 192 + ix.val
    let dbg := rq.id = 0x50 ∧ s.f PLT.LCSTAT_STATE ≠ 2 ∧ s.f PLT.LCSTAT_STATE ≠ 4
    let wiping := fun (b : List Byte) => (hit.2.2.dropCk th).on (ofCe CC.ENGSTAT_CLEARING n) = true ∧ halfWord b 4 / 256 % 128 ≠ 0
    (s.ckOps n = o :: l → th / 8 = n → th < 192 → o.restore = false → o.cap = true → o.half < 2 → s.ckFree th 64 = true → w.1 = 0 →
      (∀ x ∈ l, x.restore = false → x.cap = true ∨ (s.core x.th).posted ≠ [] ∨ (s.core x.th).imp = []) → ∃ u : State,
        exec (.checkpointComplete n) s = .next (u.ckAdvance n 9) ∧ u.thState th = 1 ∧ u.f (ofTh CC.CKSTAT_HALF th) = o.half ∧
        u.on (ofTh CC.CKSTAT_VALID th) = true ∧ u.on (ofTh CC.CKSTAT_BUSY th) = false ∧ u.pc th = ((w.2.core th).pc + 4).toNat) ∧
    (s.ckOps n = o :: l → o.restore = true → th < 192 → o.pend < 2 ^ 16 → (∀ h b, hit.1 = some (h, b) → ¬wiping b → ∃ u : State,
      exec (.restoreComplete n) s = .next (u.ckAdvance n 9) ∧ u = (hit.2.2.dropCk th).loadHalf th o.pend h b ∧
      u.thState th = 1 ∧ u.pc th = halfWord b 0x40 - halfWord b 0x40 % 4 ∧ u.f (ofTh CC.EVPEND_PEND th) = o.pend ∧
      ∀ i : BitVec 4, i ≠ 0 → u.gr th i = halfWord b (0x40 + 4 * i.toNat)) ∧
      (∀ h b, hit.1 = some (h, b) → wiping b → ∃ (u : State) (k : Nat), k < 16 ∧ exec (.restoreComplete n) s =
        .next (((u.ckErr th k).failThread th 5 k).ckAdvance n 9) ∧ u.mem = (hit.2.2.dropCk th).mem) ∧
      (hit.1 = none → exec (.restoreComplete n) s =
        .next ((((hit.2.2.dropCk th).ckErr th hit.2.1).failThread th 5 hit.2.1).ckAdvance n 9))) ∧
    (dbg → s.on (SYS.DBGCTL_HALTED ix) = false → (s.core c).dead = false →
      ((s.core c).posted = [] → isNext (exec (.debugHalt rq ix) s) (fun t => t.resp = ⟨0, []⟩ ∧ t.on (SYS.DBGCTL_HALTED ix) = true ∧
        ∀ j : Fin 17, j ≠ ix → t.on (SYS.DBGCTL_HALTED j) = s.on (SYS.DBGCTL_HALTED j))) ∧
      ((s.core c).posted ≠ [] → isNext (exec (.debugHalt rq ix) s) (fun t => t.resp = ⟨0, []⟩ ∧ t.regs = s.regs ∧ tabGet t.halting 0 c = 2))) ∧
    (dbg → isNext (exec (.debugResume rq ix) s) (fun t => t.resp = ⟨0, []⟩ ∧ t.on (SYS.DBGCTL_HALTED ix) = false ∧
      t.on (SYS.DBGCTL_BRKHIT ix) = false ∧ tabGet t.halting 0 c = 0)) ∧
    (rq.id ≠ 0x50 → exec (.debugHalt rq ix) s = .next (s.answer 2) ∧ exec (.debugResume rq ix) s = .next (s.answer 2)))

/-! ## Registers, requests and PCIe (chapters 0 to 2) -/

/-- R9 and Table 0.6: after a register write of v, each field of the register holds what its access type says: RW the written bits, W1C the old bits
without those written 1, W1S and WL the old bits with those written 1, RO, WO and RC the old bits; R11: a write of an unassigned offset changes
nothing. R9, R11, R12, R15, R37, R38, R41, R43: a register write by an identity that Table 1.14 does not list is refused with PERM and recorded for
the issuing unit, with a CODE that the spec does not give (free value, log 3); one of an engine whose EFAIL is set or of its FAILED thread gets PERM;
one that finds a queue on its way without credits waits at its issuer (R33, R34), as one does in Hold (R487), and changes nothing; one of a PCIe
function ends Hold first (R490); one that the map, the region's power or the width refuses gets the code of its refusal after it has passed the queues
on its way (R31) and changes nothing else; any other reaches its block. -/
def Obligations.RegisterWritesFollowTheirTypesOrAreRefused : Prop :=
  (
  ∀ (a v : Nat) (s : State),
    (regAt a = none → s.wrReg a v = s) ∧
    (∀ d, regAt a = some d → ∀ x ∈ d.flds,
      let old := s.f ⟨a, x.lo, x.w⟩
      let wr := bitsOf v x.lo x.w
      (s.wrReg a v).f ⟨a, x.lo, x.w⟩ = match x.acc with
        | .rw => wr
        | .w1c => old - (old &&& wr)
        | .w1s => old ||| wr
        | .wl => old ||| wr
        | .ro => old
        | .wo => old
        | .rc => old)) ∧
  (
  ∀ (u : Fin 354) (rq : Rq) (a v : Word) (s₀ : State),
    let s := s₀.hostWakes rq.id.toNat
    let w := s.carry u rq.id.toNat a.toNat 4 true
    let code := w.busCode rq a.toNat 4
    let shut := s.on (ofCe CC.ENGSTAT_EFAIL u) = true ∨ ∃ k : BitVec 8, rq.rkey = some k ∧ k.toNat / 8 = u ∧ s.thState k.toNat = 7
    (s = if rq.id = 1 ∨ rq.id = 2 then s₀.endHold else s₀) ∧
    (idListed rq.id.toNat = false → isNext (exec (.registerWrite u rq a v) s₀) (fun t => ∃ k, k < 256 ∧
      t = ({ s with freeIx := s.freeIx + 1 }.fault { unit := u, code := k, cls := 2, addr := a.toNat, ident := rq.id.toNat }).answer 2)) ∧
    (idListed rq.id.toNat = true → u.val < 24 → shut → exec (.registerWrite u rq a v) s₀ = .next (s.answer 2)) ∧
    (idListed rq.id.toNat = true → (u.val < 24 → ¬shut) →
      (s.pathOpen u rq a.toNat 4 true = false → exec (.registerWrite u rq a v) s₀ = .next s) ∧
      (s.pathOpen u rq a.toNat 4 true = true → code ≠ 0 → exec (.registerWrite u rq a v) s₀ = .next (w.answer code)) ∧
      (s.pathOpen u rq a.toNat 4 true = true → code = 0 → (blockTable a.toNat).isSome = true →
        let r := ((w.wakeDoze a.toNat).attach rq).regWrite rq a.toNat v.toNat
        exec (.registerWrite u rq a v) s₀ = .next (r.2.answer r.1))))

/-- R44: a request with credits on its way that meets no other and lies at one serialising point is served alone and answered; one of a PCIe function
has its completion besides (R41, Table 1.17); one without credits waits at its issuer (R34). Two requests that meet at one serialising point are
served one after the other, the second on the state the first leaves; the pointer then stands one above the identity served first. First comes the one
whose identity comes first above the rotating pointer; at the work scheduler the kinds of R396 go before, at the registers of a Pantograph channel
those of R417. In Hold a request waits (R487); one of a PCIe function ends Hold first, and is served on the state that the exit leaves (R490). R44,
R433, R440: a Plate read over two banks is two parts, each served at its own bank, and is answered once, with the bytes of both in order and the first
code that is not OK. -/
def Obligations.RequestsThatMeetAreServedInTurn : Prop :=
  ∀ (x y : FabReq) (s₀ : State),
    let s := s₀.hostWakes (reqIdent x)
    let one := fun (t : State) (z : FabReq) =>
      let q := t.serve z
      let u := (q.2.2.answer q.1 q.2.1).emit (.response (reqIdent z) q.1 q.2.1)
      match z.path with
      | .fabric _ => u
      | .bar0 f => u.complete f q.1 z.write q.2.1
      | .bar4 f => u.complete f q.1 z.write q.2.1
      | .cfg f => u.complete f q.1 false q.2.1
    let at_ := fun (p : Nat) (z : FabReq) => (meetIdent p z + 256 - tabGet s.ptrs 0 p) % 256
    let moved := fun (p n : Nat) => { s with ptrs := cellPut s.ptrs 0 p n }
    (s = if reqIdent x = 1 ∨ reqIdent x = 2 then s₀.endHold else s₀) ∧
    (s.canReach x = false → exec (.fabricRequest [x]) s₀ = .next s) ∧
    (∀ p, s.canReach x = true → s.pieces x = [(p, x)] → exec (.fabricRequest [x]) s₀ = .next (one s x)) ∧
    (∀ p q b c, s.canReach x = true → x.write = false → p ≠ q → b.addr ≠ c.addr → s.pieces x = [(p, b), (q, c)] →
      let r := s.serve b
      let w := r.2.2.serve c
      let code := if r.1 ≠ 0 then r.1 else w.1
      exec (.fabricRequest [x]) s₀ = .next (w.2.2.respond x code (r.2.1 ++ w.2.1))) ∧
    (∀ p, s₀.awake = true → s.canReach x = true → s.canReach y = true → s.pieces x = [(p, x)] → s.pieces y = [(p, y)] →
      (if (p = ptSched ∨ isChanPoint p = true) ∧ meetKind p x ≠ meetKind p y then meetKind p x < meetKind p y else at_ p x < at_ p y) →
      exec (.fabricRequest [x, y]) s₀ = .next (one (one (moved p ((meetIdent p x + 1) % 256)) x) y) ∧
      exec (.fabricRequest [y, x]) s₀ = .next (one (one (moved p ((meetIdent p x + 1) % 256)) x) y))

/-- R31, R34: a returned credit raises its pool by one and never above the depth of Table 1.11; no other pool and nothing else changes. A queue or
class that does not exist takes none. Spending n credits is possible exactly when the pool holds them. R14: a local reset restores the reset credits
of the queues that are the unit's request interface. A compute engine, an application core, a Pantograph instance, a Burin engine, a port (through
its MAC or its PHY), a message-bus controller and the Keyblock take the reset of their chapter; of any other unit its registers, memories and what it
holds return to reset. -/
def Obligations.CreditsAndLocalResetsKeepTheirDepth : Prop :=
  (
  ∀ (q : BitVec 8) (cls : Fin 4) (dir : Bool) (n : Nat) (s : State),
    let p := s.pool q.toNat cls (b2n dir)
    (∀ d, qDepth q.toNat cls = some d → isNext (exec (.creditReturn q cls dir) s) (fun t =>
      t.pool q.toNat cls (b2n dir) = ⟨min (p.avail + 1) d, p.low⟩ ∧
      (∀ (r : BitVec 8) (k : Fin 4) (e : Bool), (r, k, e) ≠ (q, cls, dir) → t.pool r.toNat k (b2n e) = s.pool r.toNat k (b2n e)) ∧
      { t with credits := s.credits } = s)) ∧
    (qDepth q.toNat cls = none → exec (.creditReturn q cls dir) s = .next s) ∧
    ((s.spend q.toNat cls (b2n dir) n).isSome = true ↔ n ≤ p.avail)) ∧
  (
  ∀ (u : Fin 354) (s : State),
    let t := (unitQueues u).foldl State.freshCredits s
    let port := fun n : Nat => u.val = 0x80 + n ∨ u.val = 0x90 + n
    (∀ q ∈ unitQueues u, ∀ (cls : Fin 4) (dir : Bool), t.pool q cls (b2n dir) = ⟨(qDepth q cls).getD 0, (qDepth q cls).getD 0⟩) ∧
    (∀ n, n < 24 → u.val = n → exec (.unitLocalReset u) s = .next (t.engineReset n)) ∧
    (∀ n, n < 16 → u.val = 0x20 + n → exec (.unitLocalReset u) s = .next (t.resetAppCore n)) ∧
    (∀ n, n < 4 → u.val = 0x34 + n → exec (.unitLocalReset u) s = .next (t.dmReset n)) ∧
    (∀ n, n < 64 → u.val = 0x40 + n → exec (.unitLocalReset u) s = .next (t.resetBurin n)) ∧
    (∀ n, n < 16 → port n → exec (.unitLocalReset u) s = .next (t.resetPort n)) ∧
    (∀ n, n < 8 → u.val = 0xA0 + n → exec (.unitLocalReset u) s = .next (t.mbReset n)) ∧
    (u.val = 0xB3 → exec (.unitLocalReset u) s = .next t.resetKeyblock) ∧
    ((0x18 ≤ u.val ∧ u.val < 0x20) ∨ (0x30 ≤ u.val ∧ u.val < 0x34) ∨ (0x38 ≤ u.val ∧ u.val < 0x40) ∨ (0xA8 ≤ u.val ∧ u.val ≠ 0xB3) →
      exec (.unitLocalReset u) s = .next (t.resetUnit u)))

/-- R41, R48, R49, R51: a BAR2 access that its windows refuse is answered with the code and, a read, with the completion of Table 1.17; nothing of
Plate is touched. One that they admit, within a 64-byte block and the sizes of R49, is one access of Plate at the offset, with the identity of the
function, over the PCIe interface's queue, once there are credits on its way (R33, R34). While memory clear holds the masters off (R445) it is
answered DOMAIN_OFF, and touches nothing. One longer than those sizes is answered SIZE (the model's choice, log 71). One that comes in Hold, where a
reference runs, ends it with cause 0x21 and is served after the exit (R490); else it waits. -/
def Obligations.Bar2AccessesPassTheirWindow : Prop :=
  ∀ (f : Fin 2) (off : BitVec 25) (n : Nat) (data : List Byte) (s₀ : State), tabGet s₀.fnReset 0 f.val = 0 → 0 < n → 0 < data.length →
    let s := s₀.endHold
    let up := s.awake = true
    let r := if s.heldFor (f + 1) then 3 else if s.maxRead f < n then 5 else s.bar2Code f off.toNat n false
    let w := if s.heldFor (f + 1) then 3 else if s.maxPayload f < data.length then 5 else s.bar2Code f off.toNat data.length true
    let a := plateLo + off.toNat
    let room := fun (k : Nat) (wr : Bool) => s.mayPass [(0xA4, 0)] k wr = true ∧ s.banksFree a k wr = true
    (up → r ≠ 0 → exec (.bar2Access f false off n []) s₀ = .next ((s.complete f r false []).answer r (List.replicate n 0))) ∧
    (up → w ≠ 0 → exec (.bar2Access f true off 0 (data.map some)) s₀ = .next ((s.complete f w true []).answer w)) ∧
    (up → r = 0 → off.toNat % 64 + n ≤ 64 → room n false → exec (.bar2Access f false off n []) s₀ =
      .next (let q := (s.carryOver [(0xA4, 0)] n false).plateAccess (fnRq f) false a n []
        (q.2.2.complete f q.1 false q.2.1).answer q.1 q.2.1)) ∧
    (up → w = 0 → off.toNat % 64 + data.length ≤ 64 → room data.length true → exec (.bar2Access f true off 0 (data.map some)) s₀ =
      .next (let q := ((s.carryOver [(0xA4, 0)] data.length true).lendBanks a data.length true).plateWrite (fnRq f) a data
        (q.2.complete f q.1 true []).answer q.1)) ∧
    (¬up → exec (.bar2Access f false off n []) s₀ = .next s₀ ∧ exec (.bar2Access f true off 0 (data.map some)) s₀ = .next s₀) ∧
    (s₀.awake = true ∨ (s₀.refA = false ∧ s₀.refB = false) → s = s₀) ∧
    (s₀.awake = false → s₀.refA = true ∨ s₀.refB = true → up ∧ s.f SYS.PWRSTAT_STATE = 0 ∧
      s.f SYS.PWRSTAT_HOLDS = min (s₀.f SYS.PWRSTAT_HOLDS + 1) 0xFFFF ∧ (s₀.f SYS.PWRSTAT_STATE = 4 → s.f SYS.PWRSTAT_WCAUSE = 0x21))

/-- R55, R58, R82, R95, R104: a vector whose mask clears sends its pending message once, a direct vector always, a doorbell vector while its bell is
set and not masked. While the function's MSI-X is not enabled, its Function Mask is set or it is no bus master the message stays pending (R45;
PRESUMED, log 71). A function-level reset leaves the function without pending messages and table entries (so every vector is masked again), its
doorbells masked and no claim in its name; a hot reset does so for both functions. -/
def Obligations.FunctionResetsAndMsixMasks : Prop :=
  ∀ (f : Fin 2) (v : Fin 64) (s : State),
    let k := f.val * 64 + v.val
    let live := decide (32 ≤ v.val) || (bitOf (s.f (MBX.DB_BELL (f + 1))) v && !bitOf (s.f (MBX.DBMASK_MASK (f + 1))) v)
    let cleared := fun (t : State) (g : Nat) => (∀ e ∈ t.pba, e.1 / 64 ≠ g) ∧ (∀ w, w < 64 → t.vecMasked g w = true) ∧
      t.f (MBX.DBMASK_MASK (g + 1)) = 0xFFFFFFFF ∧ (∀ c, c < 256 → t.f (MBX.CLM_OWNER c) ≠ g + 1)
    isNext (exec (.msixMaskClear f v) s) (fun t => t.vecMasked f v = false ∧
      (tabHas s.pba k = true → live = true → s.msixOn f = true → t.out = s.out ++ [.msix f v] ∧ tabHas t.pba k = false ∧ t.regs = s.regs) ∧
      (tabHas s.pba k = true → live = true → s.msixOn f = false → t.out = s.out ∧ tabHas t.pba k = true ∧ t.regs = s.regs) ∧
      (tabHas s.pba k = false → t.out = s.out ∧ t.pba = s.pba)) ∧
    isNext (exec (.functionLevelReset f) s) (fun t => cleared t f) ∧
    isNext (exec .pcieHotReset s) (fun t => cleared t 0 ∧ cleared t 1)

/-- R21–R27: the reference clocks. With no reference valid at PLL_START the dies stay in reset (RESET_OUT_N low); a start with one ends it; with the
PLLs locked only the references' presence changes. A loss of the selected REFCLK_A with REFCLK_B valid and AUTO_SW = 1 starts a switch; with neither
left the device is in holdover and the hub takes the Fatal fault; the end of a switch selects REFCLK_B, counts and is recorded Contained; RETURN_A by
the Keyblock with A valid starts the way back (R23), which the debug port cannot start; its end selects REFCLK_A; PLL_START with a reference
locks; a reference found valid again is shown; loss of lock is Fatal. -/
def Obligations.ReferenceClocksSwitchAndReturn : Prop :=
  ∀ (rq : Rq) (refB a b : Bool) (s : State),
    let cnt := min (s.f SYS.CLKSTAT_SWITCH_CNT + 1) 0xFFFF
    let mark := fun (code cls : Nat) => ({ unit := 0xB5, code := code, cls := cls } : FaultRec)
    (s.f SYS.CLKSTAT_SRC = 0 → s.on SYS.CLKSTAT_B_OK = true → s.on SYS.CLKCTL_AUTO_SW = true →
      isNext (exec (.refclkLossDeclared false) s) (fun t => t.clkTo = some 1 ∧ t.f SYS.CLKSTAT_A_OK = 0 ∧ t.f SYS.CLKSTAT_A_LOST = 1 ∧
        t.f SYS.CLKSTAT_SRC = 0)) ∧
    (s.f SYS.CLKSTAT_SRC = 0 → s.on SYS.CLKSTAT_B_OK = false → ∃ u : State, exec (.refclkLossDeclared false) s = .next (u.fault (mark 3 3)) ∧
      u.f SYS.CLKSTAT_HOLDOVER = 1 ∧ u.f SYS.CLKSTAT_A_OK = 0 ∧ u.clkTo = none) ∧
    (s.f SYS.CLKSTAT_SRC = 0 → s.clkTo ≠ some 1 → ∃ u : State, exec (.refclkLossDeclared true) s = .next (u.fault (mark 2 2)) ∧
      u.f SYS.CLKSTAT_B_OK = 0 ∧ u.f SYS.CLKSTAT_B_LOST = 1) ∧
    (s.clkTo = some 1 → ∃ u : State, exec .referenceSwitchComplete s = .next (u.fault (mark 1 0)) ∧ u.clkTo = none ∧
      u.f SYS.CLKSTAT_SRC = 1 ∧ u.f SYS.CLKSTAT_SWITCH_CNT = cnt) ∧
    (rq.id.toNat = idKeyblock → s.on SYS.CLKSTAT_A_OK = true → s.f SYS.CLKSTAT_SRC = 1 →
      exec (.returnA rq) s = .next ({ s with clkTo := some 0 }.answer 0)) ∧
    (isKbDbg rq.id.toNat = true → rq.id.toNat ≠ idKeyblock → exec (.returnA rq) s = .next (s.answer 0)) ∧
    (isKbDbg rq.id.toNat = false → exec (.returnA rq) s = .next (s.answer 2)) ∧
    (s.clkTo = some 0 → isNext (exec .referenceReturnComplete s) (fun t => t.clkTo = none ∧ t.f SYS.CLKSTAT_SRC = 0 ∧
      t.f SYS.CLKSTAT_SWITCH_CNT = cnt)) ∧
    (s.on SYS.CLKSTAT_PLL_LOCK = false → (a || b) = true → isNext (exec (.pllStart a b) s) (fun t => t.f SYS.CLKSTAT_PLL_LOCK = 1 ∧
      t.f SYS.CLKSTAT_SRC = b2n (!a) ∧ t.f SYS.CLKSTAT_A_OK = b2n a ∧ t.f SYS.CLKSTAT_B_OK = b2n b ∧ t.f SYS.DLSTAT_LINK_UP = 1 ∧
      t.noRef = false ∧ t.out = s.out ++ (if s.noRef then [.pin "RESET_OUT_N" 1] else []))) ∧
    (s.on SYS.CLKSTAT_PLL_LOCK = false → isNext (exec (.pllStart false false) s) (fun t => t.refA = false ∧ t.refB = false ∧ t.noRef = true ∧
      t.out = s.out ++ (if s.noRef then [] else [.pin "RESET_OUT_N" 0]) ∧ { t with refA := s.refA, refB := s.refB, noRef := s.noRef, out := s.out } = s)) ∧
    (s.on SYS.CLKSTAT_PLL_LOCK = true → exec (.pllStart a b) s = .next { s with refA := a, refB := b }) ∧
    isNext (exec (.referenceValid refB) s) (fun t => t.f (if refB then SYS.CLKSTAT_B_OK else SYS.CLKSTAT_A_OK) = 1) ∧
    (∃ u : State, exec .pllLockLost s = .next (u.fault (mark 4 3)) ∧ u.f SYS.CLKSTAT_PLL_LOCK = 0)

/-- R28–R30, R465, Table 17.9: a whole flit with its next number enters the sender's retry buffer, unless 128 are in it. The flit that arrives — during
a replay the oldest of the buffer — is accepted with a good CRC and the expected number: the number steps, the flit leaves the buffer, and nothing
but credits moves. One with a bad CRC asks for a replay and counts RETRY_CNT; the flit then arrives again from the buffer. Each
sync-header or parity error of a lane counts in its ERR, and the lane fails when LANETHR of them have come within WIN ms. The first data lane to
fail is being replaced by the spare; when that is complete SPARE_MAP names it, both directions replay, and the fault is Contained. A second failure,
or the loss of training, is Fatal. -/
def Obligations.DieLinkReplaysAndSparesALane : Prop :=
  ∀ (toPort : Bool) (flit err : List Byte) (l : Fin 9) (s : State),
    let d := if toPort then 0 else 1
    let x := s.link d
    let y := x.send flit
    let got := flitWith (if y.replay then y.buf.headD flit else flit) err
    let fresh := flitGood flit = true ∧ (flit.getD 1 0).toNat = (x.rxSeq + x.buf.length) % 256 ∧ x.buf.length < 128
    let retry := fun k => min (s.f SYS.DLSTAT_RETRY_CNT + k) 0xFFFF
    (y = { x with buf := if fresh then x.buf ++ [flit] else x.buf }) ∧
    (flitGood got = true → (got.getD 1 0).toNat = x.rxSeq → isNext (exec (.flitReceive toPort ⟨flit, err, []⟩) s) (fun t =>
      t.link d = ⟨(x.rxSeq + 1) % 256, y.replay && !y.buf.tail.isEmpty, y.buf.tail⟩ ∧ { t with dieLink := s.dieLink, credits := s.credits } = s)) ∧
    (flitGood got = false → isNext (exec (.flitReceive toPort ⟨flit, err, []⟩) s) (fun t => t.link d = { y with replay := true } ∧
      t.out = s.out ++ [.replay d x.rxSeq] ∧ t.f SYS.DLSTAT_RETRY_CNT = retry 1)) ∧
    (flitGood flit = true → (flit.getD 1 0).toNat = x.rxSeq → x.buf = [] → x.replay = false → flitGood (flitWith flit err) = false → ∃ t u : State,
      exec (.flitReceive toPort ⟨flit, err, []⟩) s = .next t ∧ exec (.flitReceive toPort ⟨[], [], []⟩) t = .next u ∧
      u.link d = ⟨(x.rxSeq + 1) % 256, false, []⟩ ∧ u.f SYS.DLSTAT_RETRY_CNT = retry 1) ∧
    (∀ ls, exec (.flitReceive toPort ⟨flit, err, l :: ls⟩) s = exec (.flitReceive toPort ⟨flit, err, ls⟩) (s.laneError l)) ∧
    ((s.laneError l).f (FLT.LANE_ERR l) = min (s.f (FLT.LANE_ERR l) + 1) 0xFFFF) ∧
    (s.on (FLT.LANE_FAILED l) = false → ((s.laneError l).on (FLT.LANE_FAILED l) = true ↔
      max (s.f FLT.DLCFG_LANETHR) 1 ≤ 1 + (s.sparing.errs.filter (fun e => e.1 == l.val && decide (s.ticks < e.2 + max (s.f FLT.DLCFG_WIN) 1 * 500000))).length)) ∧
    (l.val < 8 → s.on (FLT.LANE_FAILED l) = false → s.on (FLT.LANE_FAILED 8) = false → s.f SYS.DLSTAT_SPARE_MAP = 0xF → s.sparing.spare = none →
      isNext (exec (.laneFailure l) s) (fun t => t.sparing.spare = some l.val ∧ t.on (FLT.LANE_FAILED l) = true ∧ t.on (FLT.LANE_LOCK l) = false ∧
        bitOf (t.f SYS.DLSTAT_LANE_OK) l = false)) ∧
    (s.on (FLT.LANE_FAILED l) = false → s.f SYS.DLSTAT_SPARE_MAP ≠ 0xF → ∃ u : State,
      exec (.laneFailure l) s = .next (u.fault { unit := 0xB4, code := 2, cls := 3, detail := l }) ∧ u.on (FLT.LANE_FAILED l) = true) ∧
    (s.sparing.spare = some l.val → ∃ u : State, exec .laneSparingComplete s = .next (u.fault { unit := 0xB4, code := 1, cls := 0, detail := l }) ∧
      u.sparing.spare = none ∧ u.f SYS.DLSTAT_SPARE_MAP = l ∧ u.f SYS.DLSTAT_RETRY_CNT = retry 2 ∧ ∀ e, e < 2 → u.link e = { s.link e with replay := true }) ∧
    (∃ u : State, exec .dieLinkTrainingLost s = .next (u.fault { unit := 0xB4, code := 3, cls := 3 }) ∧ u.f SYS.DLSTAT_LINK_UP = 0)

/-! ## The mailbox unit (chapter 3) -/

/-- R88, R93, R98 and Table 3.1: an accepted COMMIT of channel c — by its sender, not stale, the receiver's domain up, a slot free, no ECC error in
the open slot — commits the open slot at index WIDX: byte 5 of the slot takes the low byte of SENDER_EPOCH and no other word of a slot changes, WIDX
and USED advance, the key's LAST_COS is recorded and valid, and the receiver's doorbell rings. A stale one is absorbed with OK: ABSORBED counts and no
index moves. With 16 slots in use it is refused with PERM and REFUSED counts; with the receiver's domain down it is answered DOMAIN_OFF; by another
master PERM, and then nothing changes. -/
def Obligations.CommitPublishesTheOpenSlot : Prop :=
  ∀ (rq : Rq) (c : Fin 64) (s : State),
    let r := s.f (MBX.CHCFG_RECEIVER c)
    let i := s.f (MBX.CHSTAT_WIDX c)
    let used := s.f (MBX.CHSTAT_USED c)
    (s.isSender c (s.acting rq) = false → exec (.commit rq c) s = .next (s.answer 2)) ∧
    (s.isSender c (s.acting rq) = true → s.mbxStale rq = true → isNext (exec (.commit rq c) s) (fun t => t.resp = ⟨0, []⟩ ∧
      t.f (MBX.CHSTAT_WIDX c) = i ∧ t.f (MBX.CHSTAT_USED c) = used ∧
      t.f (MBX.CHCNT_ABSORBED c) = min (s.f (MBX.CHCNT_ABSORBED c) + 1) 255 ∧ (used < 16 → ∀ w, w < 16 → t.slotWord c i w = 0))) ∧
    (s.isSender c (s.acting rq) = true → s.mbxStale rq = false → s.idDown r = true → exec (.commit rq c) s = .next (s.answer 3)) ∧
    (s.isSender c (s.acting rq) = true → s.mbxStale rq = false → s.idDown r = false → used = 16 →
      isNext (exec (.commit rq c) s) (fun t => t.resp = ⟨2, []⟩ ∧ t.f (MBX.CHSTAT_WIDX c) = i ∧ t.slots = s.slots ∧
        t.f (MBX.CHCNT_REFUSED c) = min (s.f (MBX.CHCNT_REFUSED c) + 1) 255)) ∧
    (s.isSender c (s.acting rq) = true → s.mbxStale rq = false → s.idDown r = false → used < 16 → s.eccIn (slotPlace c i) 64 2 = false → ∃ u : State,
      exec (.commit rq c) s = .next ((u.ringDoorbell r (s.f (MBX.CHCFG_DBBIT c))).answer 0) ∧
      u.f (MBX.CHSTAT_WIDX c) = (i + 1) % 16 ∧ u.f (MBX.CHSTAT_USED c) = used + 1 ∧ u.f (MBX.CHSTAT_RIDX c) = s.f (MBX.CHSTAT_RIDX c) ∧
      bitsOf (u.slotWord c i 1) 8 8 = s.f (MBX.CHEPOCH_SENDER_EPOCH c) % 256 ∧
      (∀ a b, a < 8 ∨ 16 ≤ a → b = 1 → bitsOf (u.slotWord c i 1) a b = bitsOf (s.slotWord c i 1) a b) ∧
      (∀ j w, j < 16 → w < 16 → ¬(j = i ∧ w = 1) → u.slotWord c j w = s.slotWord c j w) ∧
      (∀ k, rq.key = some k → u.mbxValid k.toNat = true ∧ u.f (MBX.RPL_LAST_COS k.toNat) = rq.cos.toNat))

/-- R60, R87, R89, R90, R92: SLOT_WRITE by the sender into the open slot sets that word and no other; SLOT_READ by the receiver of a committed slot
without an uncorrectable error answers its word; RELEASE by the receiver with a committed slot moves RIDX to the next slot and answers OK, and with
none it only counts REFUSED; any other master is answered PERM and changes nothing. An application message fills the open slot with its sixteen words
and commits it. -/
def Obligations.SlotsAreWrittenReadAndReleasedByTheirEnds : Prop :=
  ∀ (rq : Rq) (c : Fin 64) (i w : Fin 16) (v : Word) (s : State),
    let me := s.acting rq
    (s.isSender c me = true → i.val = s.f (MBX.CHSTAT_WIDX c) → s.f (MBX.CHSTAT_USED c) < 16 →
      isNext (exec (.slotWrite rq c i w v) s) (fun t => t.resp = ⟨0, []⟩ ∧ t.slotWord c i w = v.toNat ∧
        (∀ d j x, j < 16 → x < 16 → ¬(d = c.val ∧ j = i.val ∧ x = w.val) → t.slotWord d j x = s.slotWord d j x) ∧
        { t with slots := s.slots, resp := s.resp } = s)) ∧
    (s.isSender c me = false → exec (.slotWrite rq c i w v) s = .next (s.answer 2)) ∧
    (s.isReceiver c me = true → s.isCommitted c i = true → s.eccIn (slotPlace c i) 64 2 = false →
      isNext (exec (.slotRead rq c i w) s) (fun t => t.resp = ⟨0, leBytes 4 (s.slotWord c i w)⟩ ∧ { t with ecc := s.ecc, resp := s.resp } = s)) ∧
    (s.isReceiver c me = false → s.isSender c me = false → exec (.slotRead rq c i w) s = .next (s.answer 2 (leBytes 4 0))) ∧
    (s.isReceiver c me = true → s.committedCount c ≠ 0 → isNext (exec (.release rq c) s) (fun t => t.resp = ⟨0, []⟩ ∧
      t.f (MBX.CHSTAT_RIDX c) = (s.f (MBX.CHSTAT_RIDX c) + 1) % 16 ∧ t.f (MBX.CHSTAT_WIDX c) = s.f (MBX.CHSTAT_WIDX c))) ∧
    (s.isReceiver c me = true → s.committedCount c = 0 → isNext (exec (.release rq c) s) (fun t => t.resp = ⟨0, []⟩ ∧
      t.f (MBX.CHCNT_REFUSED c) = min (s.f (MBX.CHCNT_REFUSED c) + 1) 255 ∧ t.f (MBX.CHSTAT_RIDX c) = s.f (MBX.CHSTAT_RIDX c))) ∧
    (s.isReceiver c me = false → exec (.release rq c) s = .next (s.answer 2)) ∧
    (∀ ws : List Word,
      let op := (ws.headD 0).toNat % 2 ^ 15
      let app := 8 ≤ c.val ∧ c.val ≤ 31 ∧ ws.length = 16 ∧ 0x0B40 ≤ op ∧ op ≤ 0x0B7F
      (¬app → exec (.applicationMessage rq c ws) s = .next s) ∧
      (app → s.isSender c me = false ∨ 16 ≤ s.f (MBX.CHSTAT_USED c) → exec (.applicationMessage rq c ws) s = .next (s.answer 2)) ∧
      (app → s.isSender c me = true → s.f (MBX.CHSTAT_USED c) < 16 → ∃ u : State, exec (.applicationMessage rq c ws) s = exec (.commit rq c) u ∧
        (∀ k, k < 16 → u.slotWord c (s.f (MBX.CHSTAT_WIDX c)) k = (ws.getD k 0).toNat) ∧ { u with slots := s.slots } = s))

/-- R91, R93, R94, R98, R100: the doorbells and replay entries. The owner of a bindable identity's mask writes it; DBSET by the Keyblock sets the
bell; the Keyblock or the debug port sets BIND_LOCK, clears the replay entry of a key, and takes RIDX back to FIDX on every channel with a release of
the key pending. Any other master is answered PERM. R101: a master counts
as the identity it acts as. R102, R103, Table 3.4: a read of a free claim register returns 0 and makes the reader its owner; a
read of a taken one returns the owner and changes no claim; the owner's write of its own identity frees it, any other write is counted in
CLMERR.IGNORED; the Keyblock frees any. -/
def Obligations.DoorbellsReplayEntriesAndClaimsObeyTheirOwner : Prop :=
  (
  ∀ (rq : Rq) (id : Fin 64) (v : Word) (bit : Fin 32) (key : BitVec 8) (s : State),
    let kd := isKbDbg (s.acting rq)
    let denied := (Host.Outcome.next (s.answer 2) : Host.Outcome State Fault Refusal)
    (bindable id = true → s.ownsBell rq id = true → isNext (exec (.doorbellMaskWrite rq id v) s) (fun t => t.resp = ⟨0, []⟩ ∧
      t.f (MBX.DBMASK_MASK id) = v.toNat ∧ t.f (MBX.DB_BELL id) = s.f (MBX.DB_BELL id))) ∧
    (bindable id = true → s.ownsBell rq id = false → exec (.doorbellMaskWrite rq id v) s = denied) ∧
    (s.acting rq = 8 → bindable id = true → isNext (exec (.doorbellSet rq (BitVec.ofNat 8 id) bit) s) (fun t => t.resp = ⟨0, []⟩ ∧
      t.f (MBX.DB_BELL id) = s.f (MBX.DB_BELL id) ||| 2 ^ bit.val)) ∧
    (s.acting rq ≠ 8 → exec (.doorbellSet rq (BitVec.ofNat 8 id) bit) s = denied) ∧
    (kd = true → isNext (exec (.bindLock rq) s) (fun t => t.resp = ⟨0, []⟩ ∧ t.on MBX.LOCK_BIND_LOCK = true)) ∧
    (kd = false → exec (.bindLock rq) s = denied ∧ exec (.mbxCtxopClear rq key) s = denied ∧ exec (.mbxCtxopRevert rq key) s = denied) ∧
    (kd = true → isNext (exec (.mbxCtxopClear rq key) s) (fun t => t.resp = ⟨0, []⟩ ∧ t.mbxValid key.toNat = false ∧
      t.f (MBX.RPL_LAST_COS key.toNat) = 0 ∧ ∀ k, k < 256 → k ≠ key.toNat → t.mbxValid k = s.mbxValid k)) ∧
    (kd = true → isNext (exec (.mbxCtxopRevert rq key) s) (fun t => t.resp = ⟨0, []⟩ ∧ ∀ c : Fin 64,
      t.f (MBX.CHSTAT_RIDX c) = if s.slotRel.any (fun e => e.1 / 16 == c.val && e.2.held && e.2.key == key.toNat)
        then s.f (MBX.CHSTAT_FIDX c) else s.f (MBX.CHSTAT_RIDX c)))) ∧
  (
  ∀ (rq : Rq) (k : Fin 256) (v : Word) (s : State),
    let o := s.f (MBX.CLM_OWNER k)
    let me := s.acting rq
    isNext (exec (.claimRead k [rq]) s) (fun t => t.resp = ⟨0, leBytes 4 o⟩ ∧ t.f (MBX.CLM_OWNER k) = (if o = 0 then me % 256 else o) ∧
      ∀ j : Fin 256, j ≠ k → t.f (MBX.CLM_OWNER j) = s.f (MBX.CLM_OWNER j)) ∧
    isNext (exec (.claimReleaseWrite rq k v) s) (fun t => t.resp = ⟨0, []⟩ ∧
      if o ≠ 0 ∧ me = o ∧ v.toNat = o then t.f (MBX.CLM_OWNER k) = 0
      else t.f (MBX.CLM_OWNER k) = o ∧ t.f MBX.CLMERR_IGNORED = min (s.f MBX.CLMERR_IGNORED + 1) 0xFFFF) ∧
    (me = 8 → isNext (exec (.claimForceRelease rq (BitVec.ofNat 8 k)) s) (fun t => t.f (MBX.CLM_OWNER k) = 0)) ∧
    (me ≠ 8 → exec (.claimForceRelease rq (BitVec.ofNat 8 k)) s = .next (s.answer 2)))

/-! ## Feholt (chapter 2) -/

/-- R61, R63, R66, R67, R69, R71, R77, R78, R81, R82, R457, R503, Table 2.15: how a command is judged before its own rules. A command sent before a
reset of its sender is discarded and counted; in a closed session all but SESSION_PING are answered NO_SESSION; one beyond the credits NO_CREDIT; a
wrong sequence number BAD_SEQUENCE with the expected one, and nothing else changes. Then the expected number steps, and these refuse, in this order:
BAD_TAG, BAD_OPCODE in recovery, FATAL, LOCKED, the bulk buffer, BUSY. A draft command of a session without the draft is answered NO_DRAFT. The order
among checks of one command is the model's (log 5). A command whose opcode Table 2.14 does not list is answered BAD_OPCODE as the Keyblock releases
its slot. The session's own commands complete where nothing refuses them. -/
def Obligations.FeholtCommandsAreJudgedBeforeTheirOwnRules : Prop :=
  (
  ∀ (h : FHdr) (op needs : Nat) (long : Option Instr) (act : State → FReply) (s : State), s.serves = true →
    let x := s.session h.sess
    let k := opClass op
    let ans := fun (t : State) (st d : Nat) => t.postMsg h.sess op h.tag.toNat st d []
    let go := s.feholt h op needs long act
    let rest := s.f SYS.BOOTSTAT_STAGE ≠ 5 ∧ s.tagUsed h = false
    (s.epochOld h = true → go = s.discard h) ∧
    (s.epochOld h = false → x.isOpen = false → op ≠ 0x0103 → go = ans s 0x20 0) ∧
    (s.epochOld h = false → s.beyondCredit h.sess = true → go = ans (s.took h) 0x22 0) ∧
    (s.epochOld h = false → x.isOpen = true → s.beyondCredit h.sess = false → h.seq.toNat ≠ x.cmdSeq → go = ans s 0x14 (x.cmdSeq % 2 ^ 16)) ∧
    (s.epochOld h = false → x.isOpen = true → s.beyondCredit h.sess = false → h.seq.toNat = x.cmdSeq →
      (s.tagUsed h = true → go = ans (s.took h) 0x15 0) ∧
      (s.tagUsed h = false → s.f SYS.BOOTSTAT_STAGE = 5 → k ∉ [1, 0xF, 0x11] → go = ans (s.took h) 0x10 0) ∧
      (rest → s.f FLT.STAT_STATE = 3 → k ∉ [1, 0xF] → go = ans (s.took h) 0x72 0) ∧
      (rest → s.f FLT.STAT_STATE = 2 → op ∈ [0x0D03, 0x0201, 0x0202, 0x1103] → go = ans (s.took h) 0x32 0) ∧
      (rest → s.f FLT.STAT_STATE < 2 →
        ((s.took h).bulkStatus h needs ≠ 0 → go = ans (s.took h) ((s.took h).bulkStatus h needs) 0) ∧
        ((s.took h).bulkStatus h needs = 0 → long.isSome = true → (∃ l ∈ s.longs, opClass l.opcode = k) → go = ans (s.took h) 0x40 0))) ∧
    (s.admits h op 0 false → s.draftOwner ≠ some h.sess.val → s.draftCmd h op act = ans (s.took h) 0x23 0)) ∧
  (
  ∀ (rq : Rq) (n : Fin 4) (c : Fin 64) (s : State), s.serves = true → rq.id = 8 → c.val = 2 * n.val → s.isReceiver c (s.acting rq) = true →
    s.committedCount c ≠ 0 →
    let r := s.slotCmd n (s.f (MBX.CHSTAT_RIDX c))
    let done := fun (t : State) => exec (.release rq c) s = .next ((t.releaseSlot rq c).answer 0)
    (feholtListed r.1 = true → done s) ∧
    (feholtListed r.1 = false → s.epochOld r.2 = false → s.firstCheck r.2 r.1 = (0, 0) → s.tagUsed r.2 = false →
      done ((s.took r.2).postMsg n r.1 r.2.tag.toNat 0x10 0 []))) ∧
  (
  ∀ (h : FHdr) (lo hi credits keep : BitVec 16) (mask : Word) (op : BitVec 15) (batch : Fin 7) (s : State), s.serves = true →
    let n := h.sess.val
    let x := s.session n
    let opens := fun (c : Instr) (b : Bool) => isNext (exec c s) (fun t => (t.session n).isOpen = b)
    (x.isOpen = false → s.epochOld h = false → s.tagUsed h = false → h.flags = 0 → 8 ≤ h.len.toNat → h.len.toNat ≤ 48 →
      opens (.sessionOpen h lo hi credits keep) (chooseMinor lo.toNat hi.toNat).isSome) ∧
    (s.admits h 0x0102 0 false → opens (.sessionClose h) false) ∧
    (s.admits h 0x0103 0 false → exec (.sessionPing h) s = (s.took h).replyOk h 0x0103) ∧
    (s.admits h 0x0104 0 false → isNext (exec (.subscribe h mask) s) (fun t => (t.session n).mask = mask.toNat)) ∧
    (x.isOpen = true → opens (.keepaliveTimeout h.sess) false) ∧
    (s.epochOld h = false → s.beyondCredit n = true → exec (.noCreditReply h op) s = (s.took h).replied h op.toNat 0x22 0 []) ∧
    (x.isOpen = true → x.waiting = [] → x.events = [] → x.dropped = 0 → exec (.queuedEventPost h.sess batch) s = .next s))

/-- R61, R67, R68, R73–R75, R79: SESSION_OPEN of a closed session opens it with the highest minor that the host accepts, the credits and keepalive
clamped, the classes 0x01, 0x0F and 0x10 subscribed and the next command numbered 1, or answers VERSION and leaves it closed; with the tag of a reply
that still waits it is answered BAD_TAG (R71); in an open session it negotiates anew. The replies' numbers go on when a session closes (log 70).
SESSION_PING is answered in a closed session too; SUBSCRIBE sets the mask; SESSION_CLOSE and a keepalive timeout close the session; a command beyond
the credits is answered NO_CREDIT. R68: when an event can be posted, EVENTS_LOST with the number dropped goes first, then the oldest queued event; a
session with neither posts nothing. A message of Table 2.8 carries opcode, tag, sequence number, status and payload, takes the open slot of the reply
channel, and the number steps (R62, R65). -/
def Obligations.SessionsOpenServeAndPostTheirEvents : Prop :=
  (
  ∀ (h : FHdr) (lo hi credits keep : BitVec 16) (mask : Word) (op : BitVec 15) (s : State), s.serves = true →
    let n := h.sess.val
    let x := s.session n
    let others := fun (t : State) => ∀ m, m ≠ n → t.session m = s.session m
    let c := if credits.toNat = 0 ∨ 12 < credits.toNat then 12 else credits.toNat
    let k := min (max keep.toNat 100) 60000
    let picks := fun (m : Nat) => (lo.toNat ≤ 0x201 ∧ 0x201 ≤ hi.toNat ∧ m = 1) ∨ (lo.toNat ≤ 0x200 ∧ hi.toNat = 0x200 ∧ m = 0)
    let whole := s.epochOld h = false ∧ h.flags = 0 ∧ 8 ≤ h.len.toNat ∧ h.len.toNat ≤ 48
    (x.isOpen = false → s.epochOld h = false → s.tagUsed h = true → exec (.sessionOpen h lo hi credits keep) s = s.replied h 0x0101 0x15 0 []) ∧
    (x.isOpen = false → whole → s.tagUsed h = false →
      (∀ m, picks m → ∃ (u : State) (y : Session),
        exec (.sessionOpen h lo hi credits keep) s = u.replied h 0x0101 0 0 (s.openPayload n m c k) ∧ others u ∧ u.session n = y ∧
        y.isOpen = true ∧ y.minor = m ∧ y.credits = c ∧ y.keepalive = k ∧ y.mask = 2 ^ 1 + 2 ^ 0xF + 2 ^ 0x10 ∧ y.cmdSeq = 1 ∧ y.events = [] ∧
        y.waiting = x.waiting) ∧
      (0x201 < lo.toNat ∨ hi.toNat < 0x200 ∨ hi.toNat < lo.toNat → ∃ u : State,
        exec (.sessionOpen h lo hi credits keep) s = u.replied h 0x0101 0x21 0x0201 [] ∧ (u.session n).isOpen = false)) ∧
    (x.isOpen = true → whole → s.beyondCredit n = false → h.seq.toNat = x.cmdSeq → s.tagUsed h = false → ∀ m, picks m → ∃ u : State,
      exec (.sessionOpen h lo hi credits keep) s = u.replied h 0x0101 0 0 ((s.took h).openPayload n m c k) ∧ others u ∧
      u.session n = { x with cmdSeq := (x.cmdSeq + 1) % 2 ^ 32, minor := m, credits := c, keepalive := k }) ∧
    (x.isOpen = false → s.epochOld h = false → s.refusal h 0x0103 0 false = 0 → exec (.sessionPing h) s = s.replyOk h 0x0103) ∧
    (s.admits h 0x0103 0 false → exec (.sessionPing h) s = (s.took h).replyOk h 0x0103) ∧
    (s.admits h 0x0104 0 false → ∃ u : State, exec (.subscribe h mask) s = u.replyOk h 0x0104 ∧ others u ∧
      u.session n = { x with cmdSeq := (x.cmdSeq + 1) % 2 ^ 32, mask := mask.toNat } ∧ { u with sess := s.sess } = s) ∧
    (s.admits h 0x0102 0 false → ∃ u : State, exec (.sessionClose h) s = u.replyOk h 0x0102 ∧ (u.session n).isOpen = false ∧
      (u.session n).events = [] ∧ u.draftOwner ≠ some n ∧ (∀ l ∈ u.longs, l.sess ≠ n)) ∧
    (x.isOpen = true → isNext (exec (.keepaliveTimeout h.sess) s) (fun t => (t.session n).isOpen = false ∧ (t.session n).events = [] ∧
      t.draftOwner ≠ some n ∧ (∀ l ∈ t.longs, l.sess ≠ n) ∧ ∀ m, m ≠ n → (t.session m).isOpen = (s.session m).isOpen)) ∧
    (s.epochOld h = false → s.beyondCredit n = true → exec (.noCreditReply h op) s = (s.took h).replied h op.toNat 0x22 0 []) ∧
    (s.beyondCredit n = false → exec (.noCreditReply h op) s = .next s)) ∧
  (
  ∀ (n : Fin 4) (batch : Fin 7) (e : FEvent) (s : State),
    let x := s.session n
    let c := 2 * n.val + 1
    let i := s.f (MBX.CHSTAT_WIDX c)
    s.serves = true → x.isOpen = true → x.waiting = [] → s.eccIn (slotPlace c i) 64 2 = false →
    (x.events = [] → x.dropped = 0 → exec (.queuedEventPost n batch) s = .next s) ∧
    (s.canPost n = true → x.events = [] → x.dropped ≠ 0 → exec (.queuedEventPost n batch) s =
      .next ((s.setSession n { x with dropped := 0 }).postMsg n 0x8181 0xFFFF 0 0 (leBytes 4 x.dropped))) ∧
    (s.canPost n = true → x.events = [e] → x.dropped = 0 → exec (.queuedEventPost n batch) s =
      .next ((s.setSession n { x with events := [] }).postMsg n e.opcode e.tag e.status 0 e.payload)) ∧
    (∀ op tag st d, ∀ p : List Byte, p.length ≤ 48 → s.replyOpen n = true →
      let t := s.postMsg n op tag st d p
      t.f (MBX.CHSTAT_WIDX c) = (i + 1) % 16 ∧ t.f (MBX.CHSTAT_USED c) = s.f (MBX.CHSTAT_USED c) + 1 ∧
      (t.session n).repSeq = (x.repSeq + 1) % 2 ^ 32 ∧
      (op < 2 ^ 16 → tag < 2 ^ 16 → x.repSeq < 2 ^ 32 → t.slotWord c i 0 = op + tag * 2 ^ 16 ∧ t.slotWord c i 2 = x.repSeq) ∧
      (st < 2 ^ 16 → t.slotWord c i 3 = st + d % 2 ^ 16 * 2 ^ 16)))

/-- R77, Table 2.14: the read commands answer the values of their registers and tables and change nothing else but what the read of a register or
state word itself clears. -/
def Obligations.FeholtReadsAnswerTheirValues : Prop :=
  ∀ (h : FHdr) (p : Fin 16) (ix : Fin 256) (slot : Fin 512) (k : Fin 8) (u : Fin 354) (th : Fin 192) (s : State),
    let t := s.took h
    let regs := fun (op : Nat) (l : List Nat) => let r := t.fwRead l; r.2.replyVals h op r.1
    let go := fun (op : Nat) => s.admits h op 0 false
    (go 0x0105 → exec (.deviceInfo h) s =
      t.replyVals h 0x0105 [s.f PLT.LCSTAT_STATE, feat 208 0, feat 208 1, feat 208 2, feat 208 3, s.rd SYS.DLSTAT, s.rd SYS.CLKSTAT]) ∧
    (go 0x0302 → exec (.portStatus h p) s = regs 0x0302 [PORT.CTL p, PORT.STAT p]) ∧
    (go 0x0303 → exec (.portCounters h p) s = t.replyVals h 0x0303 ((List.range 11).map (fun j => tabGet s.obs.cnt 0 (0x6FC + 11 * p.val + j)) ++
      (List.range 4).map (fun j => tabGet s.obs.cnt 0 (0x7AC + 4 * p.val + j)))) ∧
    (go 0x0501 → exec (.timeGet h) s = t.replyVals h 0x0501 [s.nowSec, s.nowNs, s.nowFrac]) ∧
    (go 0x0702 → s.on (PLT.IMGCFG_EN ix) = false → exec (.imageMap h ix) s = t.replied h 0x0702 0x44 0 []) ∧
    (go 0x0702 → s.on (PLT.IMGCFG_EN ix) = true → exec (.imageMap h ix) s = t.replyVals h 0x0702 [s.imgBuf ix 0 - plateLo,
      s.imgBuf ix 1 - plateLo, s.imgBuf ix 2 - plateLo, s.imgHdr ix - plateLo, PLT.IMGCFG ix + 0x1C]) ∧
    (go 0x0803 → exec (.loopRead h slot) s = (t.lpSet 2 (8 * slot.val + 7) 0).replyVals h 0x0803
      ((List.range 16).map (s.lpPar slot) ++ (List.range 8).map (s.lpSt slot))) ∧
    (go 0x0902 → exec (.mbStatus h k) s = regs 0x0902 [MBUS.CTL k, MBUS.STAT k, MBUS.ERRC k]) ∧
    (go 0x0B01 → exec (.schedStats h) s = t.replyVals h 0x0B01 ((List.range 25).map s.qstat ++
      (List.range 16).flatMap (fun n => [s.rd (WSC.CORESTAT n), s.rd (WSC.LOAD n)]))) ∧
    (go 0x0D05 → exec (.sealGet h) s = t.replyVals h 0x0D05 [s.sealNow % 2 ^ 32, s.sealNow / 2 ^ 32, s.f OBS.RUNEPOCH_E]) ∧
    (go 0x0F01 → exec (.faultRead h u) s = t.replyVals h 0x0F01 ((List.range 8).map (fun w => s.rd (FLT.REC0 u + 4 * w)))) ∧
    (go 0x1002 → exec (.powerGet h) s = t.replyVals h 0x1002 ([s.rd SYS.PWRSTAT] ++ (List.range 4).map (fun n => s.rd (SYS.RGCTL n)) ++
      (List.range 12).map (fun c => s.rd (SYS.DOZE c)))) ∧
    (go 0x1104 → exec (.installStatus h) s = t.replyVals h 0x1104
      [b2n s.install.isSome, s.installEnd, s.bootRecord.1, b2n (s.bootRecord.2.1 != 0), b2n (s.bootRecord.2.2 != 0)]) ∧
    (go 0x0E01 → bitOf h.flags.toNat 0 = false → exec (.topologyRead h) s = t.replyVals h 0x0E01 [s.neigh.length, s.neighLost]) ∧
    (∀ b, go 0x0E01 → bitOf h.flags.toNat 0 = true → bitOf h.flags.toNat 3 = true → bitOf h.flags.toNat 2 = false → h.bulk = some b →
      let head := (Config.payload 0x0E01 [s.neigh.length, s.neighLost]).take 64
      let bs := (head ++ List.replicate (64 - head.length) 0 ++ s.neigh.flatMap neighBytes).take b.len.toNat
      exec (.topologyRead h) s = ({ t with hostMem := putBytes s.hostMem b.addr.toNat bs } : State).replied h 0x0E01 0 0
        (leBytes 4 bs.length ++ leBytes 4 (crc32 bs))) ∧
    (∀ P, go 0x0204 → s.persOf th = some P → s.regionDown (th.val / 48) = false → exec (.persQuery h th) s = t.replyVals h 0x0204
      ((P.threads ++ P.standbys).flatMap (fun x => [x, s.thState x, s.f (ofTh CC.THKEY_KEY x)]))) ∧
    (go 0x0204 → s.persOf th = none → exec (.persQuery h th) s = t.replied h 0x0204 0x44 0 [])

/-- R78, R202, R244, R250, R262, R290, R297, R361, R367, R382, R519, R522: a draft command of the session whose draft is open writes the words it
carries, each of them a sealed word of its group, as the Keyblock in DMODE, and answers OK. DRAFT_OPEN opens the one draft of the device,
DRAFT_DISCARD reverts it. -/
def Obligations.DraftCommandsWriteTheirDraftWords : Prop :=
  ∀ (h : FHdr) (ws : List RegW) (es : List TblEnt) (gs : List GuardEnt) (b : Bool) (p : Fin 16) (n : Fin 4) (k : Fin 8) (v : Fin 22) (slot : Fin 512) (r : Fin 32)
    (cyc ns sec : Word) (l : List Word) (margin : Option (BitVec 24)) (s : State),
    let t := s.took h
    let w := kbWrites ws t
    let go := fun (op : Nat) (g : Nat → Prop) => s.admitsDraft h op ∧ (∀ x ∈ ws, isDraftWord x.addr.toNat = true ∧ g x.addr.toNat) ∧ kbTakes ws t
    let fits := fun (tb : Nat) => ∀ e ∈ es, e.index.toNat < tblRoom tb
    let head : List RegW := [⟨BitVec.ofNat 32 (SW.STH_CYCLE v (1 - s.opbank v)), cyc⟩, ⟨BitVec.ofNat 32 (SW.STH_BASENS v (1 - s.opbank v)), ns⟩,
      ⟨BitVec.ofNat 32 (SW.STH_BASESEC v (1 - s.opbank v)), sec⟩, ⟨BitVec.ofNat 32 (SW.STH_LEN v (1 - s.opbank v)), BitVec.ofNat 32 l.length⟩]
    let sten := head ++ l.mapIdx (fun i x => ⟨BitVec.ofNat 32 (SW.STE v (1 - s.opbank v) i), x⟩)
    let cycle := min (max (bitsOf (w.draftOf (RUL.CYCLE n)) 0 27) 12500) 100000000 / 2 * 2
    let m := match margin with | some y => y.toNat | none => 2 * ((cycle + 9999) / 10000)
    (go 0x0301 (fun a => a / 0x10000 = 0x4010 + p.val ∨ a = TMU.PTPCFG p ∨ a = PHYA.TRIM p) → exec (.portConfig h p ws) s = w.replyOk h 0x0301) ∧
    (go 0x0403 (fun a => a / 0x10000 = 0x4002 ∨ ∃ i, i < 22 ∧ a = TMU.LTPOL i) → exec (.queueConfig h ws) s = w.replyOk h 0x0403) ∧
    (go 0x0601 (fun a => rulWords n a = true) → (∀ g ∈ gs, g.index.val < tblRoom 4) → exec (.rulConfig h n ws margin gs) s =
      (let u := w.draftWrite (SW.GDCFG n) (setBits (w.draftOf (SW.GDCFG n)) 4 24 m);
        (u.draftEntries 4 (gs.map (u.guardEntry n m))).st.replyOk h 0x0601)) ∧
    (go 0x0602 (fun a => RUL.MARK n 0 ≤ a ∧ a < RUL.MARK n 16) → exec (.markConfig h n ws) s = w.replyOk h 0x0602) ∧
    (go 0x0801 (fun a => a / 0x10000 = 0x4005) → exec (.loopWrite h (.regs ws)) s = w.replyOk h 0x0801) ∧
    (go 0x0901 (fun a => mbOf a = some k.val) → w.draftTimingOk k = true → exec (.mbConfig h k ws) s = w.replyOk h 0x0901) ∧
    (go 0x0A01 (fun a => a / 0x10000 = 0x400C ∨ (a / 0x10000 = 0x4040 ∧ a % 0x10000 < 0x4000)) → w.draftMediaOk = true →
      exec (.nmConfig h ws) s = w.replyOk h 0x0A01) ∧
    (go 0x0D02 (fun _ => True) → exec (.draftWrite h ws) s = w.replyOk h 0x0D02) ∧
    (s.admitsDraft h 0x0401 → fits (b2n b) → exec (.fdbWrite h b es) s = (t.draftEntries (b2n b) es).st.replyOk h 0x0401) ∧
    (s.admitsDraft h 0x0402 → fits (2 + b2n b) → exec (.streamWrite h b es) s = (t.draftEntries (2 + b2n b) es).st.replyOk h 0x0402) ∧
    (s.admitsDraft h 0x0404 → l ≠ [] → l.length ≤ 256 → kbTakes sten t → exec (.stencilWrite h v cyc ns sec l) s = (kbWrites sten t).replyOk h 0x0404) ∧
    (s.admitsDraft h 0x0801 → l.length = 16 → exec (.loopWrite h (.param slot l)) s = ((t.iwPut 1 (16 * slot.val) l).pendset slot.val).replyOk h 0x0801) ∧
    (s.admitsDraft h 0x0801 → l.length = 16 → exec (.loopWrite h (.rc r l)) s = ((t.iwPut 4 (16 * r.val) l).pendset (r.val + 0x200)).replyOk h 0x0801) ∧
    (s.admits h 0x0D01 0 false → s.draftOwner = none → exec (.draftOpen h) s =
      ({ t.setF OBS.ACTCTL_DMODE 1 with draftOwner := some h.sess.val } : State).replyOk h 0x0D01) ∧
    (s.admitsDraft h 0x0D01 → exec (.draftOpen h) s = t.replyOk h 0x0D01) ∧
    (∀ o, s.admits h 0x0D01 0 false → s.draftOwner = some o → o ≠ h.sess.val → exec (.draftOpen h) s = t.replied h 0x0D01 0x46 0 []) ∧
    (s.admits h 0x0D04 0 false → s.draftOwner = some h.sess.val → exec (.draftDiscard h) s =
      ({ t.revert.setF OBS.ACTCTL_DMODE 0 with draftOwner := none } : State).replyOk h 0x0D04)

/-- R273, R284, R290, R291, R297, R320, R358, R361, R363, R384, R413, R480, R526: the configuration commands that need no draft write their words at
once, or do the one act they name, and answer OK. R438: an IMAGE_DEFINE of a mirrored image whose mirror base is not that of its base is answered
BAD_PARAM, with a DETAIL that the spec leaves to the host kit (free value), and writes nothing. -/
def Obligations.ConfigurationCommandsActAtOnce : Prop :=
  ∀ (h : FHdr) (ws : List RegW) (ask : List (Fin 5 × Bool)) (n : Fin 4) (ix : Fin 256) (slot : Fin 512) (st : List (Fin 8 × Word)) (sec : BitVec 48) (ns : Word)
    (c : Fin 12) (en : Bool) (dly : BitVec 12) (s : State),
    let t := s.took h
    let w := kbWrites ws t
    let go := fun (op : Nat) => s.admits h op 0 false
    let words := fun (op : Nat) (g : Nat → Prop) => go op ∧ (∀ x ∈ ws, g x.addr.toNat) ∧ kbTakes ws t
    let within := fun (lo hi a : Nat) => isRegWord a = true ∧ lo ≤ a ∧ a < hi
    (words 0x0503 (· ∈ [TMU.SRVCFG, TMU.SYNCBND, TMU.LTCFG, TMU.MBCCFG]) → exec (.servoConfig h ws) s = w.replyOk h 0x0503) ∧
    (words 0x0504 (within (TMU.TIOCFG 0) (TMU.PPSOUT + 1)) → ∃ u : State, exec (.tioConfig h ws ask) s = u.replyOk h 0x0504 ∧ u.regs = w.regs ∧
      (ask = [] → u = w) ∧ (∀ i e, ask = [(i, e)] → u.tioAsk.contains i.val = e ∧ ∀ j, j ≠ i.val → u.tioAsk.contains j = w.tioAsk.contains j)) ∧
    (words 0x0701 (within (PLT.IMGCFG ix) (PLT.IMGSIZE ix + 1)) → s.on (PLT.IMGCFG_EN ix) = false →
      let bad := w.on (PLT.IMGCFG_MIRROR ix) = true ∧ w.imgMBase ix ≠ mirrorOf (w.imgBase ix)
      (¬bad → exec (.imageDefine h ix ws) s = w.replyOk h 0x0701) ∧
      (bad → ∃ d, d < 2 ^ 16 ∧ exec (.imageDefine h ix ws) s = ({ t with freeIx := t.freeIx + 1 } : State).replied h 0x0701 0x12 d [])) ∧
    (go 0x0701 → s.on (PLT.IMGCFG_EN ix) = true → exec (.imageDefine h ix ws) s = t.replied h 0x0701 0x46 0 []) ∧
    (words 0x0804 (within (LPE.TSGCFG 0) (LPE.TSGCFG 16)) → exec (.tsgConfig h ws) s = w.replyOk h 0x0804) ∧
    (words 0x0B02 (fun a => a = WSC.CFG ∨ (within (WSC.CORECFG 0) (WSC.CORECFG 16) a ∧ a % 16 = 0) ∨ (∃ f, f < 2 ∧ (a = WSC.HSQCFG f ∨ a = WSC.HSQBASE f)) ∨
      within (WSC.TPL 0 0) (WSC.TPLCFG 80) a) → exec (.coreConfig h ws) s = w.replyOk h 0x0B02) ∧
    (words 0x0C01 (fun a => a % 4 = 0 ∧ OBS.EPCFG ≤ a ∧ a ≤ OBS.EPBASESEC) → exec (.epochConfig h ws) s = w.replyOk h 0x0C01) ∧
    (words 0x0C03 (within (OBS.STPCFG 0) (OBS.STPCFG 32)) → exec (.stippleConfig h ws) s = w.replyOk h 0x0C03) ∧
    (go 0x0801 → exec (.loopWrite h (.state slot st)) s =
      (st.foldl (fun u e => u.iwPut 2 (8 * slot.val + e.1.val) [e.2]) t).replyOk h 0x0801) ∧
    (go 0x0603 → t.rulChecks n = true → exec (.rulStart h n) s = (t.runSet n true).replyOk h 0x0603) ∧
    (go 0x0604 → exec (.rulStop h n) s = (t.runSet n false).replyOk h 0x0604) ∧
    (go 0x0A02 → exec (.sleepRequest h n) s = (t.ringLocal n true).replyOk h 0x0A02) ∧
    (go 0x0A03 → exec (.wakeRequest h n) s = ((t.ringLocal n false).wakeRing n true).replyOk h 0x0A03) ∧
    (go 0x0502 → ns.toNat ≤ 999999999 →
      let u := (t.setFs [(TMU.SETSECL_SEC, sec.toNat % 2 ^ 32), (TMU.SETSECH_SEC, sec.toNat / 2 ^ 32), (TMU.SETNS_NS, ns.toNat)]).tmuCtl 8
      exec (.timeSet h sec ns) s = if s.f TMU.STAT_STATE = 0 ∧ s.anyRuns = false then u.replyOk h 0x0502 else u.replied h 0x0502 0x46 0 []) ∧
    (go 0x1001 → exec (.powerSet h (.doze c en dly)) s = (t.sysWrite rqKb (0x310 + 4 * c.val) (b2n en + dly.toNat * 16)).2.replyOk h 0x1001) ∧
    (go 0x1001 → t.powerRefused (.region n en) = false → exec (.powerSet h (.region n en)) s =
      (t.sysWrite rqKb (0x340 + 4 * n.val) (b2n en + 2 * s.f (SYS.RGCTL_RST n))).2.replyOk h 0x1001) ∧
    (go 0x0F03 → exec (.proofClear h) s =
      ((t.proofPut (0x100000 * s.f FLT.PROOFBASE_ADDR) (List.replicate 0x100 0)).2.setF FLT.PROOFSTAT_VALID 0).replyOk h 0x0F03)

/-- R69, R76 and Table 2.13: a long command that starts is answered ACCEPTED and waits for its completion, which is posted with the command's opcode
and bit 15, its tag and its final status; then the command waits no more. A load whose signature fails ends with SIGNATURE and changes nothing (R169);
an activation that was late ends with ACTIVATION_LATE; Hold is entered after its completion is committed, which waits for its place (R487). R85, R169,
R402, R415, Table 5.1: PERS_START starts every thread of the personality and PERS_STOP stops it, with an event for each; PERS_UNLOAD, its threads
stopped and its claims given back, removes it; without a personality they answer NOT_FOUND, with the region off DOMAIN_OFF. -/
def Obligations.LongCommandsAndPersonalitiesComplete : Prop :=
  (
  ∀ (h : FHdr) (ce : Fin 24) (ts : List PersThread) (claims ws : List RegW) (c : Fin 4) (slot : Fin 2) (off : BitVec 23) (dig : BitVec 128)
    (ns sec epoch : Word) (expect : BitVec 64) (en : Bool) (tt : Fin 4) (n : Fin 4) (tag : BitVec 16) (sig : Option Bool) (ok : Bool) (found : List ScanFound) (s : State),
    let t := s.took h
    let go := fun (op needs : Nat) => s.admits h op needs true
    let act := Instr.draftActivate h ns sec epoch expect en tt
    (go 0x0201 1 → s.regionDown (ce.val / 6) = false → exec (.persLoad h ce ts claims) s = t.replyAccepted h 0x0201 (.persLoad h ce ts claims)) ∧
    (go 0x0201 1 → s.regionDown (ce.val / 6) = true → exec (.persLoad h ce ts claims) s = t.replied h 0x0201 0x43 0 []) ∧
    (go 0x0802 2 → (∀ x ∈ ws, x.addr.toNat ∈ [LPE.CAPCFG c, LPE.CAPLEN c, LPE.CAPSTAT c]) → kbTakes ws t →
      exec (.captureRead h c ws) s = (kbWrites ws t).replyAccepted h 0x0802 (.captureRead h c ws)) ∧
    (go 0x0C02 2 → tabHas s.obs.imp slot.val = true → exec (.impressionRead h slot) s = t.replyAccepted h 0x0C02 (.impressionRead h slot)) ∧
    (go 0x0C02 2 → tabHas s.obs.imp slot.val = false → exec (.impressionRead h slot) s = t.replied h 0x0C02 0x44 0 []) ∧
    (go 0x0F02 2 → s.on FLT.PROOFSTAT_VALID = true → exec (.proofFetch h) s = t.replyAccepted h 0x0F02 (.proofFetch h)) ∧
    (go 0x0F02 2 → s.on FLT.PROOFSTAT_VALID = false → exec (.proofFetch h) s = t.replied h 0x0F02 0x44 0 []) ∧
    (go 0x0E02 0 → exec (.scan h) s = t.replyAccepted h 0x0E02 (.scan h)) ∧
    (∀ r, r = PowerReq.hold ∨ r = PowerReq.off → go 0x1001 0 → t.powerRefused r = false →
      exec (.powerSet h r) s = t.replyAccepted h 0x1001 (.powerSet h r)) ∧
    (∀ r, r = PowerReq.hold ∨ r = PowerReq.off → go 0x1001 0 → t.powerRefused r = true → exec (.powerSet h r) s = t.replied h 0x1001 0x46 0 []) ∧
    (∀ b, h.bulk = some b → go 0x1102 1 → s.install = some h.sess.val → off.toNat % 0x10000 = 0 → b.len.toNat ≤ 0x10000 →
      exec (.installData h off) s = t.replyAccepted h 0x1102 (.installData h off)) ∧
    (go 0x1103 0 → s.install = some h.sess.val → exec (.installCommit h dig) s = t.replyAccepted h 0x1103 (.installCommit h dig)) ∧
    (s.admits h 0x1101 0 false → s.install = none → ∃ u : State, exec (.installBegin h) s = u.replyOk h 0x1101 ∧ u.install = some h.sess.val) ∧
    (go 0x0D03 0 → t.activateStatus h.sess (t.fullTime (ns.toNat % 2 ^ 30) sec.toNat) epoch.toNat expect.toNat = 0 →
      ∃ u : State, exec act s = u.replyAccepted h 0x0D03 act) ∧
    (∀ op cmd r, s.serves = true → s.longs = [⟨n, tag.toNat, op, cmd⟩] → s.finish n cmd sig ok found = some r → (∀ g q, cmd ≠ .powerSet g q) →
      exec (.commandCompletion n tag sig ok found) s =
        .next (({ r.st with longs := r.st.longs.filter (fun x => !(x.sess == n.val && x.tag == tag.toNat)) } : State).eventTo n (op + 0x8000) tag.toNat
          (r.status + r.detail * 2 ^ 16) r.payload)) ∧
    (∀ op, s.serves = true → s.longs = [⟨n, tag.toNat, op, .persLoad h ce ts claims⟩] → s.regionDown (ce.val / 6) = false →
      exec (.commandCompletion n tag none ok found) s = .next (({ s with longs := [] } : State).eventTo n (op + 0x8000) tag.toNat 0x60 [])) ∧
    (∀ op, s.serves = true → s.longs = [⟨n, tag.toNat, op, act⟩] → s.on OBS.ACTSTAT_LATE = true →
      exec (.commandCompletion n tag sig ok found) s = .next (({ s with longs := [] } : State).eventTo n (op + 0x8000) tag.toNat 0x62 [])) ∧
    (∀ op g r, s.serves = true → s.longs = [⟨n, tag.toNat, op, .powerSet g r⟩] → s.powerWaits n (.powerSet g r) = true →
      exec (.commandCompletion n tag sig ok found) s = .next s) ∧
    (∀ op g, s.serves = true → s.longs = [⟨n, tag.toNat, op, .powerSet g .hold⟩] → s.powerWaits n (.powerSet g .hold) = false →
      exec (.commandCompletion n tag sig ok found) s = .next ((({ s with longs := [] } : State).eventTo n (op + 0x8000) tag.toNat 0 []).sysWrite rqKb 0x300 0x50570001).2)) ∧
  (
  ∀ (h : FHdr) (th : Fin 192) (p : Pers) (s : State), s.persOf th = some p → s.regionDown (th.val / 48) = false →
    let t := s.took h
    let each := fun (cmd up : Nat) => p.threads.foldl (fun u x => (u.thCmd false x cmd 0).postEvent 0x8280 [x, up]) t
    let l := p.threads ++ p.standbys
    let back : List RegW := t.freeClaims (th.val / 8) p.claims
    (s.admits h 0x0202 0 false → exec (.persStart h th) s = (each 1 1).replyOk h 0x0202) ∧
    (s.admits h 0x0203 0 false → exec (.persStop h th) s = (each 2 0).replyOk h 0x0203) ∧
    (s.admits h 0x0205 0 false → (∃ x ∈ l, s.thState x ∉ [0, 5, 7]) → exec (.persUnload h th) s = t.replied h 0x0205 0x46 0 []) ∧
    (s.admits h 0x0205 0 false → (∀ x ∈ l, s.thState x ∈ [0, 5, 7]) → kbTakes back t →
      let u := l.foldl (fun v x => ((v.thCmd false x 5 0).wrReg (ofTh CC.THCK x) 0).setF (ofTh CC.THKEY_KEY x) 0) (kbWrites back t)
      exec (.persUnload h th) s = ({ u with pers := u.pers.filter (fun q => q != p) } : State).replyOk h 0x0205))

/-! ## Threads and engines (chapter 5) -/

/-- R41, R42, R147 and Table 5.2: a thread command by the Keyblock or the debug port. In a region that is down it is answered DOMAIN_OFF; a cluster in
Doze it wakes first. Each takes effect only from the states of its row; from any
other it changes nothing but CMDREJ of the engine. START runs the thread from THPC; STOP stops it once its posted stores are answered; RESTORE queues
it at the checkpoint unit; STANDBY and CLEAR set STANDBY and STOPPED; FAIL sets FAILED with FCAUSE 3 and is recorded (R171, Table 17.4); DEBUG, by the
debug port only, halts and resumes. Another master is refused with PERM (R173). R151, R154,
R171, R172: what is commanded of the engine and what fails in it acts on the thread as on the others. -/
def Obligations.ThreadCommandsFollowTheirTable : Prop :=
  ∀ (rq : Rq) (th : Fin 192) (pend : BitVec 16) (s : State),
    let up := s.regionDown (th.val / 48) = false ∧ s.f (SYS.DOZE_STATE (th.val / 24)) ≠ 2
    let rows := [Instr.threadStart rq th, .threadStop rq th, .threadRestore rq th pend, .threadStandby rq th, .threadClear rq th, .threadFail rq th, .threadDebug rq th]
    let st := s.thState th
    let n := th.val / 8
    let mark := fun (code : Nat) => ({ unit := th.val / 8, code := code, cls := if s.hasStandby th then 1 else 2, detail := 2 ^ (th.val % 8),
                                       ident := 0x10 + th.val / 8, key := some (s.f (ofTh CC.THKEY_KEY th)) } : FaultRec)
    let idle := (s.core th).posted = []
    let rej := (Host.Outcome.next ((s.bump (ofCe CC.ENGSTAT_CMDREJ n)).answer 0) : Host.Outcome State Fault Refusal)
    let goes := fun (o : Host.Outcome State Fault Refusal) (x : Nat) => isNext o (fun t => t.resp = ⟨0, []⟩ ∧ t.thState th = x ∧
      (∀ k : Fin 192, k ≠ th → t.thState k = s.thState k) ∧ t.mem = s.mem)
    (s.regionDown (th.val / 48) = true → ∀ m ∈ rows, exec m s = .next (s.answer 3)) ∧
    (s.regionDown (th.val / 48) = false → ∀ m ∈ rows, exec m s = exec m (s.wakeCluster (th.val / 24))) ∧
    (up → isKbDbg rq.id.toNat = true →
      (st = 0 → goes (exec (.threadStart rq th) s) 1 ∧ isNext (exec (.threadStart rq th) s) (fun t =>
        t.pc th = 4 * s.f (ofTh CC.THPC_PC th) ∧ t.wdRemain th = s.f (ofTh CC.THWD_LIMIT th))) ∧
      (st ≠ 0 → exec (.threadStart rq th) s = rej) ∧
      (st ∈ [1, 2, 6] → idle → goes (exec (.threadStop rq th) s) 0) ∧
      (st ∈ [1, 2, 6] → ¬idle → goes (exec (.threadStop rq th) s) st ∧ isNext (exec (.threadStop rq th) s) (fun t => tabGet t.halting 0 th.val = 1)) ∧
      (st ∉ [1, 2, 6] → exec (.threadStop rq th) s = rej) ∧
      (st ∈ [0, 5] → goes (exec (.threadRestore rq th pend) s) 4 ∧ isNext (exec (.threadRestore rq th pend) s) (fun t =>
        t.on (ofTh CC.CKSTAT_BUSY th) = true ∧ t.ckOps n = s.ckOps n ++ [⟨th.val, true, false, pend.toNat, 0, 0, [], 0, s.ticks⟩])) ∧
      (st ∉ [0, 5] → exec (.threadRestore rq th pend) s = rej) ∧
      (st = 0 → goes (exec (.threadStandby rq th) s) 5) ∧
      (st ≠ 0 → exec (.threadStandby rq th) s = rej) ∧
      (st ∉ [3, 4] → goes (exec (.threadClear rq th) s) 0 ∧ isNext (exec (.threadClear rq th) s) (fun t => t.f (ofTh CC.EVPEND_PEND th) = 0 ∧
        t.f (ofTh CC.EVMASK_MASK th) = 0xFFFF ∧ t.f (ofTh CC.THCOS_COS th) = 0 ∧ t.on (ofTh CC.CKSTAT_VALID th) = false)) ∧
      (st ∈ [3, 4] → exec (.threadClear rq th) s = rej) ∧
      (st ∈ [1, 2, 3, 6] → ∃ u : State, exec (.threadFail rq th) s = .next ((u.fault (mark 3)).answer 0) ∧
        u.thState th = 7 ∧ u.f (ofTh CC.THCTL_FCAUSE th) = 3) ∧
      (st ∉ [1, 2, 3, 6] → exec (.threadFail rq th) s = rej)) ∧
    (up → rq.id = 0x50 → (st ∈ [1, 2] → idle → goes (exec (.threadDebug rq th) s) 6) ∧ (st = 6 → goes (exec (.threadDebug rq th) s) 1) ∧
      (st ∉ [1, 2, 6] → exec (.threadDebug rq th) s = rej)) ∧
    (up → rq.id = 8 → exec (.threadDebug rq th) s = rej) ∧
    (up → isKbDbg rq.id.toNat = false → threadOf rq (th.val / 24) = none → exec (.threadStart rq th) s = .next (s.answer 2) ∧
      exec (.threadFail rq th) s = .next (s.answer 2)) ∧
    (∀ e : Fin 24, e.val = n → (up → isKbDbg rq.id.toNat = true → ∃ u : State, exec (.engineLocalReset rq e) s = .next (u.answer 0) ∧
        u.on (ofCe CC.ENGSTAT_CLEARING n) = true ∧ u.thState th = 0) ∧
      (s.on (ofCe CC.ENGSTAT_CLEARING n) = true → isNext (exec (.engineClearDone e) s) (fun t => t.on (ofCe CC.ENGSTAT_CLEARING n) = false)) ∧
      (∀ m, up → rq.id.toNat = 0x10 + n → rq.rkey = some (BitVec.ofNat 8 th.val) → isNext (exec (.softwareEvent rq e m) s) (fun t => t.resp = ⟨0, []⟩)) ∧
      (s.f (ofTh CC.THWD_LIMIT th) ≠ 0 → st ∈ [1, 2, 3] → ∃ u : State, exec (.threadWatchdogExpiry th) s = .next (u.fault (mark 2)) ∧ u.thState th = 7) ∧
      (∃ (u : State) (r : FaultRec), exec (.engineParityError e) s = .next (u.fault r) ∧ u.thState th = 7))

/-- R151, R154, R171, R172, Table 5.13: the local reset of an engine leaves its threads stopped and CLEARING set, until its two RAMs read zero and
nothing else of the memory has changed (R41, R42: DOMAIN_OFF in a region that is down, and a cluster in Doze wakes first); a software event of a
thread sets the pending bit of every slot of the masked threads that selects it; a watchdog that expires and a parity error fail the thread, or all
eight, with their FCAUSE, and are recorded. So do the instants of the engine's checkpoint unit (R161, R163, R165): a CKPT takes its place, the header
completes it, a RESTORE loads the latest valid half. -/
def Obligations.EnginesResetFireAndFail : Prop :=
  ∀ (rq : Rq) (n : Fin 24) (mask : BitVec 8) (th : Fin 192) (s : State),
    let b := 0x20000000 + n.val * 0x40000
    let up := s.regionDown (n.val / 6) = false ∧ s.f (SYS.DOZE_STATE (n.val / 3)) ≠ 2
    let st := s.thState th
    let mark := fun (code : Nat) => ({ unit := th.val / 8, code := code, cls := if s.hasStandby th then 1 else 2, detail := 2 ^ (th.val % 8),
                                       ident := 0x10 + th.val / 8, key := some (s.f (ofTh CC.THKEY_KEY th)) } : FaultRec)
    let parity : FaultRec := { unit := n, code := 4, cls := if (List.range 8).any (fun k => s.hasStandby (8 * n + k)) then 1 else 2, detail := 0xFF,
                               ident := 0x10 + n.val }
    (s.regionDown (n.val / 6) = true → ∀ m ∈ [Instr.engineLocalReset rq n, .softwareEvent rq n mask], exec m s = .next (s.answer 3)) ∧
    (s.regionDown (n.val / 6) = false → ∀ m ∈ [Instr.engineLocalReset rq n, .softwareEvent rq n mask], exec m s = exec m (s.wakeCluster (n.val / 3))) ∧
    (up → isKbDbg rq.id.toNat = true → ∃ u : State,
      exec (.engineLocalReset rq n) s = .next ((((u.resetIdentity (0x10 + n.val)).releaseIdentity (0x10 + n.val)).freshCredits n).answer 0) ∧
      u.on (ofCe CC.ENGSTAT_CLEARING n) = true ∧ u.on (ofCe CC.ENGSTAT_EFAIL n) = false ∧
      ∀ k, k < 8 → u.thState (8 * n + k) = 0 ∧ u.f (ofTh CC.EVMASK_MASK (8 * n + k)) = 0xFFFF) ∧
    (up → isKbDbg rq.id.toNat = false → exec (.engineLocalReset rq n) s = .next (s.answer 2)) ∧
    (s.on (ofCe CC.ENGSTAT_CLEARING n) = true → isNext (exec (.engineClearDone n) s) (fun t => t.on (ofCe CC.ENGSTAT_CLEARING n) = false ∧
      ∀ a, tabGet t.mem 0 a = if b ≤ a ∧ a < b + 0x20000 then 0 else tabGet s.mem 0 a)) ∧
    (s.on (ofCe CC.ENGSTAT_CLEARING n) = false → exec (.engineClearDone n) s = .next s) ∧
    (up → ∀ k, k < 8 → rq.id.toNat = 0x10 + n.val → rq.rkey = some (BitVec.ofNat 8 (8 * n + k)) →
      isNext (exec (.softwareEvent rq n mask) s) (fun t => t.resp = ⟨0, []⟩ ∧ t.thState th = st ∧ ∀ j i, j < 8 → i < 16 → bitOf mask.toNat j = true →
        s.rd (CC.EVSEL (n / 3) (n % 3) j i) % 256 = 0x80 + k → bitOf (t.f (ofTh CC.EVPEND_PEND (8 * n + j))) i = true)) ∧
    (s.f (ofTh CC.THWD_LIMIT th) ≠ 0 → st ∈ [1, 2, 3] → ∃ u : State, exec (.threadWatchdogExpiry th) s = .next (u.fault (mark 2)) ∧
      u.thState th = 7 ∧ u.f (ofTh CC.THCTL_FCAUSE th) = 2) ∧
    (s.f (ofTh CC.THWD_LIMIT th) = 0 ∨ st ∉ [1, 2, 3] → exec (.threadWatchdogExpiry th) s = .next s) ∧
    (∃ u : State, exec (.engineParityError n) s = .next (u.fault parity) ∧
      u.on (ofCe CC.ENGSTAT_EFAIL n) = true ∧ ∀ k, k < 8 → u.thState (8 * n + k) = 7 ∧ u.f (ofTh CC.THCTL_FCAUSE (8 * n + k)) = 4) ∧
    (∀ (f : FmtX) (c : CoreIx), c.val = th.val → s.issues c → f.rd = 0 → f.imm = 0 → s.on (ofTh CC.THCK_V th) = true →
      s.windowOk th (s.ckBase th) (s.f (ofTh CC.CKWIN_LEN th)) = true → ∃ u : State,
        exec (.ckpt c f) s = .next (u.ckAdvance (th.val / 8) 9) ∧ u.thState th = 3 ∧ u.on (ofTh CC.CKSTAT_BUSY th) = true) ∧
    (∀ o, s.ckOps n = [o] → o.restore = false → o.cap = true → ((s.lendBulk o.th 64).busWrite (s.coreRq o.th) (s.halfAt o.th o.half) o.hdr true).1 = 0 → o.th < 192 →
      o.half < 2 → s.ckFree o.th 64 = true → ∃ u : State, exec (.checkpointComplete n) s = .next (u.ckAdvance n 9) ∧ u.thState o.th = 1 ∧ u.on (ofTh CC.CKSTAT_VALID o.th) = true) ∧
    (∀ o h b, s.ckOps n = [o] → o.restore = true → (s.latestHalf o.th).1 = some (h, b) → o.th < 192 →
      ∃ u : State, exec (.restoreComplete n) s = .next (u.ckAdvance n 9) ∧ u.thState o.th = 1 ∧ u.pc o.th = halfWord b 0x40 - halfWord b 0x40 % 4)

/-! ## Burin (chapter 6) -/

/-- R178–R182, R187, R188, R190, R193, R198 and Tables 6.3, 6.4: the instruction at PC executes when its condition holds: PC steps to the next word,
or to A for a JMP whose condition holds, and the registers take what its row says; a WAITP or WAITT whose condition does not hold leaves PC. An
illegal word and a parity error halt the engine with ERR 1 and 2; a HALT leaves ERR (R198: only START and LRST clear it). CLKR makes this edge a lead
tick (R175), and a WAITT counts the lead ticks after the one it began at. -/
def Obligations.BurinInstructionsFollowTheirTable : Prop :=
  ∀ (n : Fin 64) (pins : BitVec 8) (len : BitVec 10) (h lv kk : Bool) (mask vv j m : BitVec 4) (a : BitVec 5) (b : BitVec 6) (v : BitVec 16) (w : Nat) (s : State),
    let x := fun (y : Nat → Nat → FldAt) => s.f (ofBe y n)
    let goto := fun (o : Host.Outcome State Fault Refusal) (p : State → Prop) => isNext o (fun t => s.burinDone t n ∧ p t)
    let idle := x CC.BSH_SCNT = 0
    let count := if len = 0 then 1024 else len.toNat
    let pc := x CC.BSTAT_PC
    let match_ := x CC.BSR_W % 2 ^ (x CC.BCFG_CMPW + 1) = x CC.BCMP_W % 2 ^ (x CC.BCFG_CMPW + 1)
    let high := bitOf (s.seen (n / 8) pins).toNat (s.slotPin n (j.toNat % 4)) = true
    let jmp := fun (c : Nat) => s.burinAt n (0x48000000 + a.toNat + 32 * c + 512 * (j.toNat % 4))
    let goes := fun (c : Prop) (p : State → Prop) => isNext (exec (.burinJmp n pins) s) (fun t =>
      (c → t.f (ofBe CC.BSTAT_PC n) = a.toNat) ∧ (¬c → t.f (ofBe CC.BSTAT_PC n) = (pc + 1) % 32) ∧ p t)
    let owner : Option Nat := if s.on (ofBe CC.BOWN_V n) then some (s.f (ofBe CC.BOWN_KEY n)) else none
    (s.burinAt n 0 → goto (exec (.burinNop n pins) s) (fun t => { t with regs := s.regs, burin := s.burin, pinSync := s.pinSync } = s)) ∧
    (s.burinAt n (0x08000000 + len.toNat) → idle → goto (exec (.burinSho n pins) s) (fun t => t.f (ofBe CC.BSH_SCNT n) = count ∧ (t.bu n).kind = 1)) ∧
    (s.burinAt n (0x10000000 + len.toNat + 1024 * b2n h) → idle → goto (exec (.burinShi n pins) s) (fun t =>
      t.f (ofBe CC.BSH_SCNT n) = count ∧ (t.bu n).kind = 2 ∧ (t.bu n).early = h)) ∧
    (s.burinAt n (0x18000000 + len.toNat + 1024 * b2n h) → idle → goto (exec (.burinShx n pins) s) (fun t =>
      t.f (ofBe CC.BSH_SCNT n) = count ∧ (t.bu n).kind = 3 ∧ (t.bu n).early = h)) ∧
    (s.burinAt n 0x20000000 → idle → x CC.BSTAT_TXF = 1 → goto (exec (.burinPull n pins) s) (fun t => t.f (ofBe CC.BSR_W n) = x CC.BTXD_W ∧
      t.f (ofBe CC.BSH_BITS n) = 32 ∧ t.f (ofBe CC.BSTAT_TXF n) = 0 ∧ t.f (ofBe CC.BXCNT_TXCNT n) = (x CC.BXCNT_TXCNT + 1) % 2 ^ 16)) ∧
    (s.burinAt n 0x28000000 → idle → x CC.BSTAT_RXF = 0 → goto (exec (.burinPush n pins) s) (fun t => t.f (ofBe CC.BRXD_W n) = x CC.BSR_W ∧
      t.f (ofBe CC.BSH_BITS n) = 0 ∧ t.f (ofBe CC.BSTAT_RXF n) = 1 ∧ t.f (ofBe CC.BXCNT_RXCNT n) = (x CC.BXCNT_RXCNT + 1) % 2 ^ 16)) ∧
    (s.burinAt n 0x20000000 → (idle → x CC.BSTAT_TXF = 0) → isNext (exec (.burinPull n pins) s) (fun t =>
      t.f (ofBe CC.BSTAT_PC n) = pc ∧ t.f (ofBe CC.BSTAT_STATE n) = 3 ∧ t.f (ofBe CC.BSR_W n) = x CC.BSR_W)) ∧
    (s.burinAt n (0x30000000 + mask.toNat + 16 * vv.toNat) → goto (exec (.burinSet n pins) s) (fun t => ∀ i, i < 4 → bitOf (t.bu n).gpio i =
      if bitOf mask.toNat i && s.slotFn n i == 4 then bitOf vv.toNat i else bitOf (s.bu n).gpio i)) ∧
    (s.burinAt n (0x38000000 + j.toNat % 4 + 4 * b2n lv) → (high ↔ lv = true) → goto (exec (.burinWaitp n pins) s) (fun _ => True)) ∧
    (s.burinAt n (0x38000000 + j.toNat % 4 + 4 * b2n lv) → ¬(high ↔ lv = true) → isNext (exec (.burinWaitp n pins) s) (fun t =>
      t.f (ofBe CC.BSTAT_PC n) = pc ∧ t.f (ofBe CC.BSTAT_STATE n) = if s.shiftStalled n then 3 else 2)) ∧
    (s.burinAt n 0x40000000 → goto (exec (.burinWaitt n pins) s) (fun _ => True)) ∧
    (∀ since, s.burinAt n (0x40000000 + v.toNat) → (s.bu n).waitFrom = some since → v.toNat ≤ s.leads n - since →
      goto (exec (.burinWaitt n pins) s) (fun t => (t.bu n).waitFrom = none)) ∧
    (s.burinAt n (0x40000000 + v.toNat) → v ≠ 0 → (s.bu n).waitFrom = none → isNext (exec (.burinWaitt n pins) s) (fun t =>
      t.f (ofBe CC.BSTAT_PC n) = pc ∧ (t.bu n).waitFrom = some (s.leads n))) ∧
    (jmp 0 → goes True (fun _ => True)) ∧
    (jmp 1 → goes (x CC.BCNT_CNT0 ≠ 0) (fun t => t.f (ofBe CC.BCNT_CNT0 n) = x CC.BCNT_CNT0 - 1 ∧ t.f (ofBe CC.BCNT_CNT1 n) = x CC.BCNT_CNT1)) ∧
    (jmp 2 → goes (x CC.BCNT_CNT1 ≠ 0) (fun t => t.f (ofBe CC.BCNT_CNT1 n) = x CC.BCNT_CNT1 - 1 ∧ t.f (ofBe CC.BCNT_CNT0 n) = x CC.BCNT_CNT0)) ∧
    (jmp 3 → goes high (fun _ => True)) ∧ (jmp 4 → goes (¬high) (fun _ => True)) ∧
    (jmp 5 → idle → goes match_ (fun _ => True)) ∧ (jmp 6 → idle → goes (¬match_) (fun _ => True)) ∧
    (jmp 7 → goes (x CC.BSTAT_TXF = 1) (fun _ => True)) ∧ (jmp 8 → goes (x CC.BSTAT_RXF = 0) (fun _ => True)) ∧
    (s.burinAt n (0x50000000 + v.toNat + 65536 * b2n kk) → goto (exec (.burinLdc n pins) s) (fun t =>
      t.f (ofBe CC.BCNT_CNT0 n) = (if kk then x CC.BCNT_CNT0 else v.toNat) ∧ t.f (ofBe CC.BCNT_CNT1 n) = (if kk then v.toNat else x CC.BCNT_CNT1))) ∧
    (b.toNat ≤ 32 → s.burinAt n (0x58000000 + v.toNat + 65536 * b.toNat) → idle → goto (exec (.burinLdi n pins) s) (fun t =>
      t.f (ofBe CC.BSR_W n) = v.toNat ∧ t.f (ofBe CC.BSH_BITS n) = b.toNat)) ∧
    (m.toNat < 4 → s.burinAt n (0x60000000 + m.toNat) → idle → goto (exec (.burinMov n pins) s) (fun t =>
      t.f (ofBe CC.BSR_W n) = (if m = 0 then x CC.BCMP_W else if m = 3 then x CC.BCNT_CNT0 else x CC.BSR_W) ∧
      t.f (ofBe CC.BCMP_W n) = (if m = 1 then x CC.BSR_W else x CC.BCMP_W) ∧
      t.f (ofBe CC.BCNT_CNT0 n) = (if m = 2 then x CC.BSR_W % 2 ^ 16 else x CC.BCNT_CNT0))) ∧
    (s.burinAt n 0x68000000 → goto (exec (.burinIrq n pins) s) (fun t => ∀ th i, th < 192 → i < 16 → th / 24 = n.val / 8 →
      s.rd (ofTh CC.EVSEL th i) % 256 = 0x68 + n.val % 8 → bitOf (t.f (ofTh CC.EVPEND_PEND th)) i = true)) ∧
    (s.burinAt n 0x70000000 → goto (exec (.burinSynco n pins) s) (fun t => ∀ d, d / 2 = n.val / 16 →
      s.on (CC.BSYNC_ARM d) = true → s.f (CC.BSYNC_TRIG d) = 1 → t.syncDue.contains d = true)) ∧
    (s.burinAt n 0x78000000 → goto (exec (.burinClkr n pins) s) (fun t => (t.bu n).clk =
      [⟨s.beNow n, 0, max (x CC.BDIV_D) 0x400, x CC.BDIV_PRE, s.leads n + b2n (!s.leadNow n)⟩])) ∧
    (s.burinAt n 0xF8000000 → isNext (exec (.burinHalt n pins) s) (fun t => t.f (ofBe CC.BSTAT_STATE n) = 0 ∧ t.f (ofBe CC.BSTAT_ERR n) = x CC.BSTAT_ERR ∧
      t.f (ofBe CC.BSTAT_PC n) = (pc + 1) % 32)) ∧
    (s.burinAt n w → burinDecode w = none → exec (.burinNop n pins) s = .next (s.haltBurin n 1)) ∧
    (s.burinLives n = true → x CC.BSTAT_STATE ≠ 0 → (s.bu n).inj = none → (s.bu n).alone = false → s.boundary n = none →
      s.eccIn (bankPlace n (x CC.BSTAT_ACTBANK) pc) 8 2 = true → exec (.burinNop n pins) s = .next (s.haltBurin n 2)) ∧
    (∀ e, e ∈ [1, 2, 3] → ∃ u : State, s.haltBurin n e = (u.fault { unit := 0x40 + n.val, code := e, cls := 2, key := owner }).burinEvent n ∧
      u.f (ofBe CC.BSTAT_STATE n) = 0 ∧ u.f (ofBe CC.BSTAT_ERR n) = e ∧ u.f (ofBe CC.BSH_SCNT n) = 0)

/-- R180, R181, R184–R188, R190–R192, R194, R196, R198 and Tables 6.6, 6.7, 6.9: the control of an engine by its owner, the Keyblock or the debug port
(another master is answered PERM and changes nothing): start, stop, swap, local reset, transmit and receive words, injections; and what its shift
unit, its refills, a stall timeout, a sync edge and a supply do.
In a region that is down an access is answered DOMAIN_OFF (R41); a cluster in Doze it wakes first (R42). -/
def Obligations.BurinControlFollowsItsRegisters : Prop :=
  ∀ (rq : Rq) (n : Fin 64) (sp wp : BitVec 5) (pins : BitVec 8) (v word : Word) (c : Fin 8) (lv : Fin 4) (s : State),
    let x := fun (y : Nat → Nat → FldAt) => s.f (ofBe y n)
    let up := fun (k : Nat) => s.regionDown (k / 2) = false ∧ s.f (SYS.DOZE_STATE k) ≠ 2
    let ok := up (n.val / 8) ∧ s.burinWriteOk rq n = true
    let rows := [Instr.burinStart rq n sp wp, .burinStop rq n sp wp, .burinSwapRequest rq n sp wp, .burinLocalReset rq n sp wp, .burinTxWrite rq n v,
      .burinInject rq n word pins, .burinForcedInject rq n word pins]
    let goto := fun (o : Host.Outcome State Fault Refusal) (p : State → Prop) => isNext o (fun t => t.resp = ⟨0, []⟩ ∧ p t)
    let live := s.burinLives n = true
    let ix := s.f (CC.BSYNC_MASK c)
    let e := s.shiftTurn n (s.leadsBefore n)
    (ok → x CC.BSTAT_STATE = 0 → goto (exec (.burinStart rq n sp wp) s) (fun t => t.f (ofBe CC.BSTAT_STATE n) = 1 ∧
      t.f (ofBe CC.BSTAT_PC n) = sp.toNat ∧ t.f (ofBe CC.BSTAT_ERR n) = 0 ∧ t.f (ofBe CC.BCTL_SWPC n) = wp.toNat)) ∧
    (ok → x CC.BSTAT_STATE ≠ 0 → goto (exec (.burinStart rq n sp wp) s) (fun t => t.f (ofBe CC.BSTAT_STATE n) = x CC.BSTAT_STATE ∧
      t.f (ofBe CC.BSTAT_PC n) = x CC.BSTAT_PC)) ∧
    (ok → x CC.BSTAT_STATE ≠ 0 → goto (exec (.burinStop rq n sp wp) s) (fun t => (t.bu n).stop = true ∧
      t.f (ofBe CC.BSTAT_STATE n) = x CC.BSTAT_STATE)) ∧
    (ok → x CC.BSTAT_STATE ≠ 0 → goto (exec (.burinSwapRequest rq n sp wp) s) (fun t => t.on (ofBe CC.BSTAT_SWPEND n) = true ∧
      t.f (ofBe CC.BSTAT_ACTBANK n) = x CC.BSTAT_ACTBANK)) ∧
    (ok → x CC.BSTAT_STATE = 0 → goto (exec (.burinSwapRequest rq n sp wp) s) (fun t => t.on (ofBe CC.BSTAT_SWPEND n) = false ∧
      t.f (ofBe CC.BSTAT_ACTBANK n) = 1 - x CC.BSTAT_ACTBANK ∧ t.f (ofBe CC.BSTAT_PC n) = wp.toNat)) ∧
    (ok → goto (exec (.burinLocalReset rq n sp wp) s) (fun t => (t.bu n).undriven = true ∧ (t.bu n).inj = none ∧
      (∀ y ∈ [CC.BSR_W, CC.BCMP_W, CC.BCNT_CNT0, CC.BCNT_CNT1, CC.BSH_SCNT, CC.BSH_BITS, CC.BTXD_W, CC.BRXD_W, CC.BSTAT_STATE, CC.BSTAT_TXF,
        CC.BSTAT_RXF, CC.BSTAT_SWPEND, CC.BSTAT_INJPEND, CC.BSTAT_ERR, CC.BSTAT_PC], t.f (ofBe y n) = 0) ∧
      (∀ y ∈ [CC.BDIV_D, CC.BDIV_PRE, CC.BCFG_STO, CC.BOWN_KEY, CC.BXCNT_TXCNT, CC.BXCNT_RXCNT], t.f (ofBe y n) = x y))) ∧
    (up (n.val / 8) → s.burinWriteOk rq n = false → ∀ m ∈ rows, exec m s = .next (s.answer 2)) ∧
    (s.regionDown (n.val / 8 / 2) = true → ∀ m ∈ rows ++ [.burinRxRead rq n], exec m s = .next (s.answer 3)) ∧
    (s.regionDown (n.val / 8 / 2) = false → ∀ m ∈ rows ++ [.burinRxRead rq n], exec m s = exec m (s.wakeCluster (n.val / 8))) ∧
    (live → x CC.BSTAT_SWPEND = 1 → x CC.BSH_SCNT = 0 → (s.bu n).stop = false → (s.bu n).inj = none →
      (∀ i, burinDecode (s.rd (CC.BBANK (n / 8) (n % 8) (x CC.BSTAT_ACTBANK) (x CC.BSTAT_PC))) = some i →
        s.burinReady n i (s.bu n).waitFrom (s.seen (n / 8) pins) = true) →
      isNext (exec (.burinSwap n pins) s) (fun t => t.f (ofBe CC.BSTAT_ACTBANK n) = 1 - x CC.BSTAT_ACTBANK ∧
        t.f (ofBe CC.BSTAT_PC n) = x CC.BCTL_SWPC ∧ t.f (ofBe CC.BSTAT_SWPEND n) = 0)) ∧
    (live → (s.bu n).kind ∈ [1, 2, 3] → (s.bu n).held = false → (s.bu n).want = false → (s.bu n).phase = 0 → (s.bu n).due < s.leads n →
      (s.bu n).early = false → x CC.BCFG_APULL = 0 → x CC.BCFG_APUSH = 0 →
      isNext (exec (.burinShiftEnd n [pins]) s) (fun t => t.f (ofBe CC.BSH_SCNT n) = x CC.BSH_SCNT - 1 ∧
        t.f (ofBe CC.BSH_BITS n) = (if (s.bu n).kind = 2 then min 32 (x CC.BSH_BITS + 1) else x CC.BSH_BITS - 1) ∧
        (∃ y, y < 2 ∧ ((s.bu n).kind = 1 → y = 0) ∧
          (∀ i, (s.bu n).kind ≠ 1 → s.slotOf n 2 = some i →
            y = b2n (bitOf (if s.sampleNow n then s.seen (n / 8) pins else pins).toNat (s.slotPin n i))) ∧
          t.f (ofBe CC.BSR_W n) = if x CC.BCFG_ORD = 1 then x CC.BSR_W / 2 + y * 2 ^ 31 else x CC.BSR_W * 2 % 2 ^ 32 + y) ∧
        ((s.bu n).kind ≠ 2 → (t.bu n).dout = (x CC.BSH_BITS != 0 && bitOf (x CC.BSR_W) (if x CC.BCFG_ORD = 1 then 0 else 31))))) ∧
    (live → s.pullDue n = true → (s.bu n).held = false → (s.bu n).want = false → x CC.BSTAT_TXF = 1 → isNext (exec (.automaticPull n) s) (fun t => t.f (ofBe CC.BSR_W n) = x CC.BTXD_W ∧
      t.f (ofBe CC.BSH_BITS n) = 32 ∧ t.f (ofBe CC.BSTAT_TXF n) = 0 ∧ t.f (ofBe CC.BXCNT_TXCNT n) = (x CC.BXCNT_TXCNT + 1) % 2 ^ 16)) ∧
    (live → (s.bu n).kind ≠ 0 → (s.bu n).held = true → x CC.BSTAT_RXF = 0 → isNext (exec (.automaticPush n) s) (fun t =>
      t.f (ofBe CC.BRXD_W n) = x CC.BSR_W ∧ t.f (ofBe CC.BSTAT_RXF n) = 1 ∧ t.f (ofBe CC.BXCNT_RXCNT n) = (x CC.BXCNT_RXCNT + 1) % 2 ^ 16)) ∧
    (ok → e.f (ofBe CC.BSTAT_TXF n) = 0 → goto (exec (.burinTxWrite rq n v) s) (fun t => t.f (ofBe CC.BTXD_W n) = v.toNat ∧
      t.f (ofBe CC.BSTAT_TXF n) = 1)) ∧
    (ok → e.f (ofBe CC.BSTAT_TXF n) = 1 → goto (exec (.burinTxWrite rq n v) s) (fun t => t.f (ofBe CC.BTXD_W n) = e.f (ofBe CC.BTXD_W n) ∧
      t.f (ofBe CC.BSTAT_TXOVF n) = 1)) ∧
    (up (n.val / 8) → s.burinOwner rq n = true → isNext (exec (.burinRxRead rq n) s) (fun t => t.resp = ⟨0, leBytes 4 (e.f (ofBe CC.BRXD_W n))⟩ ∧
      t.f (ofBe CC.BSTAT_RXF n) = 0 ∧
      t.f (ofBe CC.BSTAT_RXUNF n) = if e.f (ofBe CC.BSTAT_RXF n) = 0 then 1 else e.f (ofBe CC.BSTAT_RXUNF n))) ∧
    (up (n.val / 8) → isKbDbg rq.id.toNat = true → exec (.burinRxRead rq n) s = .next (e.answer 0 (leBytes 4 (e.f (ofBe CC.BRXD_W n))))) ∧
    ((s.bu n).kind = 0 → (s.bu n).held = false → (s.bu n).want = false → (s.bu n).phase = 0 →
      ∀ y ∈ [CC.BSTAT_TXF, CC.BSTAT_RXF, CC.BRXD_W, CC.BTXD_W, CC.BSTAT_RXUNF], e.f (ofBe y n) = x y) ∧
    (∀ l, (s.bu n).stall = some l → live → s.stalled n = true → x CC.BCFG_STO ≠ 0 → l + 16 * x CC.BCFG_STO ≤ s.leads n →
      exec (.burinStallTimeout n) s = .next (s.haltBurin n 3)) ∧
    ((s.bu n).stall = none → exec (.burinStallTimeout n) s = .next s) ∧
    (up c → s.bsyncOk rq c v.toNat = true → goto (exec (.burinSyncArm rq c v) s) (fun t => t.on (CC.BSYNC_ARM c) = true ∧
      (bitsOf v.toNat 8 2 ∈ [0, 3] → t.syncDue.contains c.val = true) ∧ (bitsOf v.toNat 8 2 ∈ [1, 2] → t.syncDue = s.syncDue))) ∧
    (up c → s.bsyncOk rq c v.toNat = false → exec (.burinSyncArm rq c v) s = .next (s.answer 2)) ∧
    (s.regionDown (c.val / 2) = true → exec (.burinSyncArm rq c v) s = .next (s.answer 3)) ∧
    (s.regionDown (c.val / 2) = false → exec (.burinSyncArm rq c v) s = exec (.burinSyncArm rq c v) (s.wakeCluster c)) ∧
    (s.syncDue.contains c.val = true → s.on (CC.BSYNC_ARM c) = true → s.burinLives (8 * c) = true → isNext (exec (.burinSyncAction c) s) (fun t =>
      t.on (CC.BSYNC_ARM c) = false ∧ t.syncDue.contains c.val = false ∧ ∀ k, k < 8 → bitOf ix k = true → s.on (CC.BSYNC_OP c) = false →
        (s.f (ofBe CC.BSTAT_STATE (8 * c + k)) = 0 → t.f (ofBe CC.BSTAT_STATE (8 * c + k)) = 1 ∧
          t.f (ofBe CC.BSTAT_PC (8 * c + k)) = s.f (ofBe CC.BCTL_STARTPC (8 * c + k))) ∧
        (s.f (ofBe CC.BSTAT_STATE (8 * c + k)) ≠ 0 → t.f (CC.BSYNC_LATE c) = 1 ∧
          t.f (ofBe CC.BSTAT_STATE (8 * c + k)) = s.f (ofBe CC.BSTAT_STATE (8 * c + k))))) ∧
    (ok → (s.bu n).inj.isSome = true → goto (exec (.burinInject rq n word pins) s) (fun t => t.f (ofBe CC.BSTAT_INJLOST n) = 1 ∧ t.burin = s.burin) ∧
      goto (exec (.burinForcedInject rq n word pins) s) (fun t => t.f (ofBe CC.BSTAT_INJLOST n) = 1 ∧ t.burin = s.burin)) ∧
    (ok → (s.bu n).inj = none → x CC.BSTAT_STATE ≠ 0 → goto (exec (.burinInject rq n word pins) s) (fun t => (t.bu n).inj = some word ∧
      t.f (ofBe CC.BSTAT_INJPEND n) = 1)) ∧
    (ok → (s.bu n).inj = none → x CC.BSTAT_STATE = 0 → exec (.burinInject rq n word pins) s = .next ((s.injectExec n word pins).answer 0)) ∧
    (ok → (s.bu n).inj = none → ∃ u : State, exec (.burinForcedInject rq n word pins) s = .next ((u.injectExec n word pins).answer 0) ∧
      u.f (ofBe CC.BABSR_W n) = x CC.BSR_W ∧ u.f (ofBe CC.BABSH_SCNT n) = x CC.BSH_SCNT ∧ u.f (ofBe CC.BABSH_BITS n) = x CC.BSH_BITS ∧
      u.f (ofBe CC.BSH_SCNT n) = 0 ∧ (u.bu n).kind = 0 ∧ (u.bu n).seq = (if (s.bu n).seq = 3 then 1 else (s.bu n).seq) ∧ u.pinSync = s.pinSync) ∧
    (∀ w, (s.bu n).inj = some w → live → s.progStalled n = false → exec (.burinInjectedExecute n pins) s = .next (s.injectExec n w pins)) ∧
    (∀ i : BitVec 16, let t := s.injectExec n (0x50000000 + i.setWidth 32) pins
      t.f (ofBe CC.BCNT_CNT0 n) = i.toNat ∧ t.f (ofBe CC.BSTAT_PC n) = x CC.BSTAT_PC ∧ t.f (ofBe CC.BSTAT_INJPEND n) = 0 ∧ (t.bu n).inj = none) ∧
    isNext (exec (.bankSupplyChange c lv) s) (fun t => t.f (CC.BANKCFG_VOK c) = b2n (lv.val != 0) ∧
      t.f (CC.BANKCFG_MISMATCH c) = b2n (lv.val != 1 + s.f (CC.BANKCFG_V33 c)))

/-! ## Ports (chapter 7) -/

/-- R200, R203–R205, R211, R212, R222, R223: the link states. LINK_OK takes a NEGOTIATING port outside its test modes to HOLD with what the mode
resolves; the hold time takes it to UP and LINK_CHANGE is posted; a loss of link takes it back, counts, ends the frame in transmission, empties its
queues and is recorded; the beacon and its loss set and clear PLCA_UP; TSQ0 answers the oldest time-stamp, or 0 when there is none. R207, R209, R210,
R213, R218, R231, R237, Table 7.8: a frame received in UP that no Ruling instance takes passes the checks of the MAC in their order: the first that
fails counts it, a good one waits in the staging buffer while there is room. The frame handed to the MAC leaves with its FCS, over the Bulk credits
of the port queue (R31, R34); a collision backs off, and a late one or the sixteenth drops the frame and is counted. What a port that comes free lets
go of the pairs of R307 goes with it. -/
def Obligations.PortsFollowTheirLinksAndPassFrames : Prop :=
  (
  ∀ (rq : Rq) (p : Fin 16) (speed : Fin 5) (fdx peer drawn : Bool) (cut : Option (List Byte × Bool)) (s : State),
    let st := s.f (PORT.STAT_STATE p)
    let r := s.resolved p speed fdx
    let wait := s.f (PORT.PLCA_NODE_ID p) = 0 ∧ s.plcaOn p = true ∧ s.plcaNode p < s.f (PORT.PLCA_NODE_CNT p)
    let downs := min (s.f (PORT.STAT_LINKDOWNS p) + 1) (2 ^ (PORT.STAT_LINKDOWNS p).w - 1)
    let lost := fun (o : Host.Outcome State Fault Refusal) (fast : Bool) => ∃ u : State,
      let w := (u.kevt 5).postEvent 0x8380 [p, 0]
      o = .next (w.fault { unit := 0x90 + p.val, code := 1, cls := w.linkClass p }).pairsGo ∧ u.f (PORT.STAT_STATE p) = 1 ∧ u.f (PORT.STAT_LINK p) = 0 ∧
      u.f (PORT.STAT_LINKCHG p) = 1 ∧ u.f (PORT.STAT_PLCA_UP p) = 0 ∧ u.f (PORT.STAT_LINKDOWNS p) = downs ∧
      u.f (PORT.STAT_FLFHIT p) = (if fast then 1 else s.f (PORT.STAT_FLFHIT p)) ∧ (u.port p).tx = none ∧
      ∀ c, c < 8 → u.queue (8 * p + c) = []
    (st = 1 → phyTest p (s.rd (PHYA.TEST p)) = false → s.advertises p speed fdx = true →
      isNext (exec (.linkOk p speed fdx ⟨peer, drawn⟩) s) (fun t => t.f (PORT.STAT_STATE p) = 2 ∧ t.f (PORT.STAT_LINKCHG p) = 1 ∧
        t.f (PORT.STAT_SPEED p) = r.1 ∧ t.f (PORT.STAT_FDX p) = b2n r.2 ∧
        t.f (PORT.STAT_MASTER p) = b2n ((if s.on (PORT.CTL_MSPREF p) == peer then drawn else s.on (PORT.CTL_MSPREF p)) && decide (p.val < 8) && r.1 == 2) ∧
        (∀ k, k ≠ p.val → t.port k = s.port k) ∧ { t with regs := s.regs, sealDiff := s.sealDiff, ports := s.ports } = s)) ∧
    (st ≠ 1 ∨ phyTest p (s.rd (PHYA.TEST p)) = true ∨ s.advertises p speed fdx = false → exec (.linkOk p speed fdx ⟨peer, drawn⟩) s = .next s) ∧
    (st = 2 → ∃ u : State, exec (.holdElapsed p) s = .next ((u.kevt 5).postEvent 0x8380 [p, 1]) ∧ u.f (PORT.STAT_STATE p) = 3 ∧
      u.f (PORT.STAT_LINK p) = 1 ∧ u.f (PORT.STAT_LINKCHG p) = 1) ∧
    (st ≠ 2 → exec (.holdElapsed p) s = .next s) ∧
    (st = 3 → (s.port p).chg = false → lost (exec (.lossOfLink ⟨p, none⟩) s) false) ∧
    (∀ b started, s.portUp p = true → s.rulMatch p b = none → exec (.lossOfLink ⟨p, some (b, started)⟩) s = exec (.lossOfLink ⟨p, none⟩)
      (let u := (s.bump (PORT.ERRCNT0_SYMBOL p)).countExt p 4; if started then u.stage p b true else u)) ∧
    (st ≠ 2 → st ≠ 3 → exec (.lossOfLink ⟨p, cut⟩) s = .next s) ∧
    (st = 3 → (s.port p).chg = false → s.fastApplies p = true → lost (exec (.fastLinkFail ⟨p, none⟩) s) true) ∧
    (s.fastApplies p = false → exec (.fastLinkFail ⟨p, cut⟩) s = .next s) ∧
    (8 ≤ p.val → p.val < 12 → s.portMode p = 1 → s.f (PORT.PLCA_NODE_ID p) ≠ 255 → s.portUp p = true →
      (wait → exec (.plcaBeacon p) s = .next s) ∧
      (¬wait → isNext (exec (.plcaBeacon p) s) (fun t => t.f (PORT.STAT_PLCA_UP p) = 1 ∧ t.f (PORT.STAT_STATE p) = 3 ∧ t.plcaNode p = 0 ∧
        t.out = s.out ++ if s.f (PORT.PLCA_NODE_ID p) = 0 then [.beacon p] else []))) ∧
    isNext (exec (.plcaStatusLoss p) s) (fun t => t.f (PORT.STAT_PLCA_UP p) = 0 ∧ t.f (PORT.STAT_STATE p) = st) ∧
    (idListed rq.id.toNat = true → (s.port p).tsq = [] → exec (.tsqRead rq p) s = .next (s.answer 0 (leBytes 4 0))) ∧
    (∀ tag ns sec l, idListed rq.id.toNat = true → (s.port p).tsq = (tag, ns, sec) :: l → isNext (exec (.tsqRead rq p) s) (fun t =>
      t.resp = ⟨0, leBytes 4 (tag + 2 ^ 16 + l.length * 2 ^ 24)⟩ ∧ (t.port p).tsq = l ∧
      (ns < 2 ^ 30 → t.f (PORT.TSQ1_NS p) = ns) ∧ (sec < 2 ^ 32 → t.f (PORT.TSQ2_SEC p) = sec))) ∧
    (idListed rq.id.toNat = false → exec (.tsqRead rq p) s = .next (s.answer 2))) ∧
  (
  ∀ (p : Fin 16) (b : List Byte) (sym started late busy : Bool) (c : Nat) (fr : Frame) (s : State),
    let x := s.port p
    let l := lfsrSteps 32 (s.lfsrNow p)
    let w := s.plcaFrame p false b.length
    let j := s.emit (.jam p)
    let plca := if x.tries = 0 then s.plcaOn p else x.plcaTx
    let fails := fun (fld : FldAt) (k : Nat) => exec (.frameReceive p b sym started) s =
      .next (let u := (w.bump fld).countExt p k; if started then u.stage p (if k = 3 then b.take (s.maxFrm p + 1) else b) true else u)
    let good := b.drop (b.length - 4) = leBytes 4 (crc32 (b.take (b.length - 4)))
    (s.portUp p = false → exec (.frameReceive p b sym started) s = .next s) ∧
    (s.portUp p = true → s.rulMatch p b = none →
      (sym = true → fails (PORT.ERRCNT0_SYMBOL p) 4) ∧
      (sym = false → b.length < 64 → fails (PORT.ERRCNT0_RUNT p) 2) ∧
      (sym = false → 64 ≤ b.length → s.maxFrm p < b.length → fails (PORT.ERRCNT0_OVERSIZE p) 3) ∧
      (sym = false → 64 ≤ b.length → b.length ≤ s.maxFrm p → ¬good → fails (PORT.ERRCNT0_FCS p) 1) ∧
      (sym = false → 64 ≤ b.length → b.length ≤ s.maxFrm p → good → be16 b 12 = 0x8808 → be16 b 14 = 1 →
        exec (.frameReceive p b sym started) s = .next (let u := w.countExt p 5; if started then u.stage p b true else u)) ∧
      (sym = false → 64 ≤ b.length → b.length ≤ s.maxFrm p → good → ¬(be16 b 12 = 0x8808 ∧ be16 b 14 = 1) → x.rx = [] →
        isNext (exec (.frameReceive p b sym started) s) (fun t => ∃ f : Frame, (t.port p).rx = [f] ∧ f.bytes = b.take (b.length - 4) ∧
          f.len = b.length ∧ f.port = p.val ∧ f.bad = false ∧ f.cut = false ∧ f.cells = (b.length + 255) / 256 ∧ t.regs = s.regs))) ∧
    (x.tx = some (c, fr) → c < 8 → s.f (PORT.STAT_STATE p) = 3 → x.chg = false → x.backoff = none → x.rulq = [] → s.stopped = false → s.tclkOff = false →
      fr.txrec = [] → (∀ n, n < 4 → (s.ru n).wait = []) →
      let e := s.ptpEdit p fr (fr.wire p) x.egress
      (s.hasCredits 0xC0 3 0 (entries (e.1.length + 4)) = false → exec (.frameTransmit p) s = .next s) ∧
      (s.hasCredits 0xC0 3 0 (entries (e.1.length + 4)) = true → isNext (exec (.frameTransmit p) s) (fun t => (t.port p).tx = none ∧
        t.out = s.out ++ [.frame p (e.1 ++ if fr.bad then leBytes 4 (crc32 e.1 ^^^ 0xFFFFFFFF) else leBytes 4 (crc32 e.1))] ∧
        t.pool 0xC0 3 0 = ⟨(s.pool 0xC0 3 0).avail, min (s.pool 0xC0 3 0).low ((s.pool 0xC0 3 0).avail - (e.1.length + 35) / 32)⟩))) ∧
    (x.tx = none ∨ s.f (PORT.STAT_STATE p) ≠ 3 ∨ x.backoff ≠ none ∨ s.stopped = true ∨ s.tclkOff = true → exec (.frameTransmit p) s = .next s.pairsGo) ∧
    (x.tx = some (c, fr) → s.on (PORT.STAT_FDX p) = false → s.f (PORT.STAT_STATE p) = 3 → x.plcaTx = false → x.backoff = none →
      (late = true → exec (.collision p late) s = .next (((j.frameOver p).bump (PORT.ERRCNT1_LATECOL p)).countExt p 6).pairsGo) ∧
      (late = false → 15 ≤ x.tries → exec (.collision p late) s = .next (((j.frameOver p).bump (PORT.ERRCNT1_EXCOL p)).countExt p 7).pairsGo) ∧
      (late = false → x.tries < 15 → isNext (exec (.collision p late) s) (fun t => (t.port p).tries = x.tries + 1 ∧
        (t.port p).backoff = some (l % 2 ^ min (x.tries + 1) 10) ∧ (t.port p).delayed = true ∧ (t.port p).tx = x.tx ∧ t.regs = s.regs ∧
        t.out = s.out ++ [.jam p]))) ∧
    (x.tx = none ∨ s.on (PORT.STAT_FDX p) = true ∨ x.plcaTx = true → exec (.collision p late) s = .next s) ∧
    (x.backoff = none → exec (.backoffExpiry ⟨p, busy⟩) s = .next s) ∧
    (x.backoff ≠ none → isNext (exec (.backoffExpiry ⟨p, busy⟩) s) (fun t => (t.port p).tx = x.tx ∧ t.regs = s.regs ∧
      (s.mayStart p plca busy = true → s.rulHolds p = false → (t.port p).backoff = none ∧ (t.port p).egress = s.egressTime p ∧ (t.port p).plcaTx = plca) ∧
      (s.mayStart p plca busy = false ∨ s.rulHolds p = true → (t.port p).backoff = some 0 ∧ (t.port p).delayed = true))))

/-- R229, R232, R241, R242, R244, R249, R252, R261, R312: the oldest staged frame, when the pipeline has the Bulk credits of its length (R31, R34),
passes the guardian and enters the pipeline, and a frame of an isolated branch is blocked; selection takes the head of the highest queue that is
eligible; entries age out; the gates follow the operative bank and the bank changes over at its instant; an idle port's clock may stop. -/
def Obligations.TheSwitchSelectsGatesAndAges : Prop :=
  ∀ (p : Fin 16) (q : Fin 22) (ix : Fin 8192) (nd : Fin 1024) (c : Fin 8) (busy : Bool) (fr : Frame) (rest : List Frame) (s : State),
    let x := s.port p
    let next : State := { s.setPort p { x with rx := rest } with clkStop := s.clkStop.filter (fun y => y != p.val) }.lendFrame 0xC1 0 fr.len
    let goes := x.rx = fr :: rest ∧ s.tclkOff = false ∧ s.hasCredits 0xC1 3 0 (entries fr.len) = true
    let ch := tabGet s.stFrom (0, false) q.val
    let g := next.guardian p fr.at_ fr.len
    let v := s.tblEntry 0 ix
    (x.rx = [] → exec (.switchFrameIngress p) s = .next s) ∧
    (x.rx = fr :: rest → ¬goes → exec (.switchFrameIngress p) s = .next s) ∧
    (goes → s.guardOf p = none → exec (.switchFrameIngress p) s = .next (next.pipeline fr none none).2) ∧
    (goes → g.1 = some none → exec (.switchFrameIngress p) s = .next (g.2.pipeline fr none none).2) ∧
    (∀ k, goes → g.1 = some (some k) → exec (.switchFrameIngress p) s =
      .next (g.2.pipeline { fr with bytes := fr.bytes.take k, bad := true, cut := true } none none).2) ∧
    (∀ n, goes → s.guardOf p = some n → s.f (RUL.STAT_STATE n) ∈ [3, 4] → s.on (SW.GDSTAT_ISO p) = true →
      isNext (exec (.switchFrameIngress p) s) (fun t => t.queues = s.queues ∧ (t.port p).rx = rest ∧
        t.f (SW.GDSTAT_VIOL p) = min (s.f (SW.GDSTAT_VIOL p) + 1) (2 ^ (SW.GDSTAT_VIOL p).w - 1))) ∧
    (∀ n, s.guardOf p = some n → s.on (SW.GDSTAT_ISO p) = true → (s.gdOf p).silent = true → max (s.f (RUL.CS2_INTEG n)) 1 ≤ (s.gdOf p).ok →
      ∃ u : State, exec (.branchReadmit p) s = .next ((u.kevt 6).postEvent 0x8480 [n, p, 0]) ∧ u.on (SW.GDSTAT_ISO p) = false ∧
        u.f (SW.GDSTAT_CONSEC p) = 0) ∧
    (s.guardOf p = none ∨ s.on (SW.GDSTAT_ISO p) = false → exec (.branchReadmit p) s = .next s) ∧
    ((entryV v = true → bitOf v 62 = false → s.f SW.FDBCFG_AGE ≠ 0 → isNext (exec (.fdbAgeOut ix) s) (fun t =>
        t.tblEntry 0 ix = 0 ∧ ∀ tb i, i < 0x10000 → (tb, i) ≠ (0, ix.val) → t.tblEntry tb i = s.tblEntry tb i)) ∧
      (entryV v = false ∨ bitOf v 62 = true ∨ s.f SW.FDBCFG_AGE = 0 → exec (.fdbAgeOut ix) s = .next s)) ∧
    (∀ e, s.nodes[nd.val]? = some e →
      exec (.nodeTableAgeOut nd true) s = .next { s with nodes := listDel s.nodes nd } ∧
      exec (.nodeTableAgeOut nd false) s =
        .next { s with nodes := listSet s.nodes nd { e with dup := Dup.reset, sentEven := Dup.reset, sentOdd := Dup.reset } }) ∧
    (s.portUp p = true → x.tx = none → s.stopped = false → s.on (SW.STCFG_EN p) = false → s.queue (8 * p + c) = fr :: rest →
      (∀ k, k < 8 → ∀ f ∈ (s.queue (8 * p + k)).take 1, f.due = none) → (∀ k, c.val < k → k < 8 → s.queue (8 * p + k) = []) →
      isNext (exec (.transmissionSelection ⟨p, busy⟩) s) (fun t => (t.port p).tx = some (c.val, fr) ∧ t.queue (8 * p + c) = rest ∧ t.regs = s.regs ∧
        (t.port p).egress = s.egressTime p ∧ (t.port p).backoff = if s.mayStart p (s.plcaOn p) busy then none else some 0)) ∧
    (s.portUp p = false ∨ x.tx ≠ none ∨ s.stopped = true → exec (.transmissionSelection ⟨p, busy⟩) s = .next s) ∧
    isNext (exec (.stencilGateChange q) s) (fun t => tabGet t.gates 0xFF q.val = if s.on (SW.STCFG_EN q) then s.stGates q s.now else 0xFF) ∧
    (s.on (SW.STCFG_PEND q) = true → ch.1 ≤ s.now → (ch.2 = false ∨ ∃ k : Int, (ch.1 : Int) ≤ s.stBase q (s.opbank q) + k * s.stCycle q (s.opbank q) ∧
        s.stBase q (s.opbank q) + k * s.stCycle q (s.opbank q) ≤ (s.now : Int)) → isNext (exec (.stencilChangeOver q) s) (fun t =>
      t.opbank q = 1 - s.opbank q ∧ t.on (SW.STCFG_PEND q) = false)) ∧
    (s.on (SW.STCFG_PEND q) = false → exec (.stencilChangeOver q) s = .next s) ∧
    ((s.port q).rx = [] → (s.port q).tx = none → (∀ k, k < 8 → s.queue (8 * q + k) = []) → isNext (exec (.pipelineClockStop q) s) (fun t =>
      t.clkStop.contains q.val = true ∧ { t with clkStop := s.clkStop } = s)) ∧
    ((s.port q).rx ≠ [] → exec (.pipelineClockStop q) s = .next s)

/-- R253, R255–R260, R262 and Tables 8.14, 8.15: the descriptor rings, replay entries and tables of the switch. A ring's indices obey its owner, the
Keyblock and the debug port; an owner's write of the index that the hardware moves is refused with PERM, and such a write of the Keyblock changes
nothing; a stale post is absorbed with OK; a release by a context holds the free index until its checkpoint; a fetched descriptor is consumed, once
the ring's region has the Bulk credits of its frame (R31, R34); a delivered frame advances the ring; a table entry takes the words written, within its
layout, and answers them. -/
def Obligations.RingsAndTablesTakeTheirIndicesAndWords : Prop :=
  ∀ (rq : Rq) (n : Fin 4) (r : Fin 16) (v : BitVec 10) (key : BitVec 8) (tb : BitVec 3) (i : BitVec 13) (d0 d1 d2 d3 : Word) (k : Bool) (p : Fin 6)
    (c : Nat) (fr : Frame) (s : State),
    let ok := s.ringOk rq n r = true
    let size := ringSize (s.f (SW.RCFG_SZ n r))
    let stale := s.staleAt (s.rplValid 0) (fun k => s.f (SW.RPL_LAST_COS k)) rq.key rq.cos.toNat = true
    let goto := fun (o : Host.Outcome State Fault Refusal) (p : State → Prop) => isNext o (fun t => t.resp = ⟨0, []⟩ ∧ p t)
    let kd := isKbDbg rq.id.toNat = true
    let tx := s.on (SW.RCFG_DIR n r) = false
    let t := tb.toNat
    let word := d0.toNat + d1.toNat * 2 ^ 32 + d2.toNat * 2 ^ 64 + d3.toNat * 2 ^ 96
    let plain := s.on OBS.ACTCTL_DMODE = false ∨ rq.id ≠ 8
    let x := s.select (16 + p)
    let tat := s.f (SW.RBASE_RBASE n r) * 32 + s.f (SW.RCI_RCI n r) * 32
    let td := s.plateRead rqHw tat 32
    let room := s.hasCredits (0x3C + n) 3 0 (entries (descLen td.2.1)) = true
    let y := hkRing k r
    let at_ := s.f y.base * 32 + s.f y.idx * 32
    let d := s.plateRead rqHw at_ 32
    (¬ok → exec (.ringPost rq n r v) s = .next (s.answer 2) ∧ exec (.ringRelease rq n r v) s = .next (s.answer 2)) ∧
    (ok → rq.id ≠ 8 → rq.id ≠ 0x50 → (¬tx → exec (.ringPost rq n r v) s = .next (s.answer 2)) ∧ (tx → exec (.ringRelease rq n r v) s = .next (s.answer 2))) ∧
    (rq.id = 8 → (¬tx → exec (.ringPost rq n r v) s = .next (s.answer 0)) ∧ (tx → exec (.ringRelease rq n r v) s = .next (s.answer 0))) ∧
    (ok → tx → stale → goto (exec (.ringPost rq n r v) s) (fun t => t.f (SW.RPI_RPI n r) = s.f (SW.RPI_RPI n r) ∧
      t.f SW.ABSCNT_ABSORBED = min (s.f SW.ABSCNT_ABSORBED + 1) (2 ^ SW.ABSCNT_ABSORBED.w - 1))) ∧
    (ok → tx → ¬stale → goto (exec (.ringPost rq n r v) s) (fun t => t.f (SW.RPI_RPI n r) = v.toNat % size ∧
      ∀ a, rq.key = some a → t.f (SW.RPL_LAST_COS a.toNat) = rq.cos.toNat ∧ t.rplValid 0 a.toNat = true)) ∧
    (ok → ¬tx → goto (exec (.ringRelease rq n r v) s) (fun t => t.f (SW.RCI_RCI n r) = v.toNat % size ∧
      (∀ a, rq.key = some a → t.f (SW.RFI_RFI n r) = s.f (SW.RFI_RFI n r) ∧ tabGet t.ringRel 256 (n.val * 16 + r.val) = a.toNat) ∧
      (rq.key = none → t.f (SW.RFI_RFI n r) = v.toNat % size))) ∧
    (s.on (SW.RCFG_EN n r) = true → tx → s.f (SW.RCI_RCI n r) ≠ s.f (SW.RPI_RPI n r) → (inPlate tat 32 = true → td.1 = 0 → room) → isNext (exec (.txDescriptorFetch n r) s) (fun t =>
      t.f (SW.RCI_RCI n r) = (s.f (SW.RCI_RCI n r) + 1) % size)) ∧
    (tx → inPlate tat 32 = true → td.1 = 0 → ¬room → exec (.txDescriptorFetch n r) s = .next s) ∧
    (s.on (SW.RCFG_EN n r) = false ∨ s.f (SW.RCI_RCI n r) = s.f (SW.RPI_RPI n r) → exec (.txDescriptorFetch n r) s = .next s) ∧
    (x.1 = none → exec (.rxRingDelivery p) s = .next x.2) ∧
    (x.1 = some (c, fr) → fr.bad = true → exec (.rxRingDelivery p) s = .next ((x.2.freeCells (8 * (16 + p) + c) fr.cells).countSw (16 + p) 3)) ∧
    (∀ u, x.1 = some (c, fr) → fr.bad = false → fr.txrec = [] → fr.rest = none → x.2.deliverRx p c fr (fr.wire (16 + p)) = some u → ∃ w : State,
      exec (.rxRingDelivery p) s = .next (w.freeCells (8 * (16 + p) + c) fr.cells) ∧ w.regs = u.regs ∧ w.mem = u.mem) ∧
    (∀ b, s.on (SW.RCFG_EN n r) = true → ¬tx → s.ringFor n c fr = r.val → (s.f (SW.RPI_RPI n r) + 1) % size ≠ s.f (SW.RFI_RFI n r) →
      s.hasCredits (0x3C + n) 3 1 ((b.length + 35) / 32) = true → ((s.lendFrame (0x3C + n) 1 (b.length + 4)).putRx fr b (s.f (SW.RBASE_RBASE n r) * 32 + s.f (SW.RPI_RPI n r) * 32) (s.f (SW.RBUF_RBUF n r) * 256 +
        s.f (SW.RPI_RPI n r) * bufSize (s.f (SW.RCFG_BUFLOG2 n r))) (bufSize (s.f (SW.RCFG_BUFLOG2 n r)))).1 = true →
      ∃ u : State, s.deliverRx n c fr b = some (u.fireFor (fun th => th / 48 == n.val) (0x70 + r.val)) ∧
        u.f (SW.RPI_RPI n r) = (s.f (SW.RPI_RPI n r) + 1) % size) ∧
    (kd → goto (exec (.swCtxopClear rq key) s) (fun t => t.f (SW.RPL_LAST_COS key.toNat) = 0 ∧ t.rplValid 0 key.toNat = false ∧
      ∀ u j, u * 256 + j ≠ key.toNat → t.rplValid u j = s.rplValid u j)) ∧
    (kd → goto (exec (.swCtxopRevert rq key) s) (fun t => tabGet s.ringRel 256 (n.val * 16 + r.val) = key.toNat →
      t.f (SW.RCI_RCI n r) = s.f (SW.RFI_RFI n r) ∧ tabHas t.ringRel (n.val * 16 + r.val) = false)) ∧
    (¬kd → ∀ m ∈ [Instr.swCtxopClear rq key, .swCtxopRevert rq key, .tableWrite rq tb i d0 d1 d2 d3, .tableRead rq tb i], exec m s = .next (s.answer 2)) ∧
    (k = true → 4 ≤ r.val → exec (.hkRingPoll k r) s = .next s) ∧
    ((k = true → r.val < 4) → s.on y.en = false ∨ s.on y.dir = true → exec (.hkRingPoll k r) s = .next s) ∧
    ((k = true → r.val < 4) → s.on y.en = true → s.on y.dir = false → inPlate at_ 32 = true → d.1 = 0 → bitOf (leNat (sub d.2.1 4 4)) 22 = true →
      ∃ (u : State) (m : Nat), m + 1 = ringSize (s.f y.sz) ∧
        exec (.hkRingPoll k r) s = .next ((u.setF y.idx ((s.f y.idx + 1) % ringSize (u.f y.sz))).hkPoll k r m)) ∧
    (kd → t < 5 → i.toNat < tblRoom t → plain → goto (exec (.tableWrite rq tb i d0 d1 d2 d3) s) (fun u => u.tblEntry t i.toNat = word &&& tblMask t ∧
      ∀ a j, j < 0x10000 → (a, j) ≠ (t, i.toNat) → u.tblEntry a j = s.tblEntry a j)) ∧
    (kd → t ≤ 5 → tblRoom t ≤ i.toNat → goto (exec (.tableWrite rq tb i d0 d1 d2 d3) s) (fun u => u.tbl = s.tbl ∧ u.on SW.TBLSEL_ERR = true)) ∧
    (kd → t ≤ 5 → i.toNat < tblRoom t → plain → isNext (exec (.tableRead rq tb i) s) (fun u => u.tbl = s.tbl ∧
      u.resp = ⟨0, (List.range 4).flatMap (fun w => leBytes 4 (bitsOf (s.tblRead t i.toNat) (32 * w) 32))⟩))

/-! ## Network time (chapter 9) -/

/-- R263, R265, R267–R273, R289: the time unit. A read latches its identity's seconds and fraction; a state written is entered, with the KEVT bit and
the event of a change; a step in FREE without a running instance sets the time and clears the phase left, any other is refused with STEPREJ; FREQ is
clamped to 500 ppm; PHASE sets what is to be slewed; a correlation copies the counters and the time at one instant. All but the read answer PERM to a
master that is not the servo owner, the Keyblock or the debug port. R283–R286: the time pins. A capture of a pin in MODE 1 enters its queue of four,
or counts OVF when it is full, and its event fires; a read of the queue takes the oldest entry, or answers 0xFFFFFFFF; arming sets the trigger unless
a single pulse is already late; an edge drives the pin, and ends a single pulse; PPS_OUT pulses when it is enabled. -/
def Obligations.TimeIsServedAndItsPinsAct : Prop :=
  (
  ∀ (rq : Rq) (code : BitVec 3) (sec : BitVec 48) (ns v : Word) (st : Fin 4) (s : State),
    let ok := s.servoOk rq = true
    let x := toSigned 32 v.toNat
    let y := s.setFs [(TMU.SETSECL_SEC, sec.toNat % 2 ^ 32), (TMU.SETSECH_SEC, sec.toNat / 2 ^ 32), (TMU.SETNS_NS, ns.toNat)]
    let good := s.f TMU.STAT_STATE = 0 ∧ s.anyRuns = false ∧ ns.toNat ≤ 999999999
    let corr := fun (t : State) => t.f TMU.CORRNS_NS = s.nowNs % 2 ^ 32 ∧ t.f TMU.CORRSEC_SEC = s.nowSec % 2 ^ 32 ∧ t.f TMU.CORRFRAC_FRAC = s.nowFrac % 2 ^ 16 ∧
      (∀ k, k < 8 → t.f (TMU.MBCNT_CNT k) = s.mbCount k) ∧ t.time = s.time
    isNext (exec (.timeRead rq) s) (fun t => t.resp = ⟨0, leBytes 4 s.nowNs⟩ ∧ t.timeLatch rq.id.toNat = (s.nowSec, s.nowFrac) ∧
      ∀ j, j ≠ rq.id.toNat → t.timeLatch j = s.timeLatch j) ∧
    (ok → 1 ≤ code.toNat → code.toNat ≤ 4 → exec (.setState rq code) s = .next ((s.setTimeState (code.toNat - 1)).answer 0)) ∧
    (ok → code.toNat = 0 ∨ 4 < code.toNat → exec (.setState rq code) s = .next (s.answer 0)) ∧
    (∃ u : State, s.setTimeState st = (if s.f TMU.STAT_STATE = st.val then u else (u.kevt 8).postEvent 0x8580 [st]) ∧
      u.f TMU.STAT_STATE = st.val ∧ (u.on TMU.STAT_INBOUND = true ↔ st.val = 2 ∧ s.time.lastPhase ≤ s.f TMU.SYNCBND_BOUND)) ∧
    (ok → good → ∃ u : State, exec (.timeStep rq sec ns) s = .next ((((u.rejudge.stepTrigs s.now).correlate).epStep s.now).answer 0) ∧
      u.time = { s.time with sec := sec.toNat, sub := ns.toNat * 2 ^ 48, rem := 0 } ∧ u.stepNo = s.stepNo + 1 ∧ u.f TMU.STAT_SLEWING = 0 ∧
      u.f TMU.STAT_STEPS = min (s.f TMU.STAT_STEPS + 1) (2 ^ TMU.STAT_STEPS.w - 1)) ∧
    (ok → ¬good → exec (.timeStep rq sec ns) s = .next ((y.setF TMU.STAT_STEPREJ 1).answer 0)) ∧
    (ok → isNext (exec (.freqWrite rq v) s) (fun t => t.resp = ⟨0, []⟩ ∧
      toSigned 32 (t.f TMU.FREQ_FREQ) = max (-(500 * 65536)) (min (500 * 65536) x) ∧ t.updAt = s.ticks ∧ t.time = s.time)) ∧
    (ok → isNext (exec (.phaseWrite rq v) s) (fun t => t.resp = ⟨0, []⟩ ∧ t.updAt = s.ticks ∧ t.time = { s.time with rem := x * 2 ^ 48, lastPhase := x.natAbs } ∧
      (t.f TMU.STAT_SLEWING = 0 ↔ x = 0))) ∧
    (ok → s.mbEdge = true → isNext (exec (.correlationRequest rq) s) (fun t => t.resp = ⟨0, []⟩ ∧ corr t)) ∧
    (ok → s.mbEdge = false → exec (.correlationRequest rq) s = .next ({ s with corrDue := true }.answer 0)) ∧
    (s.f TMU.MBCCFG_PER ≠ 0 → s.mbEdge = true → isNext (exec .periodicCorrelation s) corr) ∧
    (s.f TMU.MBCCFG_PER ≠ 0 → s.mbEdge = false → exec .periodicCorrelation s = .next { s with corrDue := true }) ∧
    (s.f TMU.MBCCFG_PER = 0 → exec .periodicCorrelation s = .next s) ∧
    (s.f TMU.STAT_STATE = 2 → s.f TMU.SRVCFG_UPD_TO ≠ 0 → s.updAt + s.f TMU.SRVCFG_UPD_TO * 500000 ≤ s.ticks → s.servoWaits = false →
      exec .updateTimeout s = .next ((s.setF TMU.STAT_UPDTO 1).setTimeState 3)) ∧
    (s.f TMU.STAT_STATE ≠ 2 ∨ s.f TMU.SRVCFG_UPD_TO = 0 ∨ s.ticks < s.updAt + s.f TMU.SRVCFG_UPD_TO * 500000 ∨ s.servoWaits = true → exec .updateTimeout s = .next s) ∧
    (s.time.rem = 0 → isNext (exec .slewEnd s) (fun t => t.f TMU.STAT_SLEWING = 0 ∧ t.f TMU.STAT_STATE = s.f TMU.STAT_STATE)) ∧
    (s.time.rem ≠ 0 → exec .slewEnd s = .next s) ∧
    (¬ok → ∀ m ∈ [Instr.setState rq code, .timeStep rq sec ns, .freqWrite rq v, .phaseWrite rq v, .correlationRequest rq], exec m s = .next (s.answer 2))) ∧
  (
  ∀ (rq : Rq) (i : Fin 5) (j : Fin 4) (rising mode3 start : Bool) (tr : Trig) (s : State),
    let q := tabGet s.time.cap [] i.val
    let hit := s.f (TMU.TIOCFG_EDGE i) = 2 ∨ (s.f (TMU.TIOCFG_EDGE i) = 1 ∧ rising = false) ∨ (s.f (TMU.TIOCFG_EDGE i) ∉ [1, 2] ∧ rising = true)
    let m := if mode3 then 3 else 2
    let t0 := s.fullTime (s.f (TMU.STARTNS_NS j)) (s.f (TMU.STARTSEC_SEC j))
    let per := trigPeriod (s.f (TMU.PERIOD_NS j))
    let pol := s.f (TMU.TIOCFG_POL j)
    let pps := s.f TMU.PPSOUT_POL
    (s.tioMode i = 1 → hit → s.tclkOff = false → ∃ u : State, exec (.tioCapture i rising) s = .next (let w := u.fireBoth (0x42 + i.val)
        if w.tioAsk.contains i.val then w.postEvent 0x8581 [i, w.nowNs, w.nowSec] else w) ∧
      (q.length < 4 → tabGet u.time.cap [] i.val = q ++ [(s.nowNs, s.nowSec % 2 ^ 32)] ∧ u.f (TMU.TIOCFG_LEFT i) = min (q.length + 1) 3) ∧
      (4 ≤ q.length → u.time = s.time ∧ u.f (TMU.TIOCFG_OVF i) = min (s.f (TMU.TIOCFG_OVF i) + 1) (2 ^ (TMU.TIOCFG_OVF i).w - 1))) ∧
    (s.tioMode i ≠ 1 ∨ ¬hit ∨ s.tclkOff = true → exec (.tioCapture i rising) s = .next s) ∧
    (idListed rq.id.toNat = true → q = [] → exec (.captureQueueRead rq i) s = .next (s.answer 0 (leBytes 4 0xFFFFFFFF))) ∧
    (∀ ns sec l, idListed rq.id.toNat = true → q = (ns, sec) :: l → sec < 2 ^ 32 → isNext (exec (.captureQueueRead rq i) s) (fun t =>
      t.resp = ⟨0, leBytes 4 ns⟩ ∧ tabGet t.time.cap [] i.val = l ∧ t.f (TMU.CAPSEC_SEC i) = sec ∧ t.f (TMU.TIOCFG_LEFT i) = min l.length 3)) ∧
    (idListed rq.id.toNat = false → exec (.captureQueueRead rq i) s = .next (s.answer 2)) ∧
    (isKbDbg rq.id.toNat = true → isNext (exec (.triggerArm rq j mode3) s) (fun t => t.resp = ⟨0, []⟩ ∧ t.f (TMU.TIOCFG_MODE j) = m ∧
      (mode3 = false → t0 < s.now → t.f (TMU.TIOCFG_LATE j) = 1 ∧ tabHas t.trig j.val = false) ∧
      (mode3 = true ∨ s.now ≤ t0 → tabGet t.trig tr j.val = ⟨m, t0, per, trigWidth m per (s.f (TMU.WIDTH_NS j)), false⟩))) ∧
    (isKbDbg rq.id.toNat = false → exec (.triggerArm rq j mode3) s = .next (s.answer 2)) ∧
    (s.trig.find? (fun e => e.1 == j.val) = some (j.val, tr) → s.stopped = false → s.tclkOff = false → isNext (exec (.triggerEdge j start) s) (fun t =>
      t.out = s.out ++ [.pin (tioName j) (if start then 1 - pol else pol)] ∧ t.regs = s.regs ∧
      (start = false → tr.mode = 2 → tabHas t.trig j.val = false) ∧
      (start = true ∨ tr.mode ≠ 2 → tabGet t.trig tr j.val = { tr with active := start }))) ∧
    (s.trig.find? (fun e => e.1 == j.val) = none ∨ s.tclkOff = true → exec (.triggerEdge j start) s = .next s) ∧
    exec (.ppsOutPulse false) s = .next (s.emit (.pin "PPS_OUT" pps)) ∧
    (s.on TMU.PPSOUT_EN = true → (s.on TMU.PPSOUT_SYNCONLY = true → s.on TMU.STAT_INBOUND = true) → s.stopped = false → s.tclkOff = false →
      exec (.ppsOutPulse true) s = .next (s.emit (.pin "PPS_OUT" (1 - pps)))) ∧
    (s.on TMU.PPSOUT_EN = false ∨ s.tclkOff = true → exec (.ppsOutPulse true) s = .next s))

/-! ## Ruling (chapter 10) -/

/-- R291, R294–R297, R299, R303–R305, R307, R313–R318: a Ruling instance. RUN starts it, with CFGERR when a check fails; a cycle start closes the
cycle, takes what waits for the boundary and moves the state; the master of a ring launches the pair of every frame, counts what has not returned at
the deadline and repeats it at the repair point; a member passes a copy on with its claim and working counter; a node whose listen timer expires
claims; a mark fires what waits for it. -/
def Obligations.RulingInstancesRunTheirCycle : Prop :=
  ∀ (rq : Rq) (n : Fin 4) (c : Fin 2) (k : Fin 4) (p : Fin 16) (m : Fin 16) (b : List Byte) (s : State),
    let x := s.ru n
    let st := s.f (RUL.STAT_STATE n)
    let me := s.f (RUL.NODE_NODEID n)
    let cyc := s.f (RUL.CYCNT_N n)
    let key := c.val * 4 + k.val
    let fl := c.val * 128 + k.val
    let out := s.chOut n c
    let ret := s.chRet n c
    let sends := fun (t : State) (j : Nat) (y : List Byte) (good : Bool) => (t.port j).tx = some (8, rulingFrame y good)
    let pair := fun (t : State) (flag : Nat) (area : List Byte) =>
      sends t out (s.rulFrame n 1 flag cyc me area) true ∧ sends t ret (s.rulFrame n 1 (flag + 64) cyc me area) true
    let up := s.portUp out = true ∧ s.portUp ret = true ∧ (s.port out).tx = none ∧ (s.port ret).tx = none ∧ out ≠ ret
    let w := (((s.plcaFrame p false b.length).countExt p 0).lendFrame 0xC1 0 (b.length - 4 + 4)).ringLoops n c
    let lost := fun (rep : Nat) => ([0, 1].filter (fun d => !tabHas x.back (key * 4 + rep * 2 + d))).length
    let k0 := if tabHas x.launched key then lost 0 else 0
    let k1 := if x.repaired.contains key then lost 1 else 0
    let y := b.take (b.length - 4)
    let q := if p.val = out then ret else out
    let head := patch (patch y 24 (beBytes 2 (rfClaim y + 1))) 26 (beBytes 2 (be16 y 26 + 1))
    let closed := ((s.rulClose n).rulTakeDirect n).rulBoundary n
    (isKbDbg rq.id.toNat = true → isNext (exec (.runSet rq n true) s) (fun t => t.resp = ⟨0, []⟩ ∧
      t.on (RUL.CTL_RUN n) = true ∧ (s.rulChecks n = false → t.on (RUL.STAT_CFGERR n) = true) ∧ t.f (RUL.STAT_STATE n) = st ∧
      (t.ru n).ok = s.rulChecks n ∧ (st = 0 → s.on (RUL.CTL_RUN n) = false → (t.ru n).runAt = s.now))) ∧
    (isKbDbg rq.id.toNat = true → isNext (exec (.runSet rq n false) s) (fun t => t.resp = ⟨0, []⟩ ∧ t.on (RUL.CTL_RUN n) = false ∧
      t.f (RUL.STAT_STATE n) = st)) ∧
    (isKbDbg rq.id.toNat = false → exec (.runSet rq n true) s = .next (s.answer 2) ∧ exec (.runSet rq n false) s = .next (s.answer 2)) ∧
    isNext (exec (.cycleStart n) s) (fun t => t.f (RUL.CYCNT_N n) = t.ttNumber n t.now ∧
      t = (((closed.rulAdvance n).refreshSilent n true).rulWatch n).setF (RUL.CYCNT_N n) (t.f (RUL.CYCNT_N n))) ∧
    (s.on (RUL.CTL_RUN n) = false ∨ x.ok = false → st ≠ 0 → s.rulAdvance n = s.setRul n 0 (s.f (RUL.STAT_MASTER n))) ∧
    (s.on (RUL.CTL_RUN n) = true → st = 0 → x.ok = true → x.runAt + 1000 ≤ s.now →
      s.rulAdvance n = if s.topo n = 0 ∧ s.on (RUL.CTL_ROLE n) = true then s.setRul n 3 me else s.rulListen n) ∧
    (s.on (RUL.CTL_RUN n) = true → x.ok = true → st = 2 → x.claimAt + s.ttCycle n ≤ s.now → s.rulAdvance n = s.setRul n 3 me) ∧
    (s.chOn n c = true → k.val ≤ s.f (RUL.CTL_NFRAME n) → st = 3 → s.topo n = 0 → up → isNext (exec (.rulingFrameLaunch n c k) s) (fun t =>
      ∃ area : List Byte, area.length = s.rulArea n k ∧ pair t fl area ∧ t.out = s.out ∧ tabHas (t.ru n).launched key = true)) ∧
    (s.chOn n c = true → k.val ≤ s.f (RUL.CTL_NFRAME n) → st = 3 → s.topo n = 0 → s.pairFree n c = false →
      isNext (exec (.rulingFrameLaunch n c k) s) (fun t => (c.val, k.val, 0) ∈ (t.ru n).wait ∧ t.ports = s.ports)) ∧
    (s.chOn n c = false ∨ s.f (RUL.CTL_NFRAME n) < k.val ∨ st ∉ [3, 4] →
      isNext (exec (.rulingFrameLaunch n c k) s) (fun t => t.out = s.out ∧ t.ports = s.ports)) ∧
    (s.rulMatch p b = none → exec (.rulingFrameReceive p b) s = exec (.frameReceive p b false false) s) ∧
    (s.portUp p = true → s.rulMatch p b = some (n.val, c.val) → s.topo n = 0 → 64 ≤ b.length → rfVer y = 1 → 1 ≤ rfType y → rfType y ≤ 4 → st = 0 → up →
      isNext (exec (.rulingFrameReceive p b) s) (fun t => sends t q y (fcsGood b) ∧ t.out = s.out ∧
        t.f (RUL.CNTA_BADFCS n) = min (s.f (RUL.CNTA_BADFCS n) + b2n (!fcsGood b)) (2 ^ (RUL.CNTA_BADFCS n).w - 1))) ∧
    (s.portUp p = true → s.rulMatch p b = some (n.val, c.val) → s.topo n = 0 → 64 ≤ b.length → rfVer y = 1 → rfType y = 1 → st = 4 → fcsGood b = true → up →
      s.f (RUL.STAT_MASTER n) = rfSender y % 1024 → s.on (RUL.STAT_SILENT n) = false → s.on (RUL.CTL_FSIL n) = false → rfLoop y = false →
      rfCycle y = cyc → x.claims = [] → x.used = [] → rfDir y = 0 ∨ s.pending = [] → ∃ u : State, exec (.rulingFrameReceive p b) s =
          .next (let w := u.storeWindows n (u.windows n c (rfK y) 0 (rfArea y).length) (rfArea y)
            { w with rulDone := tabPut w.rulDone (n * 8 + (c * 4 + rfK y)) 3 }) ∧
        sends u q (patch head 30 (s.putWindows n (s.windowBytes n c (rfK y) (rfArea y).length) (rfArea y))) true ∧ u.out = s.out) ∧
    (s.portUp p = true → s.rulMatch p b = some (n.val, c.val) → s.topo n = 0 → 64 ≤ b.length → rfVer y = 1 → rfType y = 1 → st = 3 → fcsGood b = true → rfCycle y ≠ cyc →
      (rfLoop y = false → exec (.rulingFrameReceive p b) s = .next (w.bump (RUL.CNTB_CYCMISM n))) ∧
      (rfLoop y = true → isNext (exec (.rulingFrameReceive p b) s) (fun t => c.val ∈ (t.ru n).loopSeen ∧ c.val ∈ (t.ru n).looped ∧
        t.f (RUL.CNTB_CYCMISM n) = min (s.f (RUL.CNTB_CYCMISM n) + 1) (2 ^ (RUL.CNTB_CYCMISM n).w - 1)))) ∧
    (x.judged.contains key = true → exec (.returnDeadline n c k) s = .next s) ∧
    (x.judged.contains key = false → isNext (exec (.returnDeadline n c k) s) (fun t =>
      t.f (RUL.CNTA_LOST n) = min (s.f (RUL.CNTA_LOST n) + (k0 + k1)) (2 ^ (RUL.CNTA_LOST n).w - 1) ∧ (t.ru n).judged = key :: x.judged ∧
      (if tabHas s.rulDone (n * 8 + key) then t.rulDone = s.rulDone else tabGet t.rulDone 0 (n * 8 + key) = 1))) ∧
    (∀ at_ area, s.on (RUL.CTL_REPAIR n) = true → s.f (RUL.RPT_RPT n k) ≠ 0 → st = 3 → s.topo n = 0 → tabGet s.rulDone 0 (n * 8 + key) ≠ 2 →
      x.repaired.contains key = false → x.wait.contains (c.val, k.val, 1) = false → x.launched.find? (fun e => e.1 == key) = some (key, at_, area) → up →
      isNext (exec (.repairPoint n c k) s) (fun t => pair t (fl + 16) area ∧ t.out = s.out ∧ (t.ru n).repaired.contains key = true ∧
        t.f (RUL.CNTA_REPAIRS n) = min (s.f (RUL.CNTA_REPAIRS n) + 1) (2 ^ (RUL.CNTA_REPAIRS n).w - 1))) ∧
    (s.on (RUL.CTL_REPAIR n) = false ∨ s.f (RUL.RPT_RPT n k) = 0 ∨ x.repaired.contains key = true → exec (.repairPoint n c k) s = .next s) ∧
    (st = 1 → s.on (RUL.CTL_CSTART n) = true → s.topo n ≠ 0 → ∃ u : State, exec (.listenTimerExpiry n) s =
        .next ((u.setRul n 2 (s.f (RUL.STAT_MASTER n))).setRu n { x with claimAt := s.now }) ∧ u.regs = s.regs ∧
      ∀ d, d < 2 → s.chOn n d = true → ∀ j ∈ s.chPorts n d, s.portUp j = true → (s.port j).tx = none →
        let f := s.rulFrame n 4 (d * 128) cyc me (List.replicate 30 0)
        sends u j f true ∨ rulingFrame f true ∈ (u.port j).rulq) ∧
    (st ≠ 1 ∨ s.on (RUL.CTL_CSTART n) = false ∨ s.topo n = 0 → exec (.listenTimerExpiry n) s = .next s) ∧
    (s.ttMarks n = true → s.on (RUL.MARK_EN n m) = true → s.markOffset n m < s.ttCycle n → exec (.cycleMark n m) s =
      .next (((((s.fireBoth (1 + (16 * n + m))).markSyncs (16 * n + m)).markImages n m).lpTrigger (1 + (16 * n + m))).coreMarks n m)) ∧
    (s.ttMarks n = false ∨ s.on (RUL.MARK_EN n m) = false ∨ s.ttCycle n ≤ s.markOffset n m → exec (.cycleMark n m) s = .next s)

/-! ## Process images and leases (chapter 11) -/

/-- R320–R326, R328, R330–R332, R344 and Tables 11.1, 11.2: process images. Enabling a well-placed image starts it with buffer 0 published and buffer
1 to write; disabling ends its leases; the writer's READY in the right cycle is taken and a late one is counted; a write of a buffer is the writer's
alone and only into its write buffer; a lease holds the published buffer until its holder releases it; a fill copies the published buffer or writes
zeros. -/
def Obligations.ImagesPublishAndLeasesHold : Prop :=
  ∀ (rq : Rq) (ix : Fin 256) (cfg : Word) (cyc : BitVec 16) (holder : BitVec 9) (addr : Word) (data : List Byte) (len : Nat) (s : State),
    let kd := isKbDbg rq.id.toNat = true
    let on := s.on (PLT.IMGCFG_EN ix) = true
    let h := holderOf rq
    let kept := s.leases.filter (fun l => !(l.img == ix.val && l.holder == h))
    let hit := s.enabledImages.filter (fun i => s.inBuffers i addr.toNat data.length)
    let pbuf := s.f (PLT.IMGSTAT_PBUF ix)
    let ready := s.on (PLT.IMGSTAT_READY ix) = true
    let late := s.lateWr ix
    let mine := kd ∨ s.isWriter ix rq = true
    let soft := on ∧ s.f (PLT.IMGCFG_WRK ix) ∈ [0, 3]
    let timely := s.on (PLT.IMGCFG_PUB ix) = true ∨ ∃ m, s.nextMarkCycle ix = some m ∧ cyc.toNat = m % 2 ^ 16
    let w := s.imgBuf ix (s.imgW ix)
    let lent := s.lendBanks addr.toNat data.length true
    (kd → ¬on → s.placementOk ix (cfg.toNat ||| 1) = true → isNext (exec (.imageEnable rq ix cfg) s) (fun t => t.resp = ⟨0, []⟩ ∧
      t.on (PLT.IMGCFG_EN ix) = true ∧ t.f (PLT.IMGSTAT_PBUF ix) = 0 ∧ t.f (PLT.IMGSTAT_WBUF ix) = 1 ∧ t.f (PLT.IMGSTAT_READY ix) = 0 ∧
      t.f (PLT.IMGSTAT_GEN ix) = 0 ∧ (t.img ix).gen = 0 ∧ ∀ l ∈ t.leases, l.img ≠ ix.val)) ∧
    (kd → on ∨ s.placementOk ix (cfg.toNat ||| 1) = false → exec (.imageEnable rq ix cfg) s = .next (s.answer 2)) ∧
    (kd → on → isNext (exec (.imageDisable rq ix) s) (fun t => t.resp = ⟨0, []⟩ ∧ t.on (PLT.IMGCFG_EN ix) = false ∧
      t.leases = s.leases.filter (fun l => !(l.img == ix.val)))) ∧
    (¬kd → exec (.imageEnable rq ix cfg) s = .next (s.answer 2) ∧ exec (.imageDisable rq ix) s = .next (s.answer 2) ∧
      exec (.imgctxopRelease rq holder) s = .next (s.answer 2)) ∧
    (¬mine → exec (.imageReadyWrite rq ix cyc) s = .next (s.answer 2)) ∧
    (mine → soft → timely → ¬ready → exec (.imageReadyWrite rq ix cyc) s = .next ((s.setReady ix).answer 0)) ∧
    (mine → soft → timely → ready → exec (.imageReadyWrite rq ix cyc) s = .next (s.answer 0)) ∧
    (mine → soft → ¬timely → exec (.imageReadyWrite rq ix cyc) s = .next (late.answer 0)) ∧
    (s.on (PLT.IMGCFG_PUB ix) = false → (s.setReady ix).on (PLT.IMGSTAT_READY ix) = true ∧ ((s.setReady ix).img ix).readyAt = s.now) ∧
    (on → ¬ready → s.hwReady ix = true → exec (.hardwareReady ix) s = .next (s.setReady ix)) ∧
    (¬on ∨ ready ∨ s.hwReady ix = false → exec (.hardwareReady ix) s = .next s) ∧
    (on → (s.img ix).gen ≠ 0 → kept.length < 504 → isNext (exec (.leaseTake rq ix) s) (fun t =>
      t.resp = ⟨0, leBytes 4 (pbuf + 4 + (s.img ix).gen % 2 ^ 16 * 2 ^ 16)⟩ ∧ t.leases = kept ++ [⟨ix.val, h, pbuf, rq.id.toNat⟩] ∧ t.mem = s.mem)) ∧
    (on → (s.img ix).gen ≠ 0 → 504 ≤ kept.length → isNext (exec (.leaseTake rq ix) s) (fun t => t.resp = ⟨0, leBytes 4 16⟩ ∧ t.leases = kept)) ∧
    (¬on ∨ (s.img ix).gen = 0 → exec (.leaseTake rq ix) s = .next (s.answer 0 (leBytes 4 8))) ∧
    isNext (exec (.leaseRelease rq ix) s) (fun t => t.resp = ⟨0, []⟩ ∧ t.leases = kept ∧ t.mem = s.mem) ∧
    (kd → isNext (exec (.imgctxopRelease rq holder) s) (fun t => t.resp = ⟨0, []⟩ ∧
      t.leases = s.leases.filter (fun l => !(l.holder == holder.toNat)) ∧ t.mem = s.mem)) ∧
    (inPlate addr.toNat data.length = false → exec (.imageBufferWrite rq addr data) s = .next (s.answer 1)) ∧
    (inPlate addr.toNat data.length = true → hit = [] → exec (.imageBufferWrite rq addr data) s =
      .next (let r := lent.rawWrite rq addr.toNat data; r.2.answer r.1)) ∧
    (inPlate addr.toNat data.length = true → hit = [ix.val] → s.isWriter ix rq = true → s.inW ix addr.toNat data.length = true →
      exec (.imageBufferWrite rq addr data) s = .next (let r := (lent.fillDone ix).rawWrite rq addr.toNat data; r.2.answer r.1)) ∧
    (inPlate addr.toNat data.length = true → hit = [ix.val] → s.isWriter ix rq = true → s.inW ix addr.toNat data.length = false →
      exec (.imageBufferWrite rq addr data) s = .next (((lent.bump (PLT.IMGCNT_LATEWR ix)).countG 36).answer 2)) ∧
    (inPlate addr.toNat data.length = true → hit = [ix.val] → s.isWriter ix rq = false →
      exec (.imageBufferWrite rq addr data) s = .next (lent.answer 2)) ∧
    (inPlate addr.toNat len = true → exec (.imageBufferRead rq addr len) s = .next (let r := (s.lendBanks addr.toNat len false).plateRead rq addr.toNat len; r.2.2.answer r.1 r.2.1)) ∧
    (inPlate addr.toNat len = false → exec (.imageBufferRead rq addr len) s = .next (s.answer 1 (List.replicate len 0))) ∧
    (s.on (PLT.IMGSTAT_FILL ix) = true → s.f (PLT.IMGCFG_INIT ix) = 2 → exec (.imageFillComplete ix) s =
      .next ((s.setF (PLT.IMGSTAT_FILL ix) 0).rawWrite rqHw w (List.replicate (s.imgSize ix) 0)).2) ∧
    (s.on (PLT.IMGSTAT_FILL ix) = true → s.f (PLT.IMGCFG_INIT ix) = 1 → exec (.imageFillComplete ix) s =
      .next (let r := (s.setF (PLT.IMGSTAT_FILL ix) 0).plateRead rqHw (s.imgBuf ix pbuf) (s.imgSize ix); (r.2.2.rawWrite rqHw w r.2.1).2)) ∧
    (s.on (PLT.IMGSTAT_FILL ix) = false → exec (.imageFillComplete ix) s = .next s)

/-! ## Plate, the sealed bank, the life cycle (chapter 16) -/

/-- R433, R435–R437, R439, R441–R445, R447, R449, R496 and Tables 16.2, 16.3: Plate without an image in the way, its banks usable and free of errors,
takes the bytes written, and no other byte of memory changes, and answers them; the rotate alias is Plate at the slot's rotation, and a read over a
32-byte boundary of it is two accesses (R440); a bank is retired
and tested by the Keyblock or the debug port; the sealed bank is the secure Keyblock's in the states of Table 16.2, and a wipe zeroes it; a tamper
starts one; a memory clear leaves every memory zero; a life-cycle request is taken only from the ROM with the confirmation and ends in its target
state when the fuses hold. -/
def Obligations.PlateStoresSealsAndWipes : Prop :=
  ∀ (rq : Rq) (addr : Word) (data : List Byte) (len : Nat) (b : Fin 98) (bk : BitVec 7) (ok : Bool) (ix : Fin 2) (target : BitVec 3) (confirm : BitVec 16)
    (keepEn : Bool) (keep : BitVec 12) (s : State),
    let a := addr.toNat
    let at_ := fun (x : Nat) => tabGet s.mem 0 x
    let clean := s.enabledImages = [] ∧ s.ecc = [] ∧ ∀ k, k < 98 → s.f (PLT.BANKSTAT_STATE k) = 0
    let wrote := fun (t : State) (x : Nat) => t.resp = ⟨0, []⟩ ∧ t.regs = s.regs ∧
      ∀ y, tabGet t.mem 0 y = if x ≤ y ∧ y < x + data.length then data.getD (y - x) 0 else at_ y
    let kd := isKbDbg rq.id.toNat = true
    let skb := rq.id = 8 ∧ rq.sec = true
    let slot := plateLo + (a - 0x12000000) + tabGet s.rot 0 (holderOf rq)
    let rej := (s.setF PLT.BANKOP_REJ 1).answer 0
    let lc := s.f PLT.LCSTAT_STATE
    let en := if ix.val = 0 then s.on WAKE.TAMPCFG_EN0 else s.on WAKE.TAMPCFG_EN1
    let sealing := decide (0x11800000 ≤ a) && decide (a + data.length ≤ 0x11880000)
    let kept := fun (x : Nat) => keepEn = true ∧ keep.toNat * 0x100000 ≤ x ∧ x < keep.toNat * 0x100000 + 0x100000
    (clean → inPlate a data.length = true → isNext (exec (.plateAccess rq true addr len data) s) (fun t => wrote t a)) ∧
    (clean → inPlate a len = true → isNext (exec (.plateAccess rq false addr len []) s) (fun t =>
      t.resp = ⟨0, (List.range len).map (fun k => at_ (a + k))⟩ ∧ { t with resp := s.resp, credits := s.credits } = s ∧
        t.credits = (s.lendBanks a len false).credits)) ∧
    (inPlate a len = false → exec (.plateAccess rq false addr len []) s = .next (s.answer 1 (List.replicate len 0))) ∧
    (clean → 0x12000000 ≤ a → a + data.length ≤ 0x13800000 → inPlate slot data.length = true →
      isNext (exec (.rotateAliasAccess rq true addr len data) s) (fun t => wrote t slot)) ∧
    (0x12000000 ≤ a → a + len ≤ 0x13800000 → inPlate slot len = true → 32 < slot % 32 + len → len ≤ 32 →
      let n := 32 - slot % 32
      let r := s.plateAccess rq false slot n []
      let w := r.2.2.plateAccess rq false (slot + n) (len - n) []
      exec (.rotateAliasAccess rq false addr len []) s = .next (w.2.2.answer (if r.1 = 0 then w.1 else r.1) (r.2.1 ++ w.2.1))) ∧
    (0x12000000 ≤ a → a + len ≤ 0x13800000 → slot % 32 + len ≤ 32 → exec (.rotateAliasAccess rq false addr len []) s =
      .next (let r := s.plateAccess rq false slot len []; r.2.2.answer r.1 r.2.1)) ∧
    (s.f PLT.CFG_SCRUB = 0 ∨ s.ecc = [] → exec (.scrub b) s = .next s) ∧
    (∀ w, s.f PLT.CFG_SCRUB ≠ 0 → s.ecc = [(w, 1)] → plateLo ≤ w * 8 → w * 8 < plateHi → bankOf (w * 8) = b.val → isNext (exec (.scrub b) s) (fun t =>
      t.ecc = [] ∧ t.mem = s.mem ∧ t.f (PLT.BANKSTAT_CE b) = min (s.f (PLT.BANKSTAT_CE b) + 1) (2 ^ (PLT.BANKSTAT_CE b).w - 1))) ∧
    (kd → exec (.bankRetire rq bk) s = .next (if 95 < bk.toNat then rej else (s.retire bk.toNat).answer 0)) ∧
    (kd → bk.toNat ≤ 95 → s.f (PLT.BANKSTAT_STATE bk.toNat) = 1 → s.on PLT.BANKOP_BUSY = false → (∀ i ∈ s.enabledImages, s.bankHolds bk.toNat i = false) →
      isNext (exec (.bankTest rq bk) s) (fun t => t.resp = ⟨0, []⟩ ∧ t.f (PLT.BANKSTAT_STATE bk.toNat) = 2 ∧ t.on PLT.BANKOP_BUSY = true)) ∧
    (kd → 95 < bk.toNat ∨ s.f (PLT.BANKSTAT_STATE bk.toNat) ≠ 1 ∨ s.on PLT.BANKOP_BUSY = true → exec (.bankTest rq bk) s = .next rej) ∧
    (¬kd → exec (.bankRetire rq bk) s = .next (s.answer 2) ∧ exec (.bankTest rq bk) s = .next (s.answer 2)) ∧
    (b.val < 96 → s.f (PLT.BANKSTAT_STATE b) = 2 → (∀ k, k < b.val → s.f (PLT.BANKSTAT_STATE k) ≠ 2) → ∃ (u : State) (cls : Nat), (cls = 0 ∨ cls = 2) ∧
      exec (.bankTestDone ok) s = .next (if ok then u else u.fault { unit := 0x100 + b.val, code := 3, cls := cls }) ∧
      u.on PLT.BANKOP_BUSY = false ∧ u.f (PLT.BANKSTAT_STATE b) = (if ok then 0 else 1) ∧
      ∀ y, tabGet u.mem 0 y = if inPlate y 1 = true ∧ bankOf y = b.val then 0 else at_ y) ∧
    ((∀ k, k < 96 → s.f (PLT.BANKSTAT_STATE k) ≠ 2) → exec (.bankTestDone ok) s = .next s) ∧
    (clean → sealing = true → skb → lc ≤ 2 → s.on PLT.SBSTAT_WIPING = false → isNext (exec (.sealedBankAccess rq true addr len data) s) (fun t => wrote t a)) ∧
    (sealing = true → ¬(skb ∧ lc ≤ 2 ∧ s.on PLT.SBSTAT_WIPING = false) → isNext (exec (.sealedBankAccess rq true addr len data) s) (fun t =>
      t.resp.code = 2 ∧ { t with resp := s.resp, credits := s.credits } = s)) ∧
    (skb → exec (.sealedWipeRequest rq) s = .next ((s.wipe 4).answer 0)) ∧
    (¬skb → exec (.sealedWipeRequest rq) s = .next (s.answer 2)) ∧
    (∀ c, c < 8 → ∃ u : State, s.wipe c = (u.fault { unit := 0x160, code := 4, cls := 0, detail := c }).kevt 13 ∧ u.on PLT.SBSTAT_WIPING = true ∧
      u.f PLT.SBSTAT_CAUSE = c) ∧
    (s.on PLT.SBSTAT_WIPING = true → isNext (exec .wipeComplete s) (fun t => t.on PLT.SBSTAT_WIPING = false ∧
      ∀ y, tabGet t.mem 0 y = if isSealed y then 0 else at_ y)) ∧
    (s.on PLT.SBSTAT_WIPING = false → exec .wipeComplete s = .next s) ∧
    (en = false → exec (.tamperQualified ix) s = .next s) ∧
    (en = true → s.powerOff = true → isNext (exec (.tamperQualified ix) s) (fun t => t.mem = s.mem ∧
      t.on (if ix.val = 0 then WAKE.TAMPSTAT_HIT0 else WAKE.TAMPSTAT_HIT1) = true)) ∧
    (en = true → s.powerOff = false → ∃ u : State, exec (.tamperQualified ix) s =
        .next (let w := u.fault { unit := 0xB7, code := 1 + ix.val, cls := 0 }
          if w.f SYS.PWRSTAT_STATE = 4 then { w.kevt 13 with holdWipe := true } else w.wipe (1 + ix.val)) ∧
      u.on PLT.SBSTAT_TAMPER = true ∧ u.on (if ix.val = 0 then WAKE.TAMPSTAT_HIT0 else WAKE.TAMPSTAT_HIT1) = true) ∧
    isNext (exec .memoryClear s) (fun t => t.mem = [] ∧ t.ecc = [] ∧ t.on PLT.CLRSTAT_DONE = false ∧ t.hostMem = s.hostMem) ∧
    isNext (exec .memoryClearDone s) (fun t => t.mem = [] ∧ t.ecc = [] ∧ t.on PLT.CLRSTAT_DONE = true) ∧
    (kd → isNext (exec (.plateClear rq keepEn keep) s) (fun t => t.resp = ⟨0, []⟩ ∧ t.on SYS.PCLR_BUSY = true ∧
      ∀ y, tabGet t.mem 0 y = if plateLo ≤ y ∧ y < plateHi ∧ ¬kept y then 0 else at_ y)) ∧
    (¬kd → exec (.plateClear rq keepEn keep) s = .next (s.answer 2)) ∧
    isNext (exec .plateClearDone s) (fun t => t.on SYS.PCLR_BUSY = false ∧ t.mem = s.mem) ∧
    (s.lcAccepts rq target.toNat confirm.toNat = true → exec (.lifecycleRequest rq target confirm) s =
      .next (({ (s.setF PLT.LCSTAT_BUSY 1).wipe 3 with lcTarget := some target.toNat } : State).answer 0)) ∧
    (s.lcAccepts rq target.toNat confirm.toNat = true ↔ skb ∧ rq.rom = true ∧ confirm = 0x4C43 ∧ s.on PLT.LCSTAT_BUSY = false ∧
      ((lc ≤ 2 ∧ target.toNat = lc + 1) ∨ (lc ≠ 4 ∧ target = 4))) ∧
    (s.lcAccepts rq target.toNat confirm.toNat = false → exec (.lifecycleRequest rq target confirm) s =
      .next ((s.setF PLT.LCSTAT_REJ 1).answer (if skb then 0 else 2))) ∧
    (∀ x, s.lcTarget = some x → x < 8 → s.on PLT.SBSTAT_WIPING = false → isNext (exec (.fuseProgrammingDone ok) s) (fun t => t.lcTarget = none ∧
      t.on PLT.LCSTAT_BUSY = false ∧ t.f PLT.LCSTAT_STATE = (if ok then x else lc) ∧ (ok = false → t.on PLT.LCSTAT_PERR = true))) ∧
    (s.lcTarget = none → exec (.fuseProgrammingDone ok) s = .next s)

/-! ## The loop engine (chapter 12) -/

/-- R339–R344, R348, R351, R362: triggers, batches and steps. A trigger waits only while EN is 1, a local timer's at its times (R340); a batch takes
the triggers of the oldest edge and meets every enabled slot of their codes: DCNT above 0 counts down, a slot that is pending counts an overrun, any
other but one in fault joins its lane. A lane without credits for the whole step stalls (R34, R343). A lane's next step of a slot without generators,
captures and repetitive controller computes the law of R348 from the published input, writes the state record back and issues its output; a read that
fails or a NaN abandons it, an uncorrectable record stops the slot. An output's answer finishes the slot's step, and any code but OK counts and is
recorded. -/
def Obligations.LoopTriggersBatchesAndSteps : Prop :=
  ∀ (rq : Rq) (j : Fin 16) (l : Fin 4) (e : LpEntry) (rest : List LpEntry) (a : State) (s : State),
    let kd := isKbDbg rq.id.toNat
    let due := fun (c : Nat) => ({ s with lpDue := s.lpDue ++ [(s.ticks, s.nowNs, s.nowSec % 2 ^ 32, c)] } : State)
    let p := fun (w : Nat) => e.par.getD w 0
    let sl := e.slot
    let u0 := (((a.setLane l rest).sample 4 l (a.now - e.batch)).lpFixes 0 (16 * sl) 16).lpFixes 2 (8 * sl) 8
    let u := if bitOf (p 0) 1 then u0.lpFixes 3 (16 * bitsOf (p 0) 11 5) 16 else u0
    let y := u.lpRead (bitsOf (p 1) 0 8) (bitsOf (p 1) 8 16) (fmtSize (bitsOf (p 0) 6 2))
    let ends := fun (w : State) => (w.unreserve 0xA2).lpBatchEnd e.trig
    let runs := s.lane l = e :: rest ∧ s.reserve 0xA2 = some a ∧ a.lpMay e = true
    let plain := s.ecc = [] ∧ bitOf (p 0) 1 = false ∧ bitOf (p 0) 10 = false ∧ y.2.tsg = [] ∧ y.2.cap = []
    (kd = true → exec (.softwareTrigger rq) s = .next ((if s.on LPE.CTL_EN then due 0x60 else s).answer 0)) ∧
    (kd = false → exec (.softwareTrigger rq) s = .next (s.answer 2)) ∧
    (exec (.loopTimerFire j) s = .next (if s.on (LPE.TMRCTL_EN j) = true ∧ s.tmrDue j = true ∧ s.on LPE.CTL_EN = true then due (0x50 + j) else s)) ∧
    (s.lpDue = [] → exec .loopBatch s = .next s) ∧
    (∀ t ns sec c d, s.lpDue = (t, ns, sec, c) :: d → s.actDue = false →
      let codes := (s.lpDue.filter (fun x => x.1 == t)).map (fun x => x.2.2.2)
      isNext (exec .loopBatch s) (fun w => w.lpDue = s.lpDue.filter (fun x => x.1 != t) ∧ w.lpTrig = s.lpTrig + 1 ∧
        { w with lpBatches := s.lpBatches } = (s.lpEnabled.filter (fun k => codes.contains (s.lpTrigOf k))).foldl (fun v k => v.lpMeet (s.lpTrig + 1) ns sec k)
          { s with lpDue := w.lpDue, lpTrig := w.lpTrig })) ∧
    (∀ trig ns sec k, k < 512 →
      let w := s.lpMeet trig ns sec k
      let m := bitsOf (s.lpPar k 0) 4 2
      let dcnt := bitsOf (s.lpSt k 5) 8 8
      let pend := [0, 1, 2, 3].any (fun i => (s.lane i).any (fun x => x.slot == k))
      (dcnt ≠ 0 → bitsOf (w.lpSt k 5) 8 8 = dcnt - 1 ∧ ∀ i, w.lane i = s.lane i) ∧
      (dcnt = 0 → bitsOf (w.lpSt k 5) 8 8 = bitsOf (s.lpPar k 0) 24 8 ∧ (∀ i, i ≠ m → w.lane i = s.lane i) ∧
        if bitOf (s.lpSt k 5) 5 then w.lane m = s.lane m ∧ w.lpSt k 7 = s.lpSt k 7
        else if pend then bitsOf (w.lpSt k 7) 0 8 = min (bitsOf (s.lpSt k 7) 0 8 + 1) 255 ∧ w.lane m = s.lane m
        else (w.lane m).length = (s.lane m).length + 1 ∧ (w.lane m).getLast?.map (fun x => (x.slot, x.trig)) = some (k, trig))) ∧
    (s.lane l = [] ∨ s.reserve 0xA2 = none → exec (.loopStep l) s = .next s) ∧
    (s.lane l = e :: rest → s.reserve 0xA2 = some a → a.lpMay e = false → exec (.loopStep l) s = .next s) ∧
    (runs → plain → ∀ yw, y.1 = some yw →
      let v := lpLaw p (y.2.lpSt sl) yw (p 2) 0 0 0 (0, false)
      (v.nan = true → exec (.loopStep l) s = .next (ends (y.2.lpAbandon e l true []))) ∧
      (v.nan = false → ∃ w : State, exec (.loopStep l) s = .next (w.lpBatchEnd e.trig) ∧
        w.lpSt sl 0 = v.i % 2 ^ 32 ∧ w.lpSt sl 1 = v.d % 2 ^ 32 ∧ w.lpSt sl 2 = v.edp % 2 ^ 32 ∧ w.lpSt sl 3 = v.u % 2 ^ 32 ∧
        bitOf (w.lpSt sl 5) 1 = false ∧ bitOf (w.lpSt sl 5) 2 = v.sat ∧ bitOf (w.lpSt sl 5) 3 = v.rate ∧
        tabGet w.lpOut [] l.val = tabGet y.2.lpOut [] l.val ++
          [⟨sl, bitsOf (p 3) 0 8, bitsOf (p 3) 8 16, leBytes (fmtSize (bitsOf (p 0) 8 2)) v.out⟩])) ∧
    (runs → plain → y.1 = none → exec (.loopStep l) s = .next (ends (y.2.lpAbandon e l false []))) ∧
    (s.cap = [] → sl < 512 → ∀ n w, w < 5 → (s.lpAbandon e l n []).lpSt sl w = s.lpSt sl w ∧ (s.lpAbandon e l n []).lpOut = s.lpOut) ∧
    (runs → ∀ w, w < 16 → u.lpBad 0 (16 * sl + w) = true → exec (.loopStep l) s = .next (ends ((u.lpSctl sl 5 1 1).lpFault 1 sl))) ∧
    (tabGet s.lpOut [] l.val = [] → exec (.loopOutputResponse l) s = .next s) ∧
    (∀ w t, tabGet s.lpOut [] l.val = w :: t →
      let b := ({ s with lpOut := cellPut s.lpOut [] l.val t } : State).unreserve 0xA2
      let at_ := s.imgBuf w.img (s.imgW w.img) + w.addr
      let r := b.plateAccess rqLoop true (b.imgBuf w.img (b.imgW w.img) + w.addr) 0 w.data
      (s.banksFree at_ w.data.length true = false → exec (.loopOutputResponse l) s = .next s) ∧
      (s.banksFree at_ w.data.length true = true → exec (.loopOutputResponse l) s = .next (if r.1 = 0 then r.2.2.lpFinish w.slot w.img
        else ((r.2.2.lpFinish w.slot w.img).lpCount w.slot l 2).lpFault 2 w.slot)))

/-- R350, R353–R364: records, rings, signals and spaces. PENDSET marks a record or drops its mark, unless an activation is armed; a record taken is
the shadow record, unless it is enabled and fails its check; a cleared ring reads 0; ARM readies a generator or a channel that does not run, EN = 0
stops a generator at once; the indirect window reads and writes the word at INDEX, and INDEX then advances with AINC. All but the Keyblock and the
debug port are answered PERM. R340–R344:
a trigger waits, its batch is made, a step leaves its lane and the oldest output write is answered. -/
def Obligations.LoopRecordsSignalsAndSpaces : Prop :=
  ∀ (rq : Rq) (kind : Bool) (slot : BitVec 9) (g : Fin 16) (c : Fin 4) (v : Word) (s : State),
    let kd := isKbDbg rq.id.toNat
    let r := slot.toNat % 32
    let sl := slot.toNat
    let k := if kind then 0x200 + r else sl
    let l := s.lpMarks.filter (fun x => x != k)
    let new := s.lpW 1 (16 * sl)
    let withRc := bitOf new 1 && s.lpMarks.contains (0x200 + bitsOf new 11 5)
    let m := (s.setMarks (s.lpMarks.filter (fun x => x != sl && !(withRc && x == 0x200 + bitsOf new 11 5)))).epFlag 8
    let good := m.lpCheck sl (fun w => m.lpW 1 (16 * sl + w)) (fun w => if withRc then m.lpW 4 (16 * bitsOf new 11 5 + w) else m.lpRc (bitsOf new 11 5) w)
    let sp := s.f LPE.IWADDR_SPACE
    let i := s.f LPE.IWADDR_INDEX
    let peek := rq.id = 8 ∧ s.on FLT.CTL_PEEK = true
    let o := min (max (s.f (LPE.TSGCFG_ORDER g)) 7) 31
    (kd = true → s.on OBS.ACTSTAT_ARMED = false → exec (.pendsetSet rq kind slot) s = .next ((s.setMarks (l ++ [k])).answer 0) ∧
      exec (.pendsetClear rq kind slot) s = .next ((s.setMarks l).answer 0)) ∧
    (kd = true → s.on OBS.ACTSTAT_ARMED = true → exec (.pendsetSet rq kind slot) s = .next (s.answer 0) ∧
      exec (.pendsetClear rq kind slot) s = .next (s.answer 0)) ∧
    (s.takeDue k = false → exec (.recordTake kind slot) s = .next s) ∧
    (s.takeDue k = true → kind = false → exec (.recordTake kind slot) s = .next (s.takeSlot sl).activationDone) ∧
    (s.takeDue k = true → kind = true → exec (.recordTake kind slot) s = .next ((s.epFlag 8).takeRcAlone r).activationDone) ∧
    (bitOf new 0 = true → good = false → s.takeSlot sl = m.setFs [(LPE.STAT_CFGERR, 1), (LPE.STAT_CFGIDX, sl)]) ∧
    (bitOf new 0 = false ∨ good = true → (∀ w, w < 16 → (s.takeSlot sl).lpPar sl w = s.lpW 1 (16 * sl + w)) ∧ (s.takeSlot sl).lpMarks = m.lpMarks ∧
      (bitOf new 0 = true → bitOf (s.lpPar sl 0) 0 = false → bitOf ((s.takeSlot sl).lpSt sl 5) 1 = true)) ∧
    (s.lpMarks.contains (0x200 + r) = true → ∀ w, w < 16 → (s.takeRc r).lpRc r w = s.lpW 4 (16 * r + w)) ∧
    isNext (exec .rcClearDone s) (fun t => t.lpClr = [] ∧ t.f LPE.STAT_CLEARING = 0 ∧
      ∀ q ∈ s.lpClr, ∀ x, q.2.1 ≤ x → x < q.2.1 + q.2.2 → x < 0x100000 → t.lpW 5 x = 0) ∧
    (kd = true → (s.gen g).run = false → (s.gen g).armed = none → isNext (exec (.tsgArm rq g) s) (fun t => t.resp = ⟨0, []⟩ ∧
      t.gen g = ⟨some s.lpFired, false, 0, 2 ^ o - 1, false, 0, s.f (LPE.TSGP1_V g)⟩ ∧ t.on (LPE.TSGCFG_EN g) = true ∧ t.on (LPE.TSGCFG_ARM g) = true ∧
      t.f (LPE.TSGSTAT_STEPS g) = 0)) ∧
    (kd = true → (s.gen g).run = true → isNext (exec (.tsgArm rq g) s) (fun t => t.resp = ⟨0, []⟩ ∧ t.gen g = s.gen g)) ∧
    (kd = true → isNext (exec (.tsgDisable rq g) s) (fun t => t.resp = ⟨0, []⟩ ∧ t.gen g = TsgSt.reset ∧ t.on (LPE.TSGCFG_EN g) = false ∧
      t.on (LPE.TSGSTAT_RUN g) = false)) ∧
    (kd = true → (s.capSt c).run = false → (s.capSt c).armed = none → isNext (exec (.captureArm rq c) s) (fun t => t.resp = ⟨0, []⟩ ∧
      t.capSt c = ⟨some s.lpFired, false, 0⟩ ∧ t.on (LPE.CAPCFG_ARM c) = true ∧ t.f (LPE.CAPSTAT_COUNT c) = 0)) ∧
    (kd = true → ¬peek → sp ∈ [0, 1, 3, 4, 5] → i < lpWords sp → exec (.iwdataRead rq) s = .next (s.iwNext.answer 0 (leBytes 4 (s.lpW sp i)))) ∧
    (kd = true → ¬peek → lpWords sp ≤ i → exec (.iwdataRead rq) s = .next (s.iwNext.answer 0 (leBytes 4 0))) ∧
    (s.on LPE.IWADDR_AINC = true → s.iwNext.f LPE.IWADDR_INDEX = (i + 1) % 2 ^ 20) ∧ (s.on LPE.IWADDR_AINC = false → s.iwNext = s) ∧
    (kd = true → sp = 5 → i < 262144 → s.poolHeld i = true → exec (.iwdataWrite rq v) s = .next (s.answer 2)) ∧
    (kd = true → sp = 5 → i < 262144 → s.poolHeld i = false → isNext (exec (.iwdataWrite rq v) s) (fun t => t.resp = ⟨0, []⟩ ∧ t.lpW 5 i = v.toNat ∧
      t.f LPE.IWADDR_INDEX = s.iwNext.f LPE.IWADDR_INDEX ∧ ∀ x, x < 262144 → x ≠ i → t.lpW 5 x = s.lpW 5 x)) ∧
    (kd = true → lpWords sp ≤ i → exec (.iwdataWrite rq v) s = .next (s.iwNext.answer 0)) ∧
    (kd = false → exec (.iwdataRead rq) s = .next (s.answer 2 (leBytes 4 0)) ∧ ∀ q ∈ [Instr.iwdataWrite rq v, .pendsetSet rq kind slot,
      .pendsetClear rq kind slot, .tsgArm rq g, .tsgDisable rq g, .captureArm rq c], exec q s = .next (s.answer 2)) ∧
    (s.on LPE.CTL_EN = true → kd = true → isNext (exec (.softwareTrigger rq) s) (fun t => t.resp = ⟨0, []⟩ ∧ t.lpDue.length = s.lpDue.length + 1)) ∧
    (s.on LPE.CTL_EN = true → s.on (LPE.TMRCTL_EN g) = true → s.tmrDue g = true → isNext (exec (.loopTimerFire g) s) (fun t => t.lpDue.length = s.lpDue.length + 1)) ∧
    (s.lpDue ≠ [] → s.actDue = false → isNext (exec .loopBatch s) (fun t => t.lpDue.length < s.lpDue.length ∧ t.lpTrig = s.lpTrig + 1)) ∧
    (∀ y e l, s.lane c = e :: l → s.reserve 0xA2 = some y → y.lpMay e = true → isNext (exec (.loopStep c) s) (fun t => t.lane c = (s.lane c).tail)) ∧
    (∀ w l, tabGet s.lpOut [] c.val = w :: l → s.banksFree (s.imgBuf w.img (s.imgW w.img) + w.addr) w.data.length true = true →
      isNext (exec (.loopOutputResponse c) s) (fun t => tabGet t.lpOut [] c.val = (tabGet s.lpOut [] c.val).tail))

/-! ## The work scheduler (chapter 14) -/

/-- R394–R402: submission, selection and dispatch. SUBMIT follows Table 14.3: a stale one is absorbed with OK, a bad descriptor is refused with PERM,
a target whose region is off with DOMAIN_OFF, a full queue with PERM, and any other is appended with its submitter, order and time of acceptance; the
poll of a host ring does the same with the descriptor at its index, and reads the next entry at once when it has completed one. A decision offers the
served item of the first idle admitted core in rotating order, else pre-empts a victim of lower priority. -/
def Obligations.WorkIsSubmittedSelectedAndOffered : Prop :=
  ∀ (rq : Rq) (f : Fin 2) (n : Nat) (x : Item) (s : State),
    let id := rq.id.toNat
    let d := s.stagedDesc rq
    let stale := s.staleAt (s.rplValid 1) (fun k => s.f (WSC.RPL_LAST_COS k)) rq.key rq.cos.toNat
    let down := fun (b : List Byte) => ∃ r, descRegion b = some r ∧ s.f (SYS.RGCTL_STATE r) ≠ 0
    let full := s.items.length ≥ 32768 ∨ (32768 - s.items.length ≤ s.f WSC.CFG_RSV ∧ id ≠ 8)
    let may := State.submitter id = true ∧ stale = false
    let sz := min (max (s.f (WSC.HSQCFG_SZ f)) 4) 10
    let i := s.f (WSC.HSQIDX_IDX f) % 2 ^ sz
    let a := s.f (WSC.HSQBASE_ADDR f) * 64 + i * 64
    let r := s.hsqRead f a 64
    let h := r.2.1.take 48
    let polls := s.on (WSC.HSQCFG_EN f) = true ∧ s.on (WSC.HSQCFG_ERR f) = false
    let idle := s.coreOrder.filter (fun k => s.admitted k && s.depth k == 0 && (s.offerOf k).isNone)
    let best := idle.findSome? (fun k => (s.choose k).map (fun y => (k, y)))
    let pre := s.items.filter (fun y => s.selectable y && descPre y.desc)
    let urgent := (pre.filter (fun y => y.prio == topPrio pre)).head?
    let offered := fun (level : Nat) (t : State) => t.schedPtr = (n + 1) % 16 ∧
      t.items = s.items.map (fun y => if y.ord = x.ord then { x with st := 1, core := n, level := level } else y)
    (State.submitter id = false → exec (.submit rq) s = .next (s.answer 2)) ∧
    (State.submitter id = true → stale = true → isNext (exec (.submit rq) s) (fun t => t.resp = ⟨0, []⟩ ∧ t.items = s.items ∧
      t.f WSC.CNT_ABSORBED = min (s.f WSC.CNT_ABSORBED + 1) 255)) ∧
    (may → descOk d = false → isNext (exec (.submit rq) s) (fun t => t.resp = ⟨2, []⟩ ∧ t.items = s.items ∧
      t.f WSC.CNT_BADDESC = min (s.f WSC.CNT_BADDESC + 1) 255)) ∧
    (may → descOk d = true → down d → isNext (exec (.submit rq) s) (fun t => t.resp = ⟨3, []⟩ ∧ t.items = s.items)) ∧
    (may → descOk d = true → ¬down d → full → isNext (exec (.submit rq) s) (fun t => t.resp = ⟨2, []⟩ ∧ t.items = s.items ∧
      t.f WSC.CNT_REFUSED = min (s.f WSC.CNT_REFUSED + 1) 255)) ∧
    (may → descOk d = true → ¬down d → ¬full → isNext (exec (.submit rq) s) (fun t => t.resp = ⟨0, []⟩ ∧ t.itemOrd = s.itemOrd + 1 ∧
      t.items = s.items ++ [⟨s.itemOrd, d, id, none, false, s.ticks, s.nowNs, 0, 0, 0, 0, 0, 0, 0, false⟩] ∧
      ∀ k, rq.key = some k → t.rplValid 1 k.toNat = true ∧ t.f (WSC.RPL_LAST_COS k.toNat) = rq.cos.toNat)) ∧
    (¬polls → exec (.hostSubmitPoll f) s = .next s) ∧
    (polls → r.1 ≠ 0 → exec (.hostSubmitPoll f) s = .next (r.2.2.setF (WSC.HSQCFG_ERR f) 1)) ∧
    (polls → r.1 = 0 → leNat (sub r.2.1 48 1) % 2 = 0 → exec (.hostSubmitPoll f) s = .next r.2.2) ∧
    (polls → r.1 = 0 → leNat (sub r.2.1 48 1) % 2 = 1 → r.2.2.itemOrder h false = 0 →
      let t := (s.hsqEntry f).2
      t.items = r.2.2.items ++ [⟨r.2.2.itemOrd, h, 1 + f, none, false, r.2.2.ticks, r.2.2.nowNs, 0, 0, 0, 0, 0, 0, 0, false⟩] ∧
      (t.on (WSC.HSQCFG_ERR f) = false → t.f (WSC.HSQIDX_IDX f) = (i + 1) % 2 ^ sz) ∧ ((s.hsqEntry f).1 = true ↔ t.on (WSC.HSQCFG_ERR f) = false)) ∧
    ((s.hsqEntry f).1 = false → exec (.hostSubmitPoll f) s = .next (s.hsqEntry f).2) ∧
    ((s.hsqEntry f).1 = true → ∃ m, m + 1 = 2 ^ sz ∧ exec (.hostSubmitPoll f) s = .next ((s.hsqEntry f).2.hsqRun f m)) ∧
    (best = some (n, x) → isNext (exec .dispatchDecision s) (offered 0)) ∧
    (best = none → urgent = some x → s.pickVictim x = some n → isNext (exec .dispatchDecision s) (offered (s.depth n))) ∧
    (best = none → urgent = none ∨ (urgent = some x ∧ s.pickVictim x = none) → exec .dispatchDecision s = .next s) ∧
    (s.choose n = some x → x ∈ s.items ∧ s.selectable x = true ∧ x.eligible n = true ∧ ∀ y ∈ s.items, s.selectable y = true → y.eligible n = true →
      y.prio ≤ x.prio ∧ (y.prio = x.prio → descScope y.desc = 0 → descScope x.desc = 0)) ∧
    (s.pickVictim x = some n → n < 16 ∧ s.admitted n = true ∧ x.eligible n = true ∧ s.offerOf n = none ∧ 1 ≤ s.depth n ∧ s.depth n ≤ 3 ∧
      s.f (WSC.CORECFG_PMIN n) ≤ x.prio ∧ ∃ y, s.topItem n = some y ∧ y.prio < x.prio) ∧
    (s.f WSC.CFG_SPILL = 0 → exec .spill s = .next s) ∧
    (s.f WSC.CFG_SPILL ≠ 0 → (∀ y ∈ s.items, ∀ z ∈ s.items, y.ord = z.ord → y = z) → isNext (exec .spill s) (fun t =>
      t.items = s.items.map (fun y => if y.st = 0 ∧ descScope y.desc = 2 ∧ s.f WSC.CFG_SPILL * 500 ≤ s.ticks - y.tick
        then { y with spilled := true } else y)))

/-- R404–R410, Tables 14.6, 14.7: delivery and failure. A core's read of CUR takes its offer under the key of its level, or the key it replays; DONE
ends the item at the top and keeps its COS; a failed core gives its offer back, freezes what it held and is recorded, as Recoverable
unless an image has a core as its writer (R451); COREOP makes the
frozen items wait again, drops them, or admits the core once no key is busy; an interval's end writes the load of each core. -/
def Obligations.WorkIsTakenEndedAndRecovered : Prop :=
  ∀ (rq : Rq) (n : Fin 16) (cause : Fin 3) (key : BitVec 8) (s : State),
    let kd := isKbDbg rq.id.toNat
    let me := rq.id.toNat = 0x30 + n
    let other := appCore rq.id.toNat = none
    let once := ∀ y ∈ s.items, ∀ z ∈ s.items, y.ord = z.ord → y = z
    let holds := s.depth n ≠ 0 ∨ (s.offerOf n).isSome = true
    let broken := fun (k : Nat) => ({ unit := 0x20 + n, code := k, cls := s.coreClass, ident := 0x30 + n, key := (s.topItem n).map (fun y => y.key) } : FaultRec)
    let fails := fun (o : Host.Outcome State Fault Refusal) (k : Nat) => ∃ u : State, o = .next (u.fault (broken k)) ∧ u.f (WSC.CORESTAT_STATE n) = 2 ∧ u.f (WSC.CORESTAT_FCAUSE n) = k ∧
      (once → u.items = s.items.map (fun y => if y.core = n.val ∧ y.st = 1 then { y with st := 0, replay := false, key := 0 }
        else if y.core = n.val ∧ y.st = 2 then { y with st := 3 } else y))
    (me → s.offerOf n = none → exec (.take rq) s = .next (s.answer 0 (leBytes 4 (s.curWord n false)))) ∧
    (∀ x, me → s.offerOf n = some x →
      let k := if x.replay ∧ x.key ≠ 0 then x.key else 192 + 4 * n + x.level
      let c := if x.replay ∧ x.key ≠ 0 then x.cos0 else s.f (WSC.KCOS_COS (k - 192))
      isNext (exec (.take rq) s) (fun t => t.resp = ⟨0, leBytes 4 (t.curWord n true)⟩ ∧
        t.items = s.items.map (fun y => if y.ord = x.ord then { x with st := 2, tdel := s.nowNs, key := k, cos0 := c, cos := c } else y))) ∧
    (other → exec (.take rq) s = .next (s.answer 0 (leBytes 4 0)) ∧ exec (.done rq) s = .next (s.answer (if kd then 0 else 2))) ∧
    (me → s.topItem n = none → exec (.done rq) s = .next ((s.bump (WSC.CORESTAT_DONEIGN n)).answer 0)) ∧
    (∀ x, me → s.topItem n = some x → 192 ≤ x.key → x.key < 256 → isNext (exec (.done rq) s) (fun t => t.resp = ⟨0, []⟩ ∧
      t.items = s.items.filter (fun y => y.ord != x.ord) ∧ t.f (WSC.KCOS_COS (x.key - 192)) = x.cos % 2 ^ 32 ∧
      (t.load0 n).items = (s.load0 n).items + 1)) ∧
    fails (exec (.coreFailure n cause.castSucc) s) (cause + 1) ∧
    (holds → fails (exec (.coreFailure n 3) s) 4) ∧ (¬holds → exec (.coreFailure n 3) s = .next (s.refreshCore n)) ∧
    (s.f (WSC.CORECFG_WDOG n) ≠ 0 → s.depth n ≠ 0 → fails (exec (.coreWatchdogExpiry n) s) 2) ∧
    (s.f (WSC.CORECFG_WDOG n) = 0 ∨ s.depth n = 0 → exec (.coreWatchdogExpiry n) s = .next s) ∧
    (kd = true → once → isNext (exec (.coreopRequeue rq n) s) (fun t => t.resp = ⟨0, []⟩ ∧
      t.items = s.items.map (fun y => if y.core = n.val ∧ y.st = 3 then { y with st := 0, replay := true } else y))) ∧
    (kd = true → once → isNext (exec (.coreopDiscard rq n) s) (fun t => t.resp = ⟨0, []⟩ ∧
      t.items = s.items.filter (fun y => y.core != n.val || y.st != 3))) ∧
    (kd = true → s.f (WSC.CORESTAT_STATE n) ≠ 2 → s.f (WSC.CORESTAT_KEYBUSY n) = 0 → exec (.coreopAdmit rq n) s = .next (s.answer 0)) ∧
    (kd = true → s.f (WSC.CORESTAT_KEYBUSY n) ≠ 0 →
      exec (.coreopAdmit rq n) s = .next ((s.bump (WSC.CORESTAT_OPREJ n)).answer 0)) ∧
    (kd = true → s.f (WSC.CORESTAT_STATE n) = 2 → s.f (WSC.CORESTAT_KEYBUSY n) = 0 → isNext (exec (.coreopAdmit rq n) s) (fun t => t.resp = ⟨0, []⟩ ∧
      t.f (WSC.CORESTAT_STATE n) = (if s.on (WSC.CORECFG_EN n) = false ∨ s.f (SYS.RGCTL_STATE (n / 4)) ≠ 0 then 3 else if s.depth n = 0 then 0 else 1) ∧
      t.items = s.items)) ∧
    (kd = true → isNext (exec (.wscCtxopClear rq key) s) (fun t => t.resp = ⟨0, []⟩ ∧ t.f (WSC.RPL_LAST_COS key.toNat) = 0 ∧
      t.rplValid 1 key.toNat = false ∧ t.items = s.items)) ∧
    (kd = false → ∀ i ∈ [Instr.coreopRequeue rq n, .coreopDiscard rq n, .coreopAdmit rq n, .wscCtxopClear rq key], exec i s = .next (s.answer 2)) ∧
    isNext (exec .loadIntervalEnd s) (fun t =>
      let c := s.load0 n
      let b := c.busy + if s.depth n = 0 then 0 else s.ticks - c.upTo
      t.f (WSC.LOAD_LOAD n) = min (b * 65536 / 5000000) 0xFFFF ∧ t.f (WSC.LOAD_ITEMS n) = min c.items 0xFFFF ∧ t.load0 n = ⟨s.ticks, 0, 0⟩ ∧
      t.items = s.items)

/-! ## Pantograph (chapter 15) -/

/-- R415–R417, R426, R428–R430: a channel of Pantograph. A start by the owner, the Keyblock or the debug port runs the program at PROG with both
pointers 0 and no armed source, unless it is stale (absorbed) or refused (STARTREJ); ABORT of a channel that runs leads to IDLE with CAUSE 2 once
complete, CLR of an error to IDLE with CAUSE 3; an occurrence resumes the channel that waits for it, or waits for it, or is merged; a timeout is error
10; LRST clears the instance but for CHCFG. An error stops the channel with its code and address, is recorded and fires 0x88 + j.
While the region is off or in reset, an access is answered DOMAIN_OFF. -/
def Obligations.ChannelsStartWaitAndStop : Prop :=
  ∀ (rq : Rq) (n : Fin 4) (j : Fin 16) (prog : BitVec 28) (key : BitVec 8) (s : State),
    let kd := isKbDbg rq.id.toNat
    let up := s.regionDown n = false
    let owns := s.chanOwner rq n j = true ∨ kd = true
    let own := up ∧ owns
    let stale := s.staleAt (s.rplValid (2 + n)) (fun k => s.f (DM.RPL_LAST_COS n k)) rq.key rq.cos.toNat
    let st := s.chanSt n j
    let free := s.on (DM.CHCFG_EN n j) = true ∧ st = 0 ∧ fetchRange n (16 * prog.toNat) = true
    let came := fun (code : Nat) (t : State) => ∀ k : Fin 16,
      if (s.pan n k).armed ≠ some code then t.chanSt n k = s.chanSt n k ∧ t.f (DM.CHPC_PC n k) = s.f (DM.CHPC_PC n k)
      else if s.chanSt n k = 2 then t.chanSt n k = 1 ∧ t.f (DM.CHPC_PC n k) = (s.f (DM.CHPC_PC n k) + 1) % 2 ^ 28
      else t.chanSt n k = s.chanSt n k ∧ t.on (DM.CHSTAT_WPEND n k) = true ∧ t.f (DM.CHSTAT_WMRG n k) =
        if s.on (DM.CHSTAT_WPEND n k) then min (s.f (DM.CHSTAT_WMRG n k) + 1) 255 else s.f (DM.CHSTAT_WMRG n k)
    let owner := if s.on (DM.CHCFG_KV n j) then some (s.f (DM.CHCFG_OWNKEY n j)) else none
    let broken := fun (code addr : Nat) =>
      ({ unit := 0x34 + n, code := code, cls := 2, detail := j, addr := addr, ident := s.f (DM.CHCFG_OWNER n j), key := owner } : FaultRec)
    (¬up → ∀ m ∈ [Instr.channelStart rq n j prog, .channelAbort rq n j, .channelClear rq n j, .dmLocalReset rq n, .dmCtxopClear rq n key],
      exec m s = .next (s.answer 3)) ∧
    (up → ¬owns → exec (.channelStart rq n j prog) s = .next (s.answer 2) ∧ exec (.channelAbort rq n j) s = .next (s.answer 2) ∧
      exec (.channelClear rq n j) s = .next (s.answer 2)) ∧
    (own → stale = true → isNext (exec (.channelStart rq n j prog) s) (fun t => t.resp = ⟨0, []⟩ ∧ t.chanSt n j = st ∧
      t.f (DM.ABSCNT_ABSORBED n) = min (s.f (DM.ABSCNT_ABSORBED n) + 1) 0xFFFF)) ∧
    (own → stale = false → ¬free → isNext (exec (.channelStart rq n j prog) s) (fun t => t.resp = ⟨2, []⟩ ∧ t.chanSt n j = st ∧
      t.f (DM.CHSTAT_STARTREJ n j) = min (s.f (DM.CHSTAT_STARTREJ n j) + 1) 255)) ∧
    (own → stale = false → free → isNext (exec (.channelStart rq n j prog) s) (fun t => t.resp = ⟨0, []⟩ ∧ t.chanSt n j = 1 ∧
      t.f (DM.CHPC_PC n j) = prog.toNat ∧ t.f (DM.CHPSRC_A n j) = 0 ∧ t.f (DM.CHPDST_A n j) = 0 ∧ t.on (DM.CHSTAT_WPEND n j) = false ∧
      t.pan n j = { Panto.reset with host := (s.pan n j).host } ∧ bitOf (t.f (DM.STAT_BUSY n)) j = true ∧
      ∀ k, rq.key = some k → t.rplValid (2 + n) k.toNat = true ∧ t.f (DM.RPL_LAST_COS n k.toNat) = rq.cos.toNat)) ∧
    (own → exec (.channelAbort rq n j) s = .next ((if st ∈ [1, 2, 3] then s.setDmChan n j 4 else s).answer 0)) ∧
    (st = 4 → isNext (exec (.abortComplete n j) s) (fun t => t.chanSt n j = 0 ∧ t.f (DM.CHSTAT_CAUSE n j) = 2)) ∧
    (st ≠ 4 → exec (.abortComplete n j) s = .next s) ∧
    (own → st = 5 → isNext (exec (.channelClear rq n j) s) (fun t => t.resp = ⟨0, []⟩ ∧ t.chanSt n j = 0 ∧ t.f (DM.CHSTAT_CAUSE n j) = 3 ∧
      bitOf (t.f (DM.STAT_ERR n)) j = false)) ∧
    (own → st ≠ 5 → exec (.channelClear rq n j) s = .next (s.answer 0)) ∧
    (up → kd = true → isNext (exec (.dmLocalReset rq n) s) (fun t => t.resp = ⟨0, []⟩ ∧ ∀ k : Fin 16, t.chanSt n k = 0 ∧ t.f (DM.CHSTAT_CAUSE n k) = 0 ∧
      t.f (DM.CHSIG_SIGCNT n k) = 0 ∧ t.pan n k = Panto.reset ∧ t.rd (DM.CHCFG n k) = s.rd (DM.CHCFG n k) ∧ t.rplValid (2 + n) key.toNat = false)) ∧
    (up → kd = true → isNext (exec (.dmCtxopClear rq n key) s) (fun t => t.resp = ⟨0, []⟩ ∧ t.f (DM.RPL_LAST_COS n key.toNat) = 0 ∧
      t.rplValid (2 + n) key.toNat = false ∧ t.chanSt n j = st)) ∧
    (up → kd = false → exec (.dmLocalReset rq n) s = .next (s.answer 2) ∧ exec (.dmCtxopClear rq n key) s = .next (s.answer 2)) ∧
    (s.pantoDue.find? (fun e => e.1 == n.val) = none → exec (.waitSourceOccurrence n) s = .next s) ∧
    (∀ code, s.pantoDue.find? (fun e => e.1 == n.val) = some (n.val, code) → isNext (exec (.waitSourceOccurrence n) s) (fun t =>
      t.pantoDue = s.pantoDue.erase (n.val, code) ∧ came code t)) ∧
    (st ≠ 2 ∨ (s.pan n j).tmo = 0 → exec (.waitTimeout n j) s = .next s) ∧
    (∀ code, st = 2 → (s.pan n j).tmo ≠ 0 → (s.pan n j).armed = some code → (n.val, code) ∈ s.pantoDue →
      isNext (exec (.waitTimeout n j) s) (fun t => t.chanSt n j = 1 ∧ came code t)) ∧
    (∀ code, st = 2 → (s.pan n j).tmo ≠ 0 → (s.pan n j).armed = some code → (n.val, code) ∉ s.pantoDue →
      exec (.waitTimeout n j) s = .next (s.chanErr n j 10 (16 * s.f (DM.CHPC_PC n j)) false)) ∧
    (∀ code addr fetch, code < 16 → ∃ u : State, s.chanErr n j code addr fetch = (u.fault (broken code addr)).fireFor (fun th => th / 48 == n.val) (0x88 + j) ∧
        u.chanSt n j = 5 ∧ u.f (DM.CHSTAT_ERRCODE n j) = code ∧ u.on (DM.CHSTAT_FETCH n j) = fetch ∧ u.f (DM.CHERR_ADDR n j) = addr % 2 ^ 32 ∧
        u.rd (DM.CHSIG n j) = s.rd (DM.CHSIG n j))

/-- R418–R427, Tables 15.4–15.7: what a running channel executes. An instruction at which the channel stands, fetched and legal, has its effect and
CHPC goes on; of a row for another opcode nothing happens; a failed fetch is its response code with FETCH, an illegal word error 6. A transfer of one
access on each side moves its bytes and leaves the pointers past them; a misaligned one is error 7; loops nest 4 deep and repeat Count times; WAIT
arms and waits, or takes what is pending; FENCE, SIGNAL and HALT first stand in FENCING, and in the next turn SIGNAL counts, fires and submits and HALT
ends in IDLE (log 50). R427: a transfer whose turn it is not waits, and what
its engines leave at the end of a turn, or without room or credits, goes on from there in a later turn of the same instruction. -/
def Obligations.PantographInstructionsExecute : Prop :=
  ∀ (n : Fin 4) (j : Fin 16) (i : PIns) (s t : State),
    let pc := s.f (DM.CHPC_PC n j)
    let a := 16 * pc
    let op := i.w0 % 16
    let rows := [Instr.pantoHalt n j, .pantoMove n j, .pantoGather n j, .pantoScatter n j, .pantoLoop n j, .pantoEndloop n j, .pantoWait n j,
      .pantoSignal n j, .pantoFence n j]
    let x := srcSide i
    let y := dstSide i
    let sa := t.panSrc n j i
    let da := t.panDst n j i
    let p := t.pan n j
    let runs := fun (c : Instr) (u : State) => exec c s = .next u
    let err := fun (c : Instr) (code addr : Nat) => runs c (t.chanErr n j code addr false)
    let stands := fun (u : State) (m : PMove) => ((u.setPan n j { u.pan n j with xfer := none }).setFs
      [(DM.CHPSRC_A n j, m.src % 2 ^ 32), (DM.CHPDST_A n j, m.dst % 2 ^ 32)]).panNext n j
    let ends := fun (c : Instr) (w : State) (k : PIns) (m : PMove) => let u := m.st.dmPass n j
      (m.code ≠ 0 → exec c w = .next (u.chanErr n j m.code m.bad false)) ∧
      (m.code = 0 → m.wr = 0 → m.ents = 0 → exec c w = .next (stands u m)) ∧
      (m.code = 0 → m.wr ≠ 0 ∨ m.ents ≠ 0 → exec c w =
        .next (u.setPan n j { u.pan n j with xfer := some ⟨k, m.src, m.dst, m.rd, m.wr, m.hold, m.la, m.ents⟩ }))
    let turn := t.dmTurn n j = true
    let g := listRun n j true x y a i.w3 { t.range0 n j (t.f (DM.CHPSRC_A n j)) da 0 with la := sa }
    let sc := listRun n j false x y a i.w3 { t.range0 n j sa (t.f (DM.CHPDST_A n j)) 0 with la := da }
    (s.chanSt n j ∉ [1, 3] ∨ s.regionDown n = true → ∀ c ∈ rows, runs c s) ∧
    ((t.dmFencing n j i).chanSt n j = 3 ∧ (t.dmFencing n j i).f (DM.CHPC_PC n j) = t.f (DM.CHPC_PC n j) ∧
      ((t.dmFencing n j i).pan n j).xfer = some ⟨i, 0, 0, 0, 0, [], 0, 0⟩) ∧
    (s.chanSt n j = 1 → s.regionDown n = false → (s.pan n j).xfer = none → fetchRange n a = false → ∀ c ∈ rows, runs c (s.chanErr n j 2 a true)) ∧
    (∀ code bs u, s.chanSt n j = 1 → s.regionDown n = false → (s.pan n j).xfer = none → fetchRange n a = true → s.panRead n j false a 16 = (code, bs, u) →
      (code ≠ 0 → ∀ c ∈ rows, runs c (u.chanErr n j code a true)) ∧
      (code = 0 → pinsLegal (pinsOf bs) = false → ∀ c ∈ rows, runs c (u.chanErr n j 6 a false))) ∧
    (s.panAt n j i t →
      (∀ k c, rows[k]? = some c → k ≠ op → runs c s) ∧
      (op = 0 → if p.loops = [] then runs (.pantoHalt n j) (t.dmFencing n j i) else err (.pantoHalt n j) 9 a) ∧
      (op = 7 → runs (.pantoSignal n j) (t.dmFencing n j i)) ∧ (op = 8 → runs (.pantoFence n j) (t.dmFencing n j i)) ∧
      (op ∈ [1, 2, 3] → ¬turn → ∀ c, rows[op]? = some c → runs c t) ∧
      (op = 1 → turn → lenFits x y i.w3 = true → sideAligned x sa = true → sideAligned y da = true →
        ends (.pantoMove n j) s i ((t.range0 n j sa da i.w3).copy n j x y)) ∧
      (op = 1 → turn → lenFits x y i.w3 = false ∨ sideAligned x sa = false ∨ sideAligned y da = false → err (.pantoMove n j) 7 a) ∧
      (op = 1 → turn → x.reg = true → x.width = i.w3 → y.width = i.w3 → sa % i.w3 = 0 → da % i.w3 = 0 →
        ∀ bs u v, bs.length = i.w3 → t.dmReady n j sa i.w3 false = true → t.panRead n j true sa i.w3 = (0, bs, u) →
          u.dmReady n j da i.w3 true = true → u.panWrite n j true da bs = (0, v) →
          let z := v.dmPass n j
          runs (.pantoMove n j) (((z.setPan n j { z.pan n j with xfer := none }).setFs [(DM.CHPSRC_A n j, (if x.fixed then sa else sa + i.w3) % 2 ^ 32),
            (DM.CHPDST_A n j, (if y.fixed then da else da + i.w3) % 2 ^ 32)]).panNext n j)) ∧
      (op = 2 → turn → sideAligned y da = true → ends (.pantoGather n j) s i g) ∧
      (op = 2 → turn → sideAligned y da = false → err (.pantoGather n j) 7 a) ∧
      (op = 2 → i.w3 = 1 → t.dmReady n j sa 16 false = true → ∀ b len u, t.listEntry n j x sa = (0, b, len, u) → len ≠ 0 → lenFits x y len = true →
        sideAligned x b = true →
        g = { ({ t.range0 n j b da len with st := u, reads := t.dmBurst n j - 1, la := sa + 16, ents := 1 } : PMove).copy n j x y with ents := 0 }) ∧
      (op = 3 → turn → sideAligned x sa = true → ends (.pantoScatter n j) s i sc) ∧
      (op = 3 → turn → sideAligned x sa = false → err (.pantoScatter n j) 7 a) ∧
      (op = 4 → p.loops.length = 4 ∨ i.w3 = 0 → err (.pantoLoop n j) 9 a) ∧
      (op = 4 → p.loops.length ≠ 4 → i.w3 ≠ 0 → isNext (exec (.pantoLoop n j) s) (fun u => u.pan n j = { p with loops := (t.f (DM.CHPC_PC n j) + 1, i.w3) :: p.loops } ∧
        u.f (DM.CHPSRC_A n j) = (if bitOf i.w0 11 then i.w1 else t.f (DM.CHPSRC_A n j)) % 2 ^ 32 ∧
        u.f (DM.CHPDST_A n j) = (if bitOf i.w0 12 then i.w2 else t.f (DM.CHPDST_A n j)) % 2 ^ 32)) ∧
      (op = 5 → p.loops = [] → err (.pantoEndloop n j) 9 a) ∧
      (∀ b c l, op = 5 → p.loops = (b, c) :: l → (c ≤ 1 → runs (.pantoEndloop n j) ((t.setPan n j { p with loops := l }).panNext n j)) ∧
        (1 < c → runs (.pantoEndloop n j) ((t.setPan n j { p with loops := (b, c - 1) :: l }).setF (DM.CHPC_PC n j) b))) ∧
      (op = 6 → p.armed = some (bitsOf i.w0 16 8) → t.on (DM.CHSTAT_WPEND n j) = true →
        runs (.pantoWait n j) ((t.setF (DM.CHSTAT_WPEND n j) 0).panNext n j)) ∧
      (op = 6 → p.armed ≠ some (bitsOf i.w0 16 8) ∨ t.on (DM.CHSTAT_WPEND n j) = false → isNext (exec (.pantoWait n j) s) (fun u =>
        u.chanSt n j = 2 ∧ u.pan n j = { p with armed := some (bitsOf i.w0 16 8), tmo := i.w3 } ∧ u.on (DM.CHSTAT_WPEND n j) = false))) ∧
    (∀ q, s.chanSt n j = 3 → s.regionDown n = false → (s.pan n j).xfer = some q →
      let z := (s.setPan n j { s.pan n j with xfer := none }).setDmChan n j 1
      let k := q.ins
      let o := k.w0 % 16
      (∀ r c, rows[r]? = some c → r ≠ o → runs c s) ∧
      (o = 0 → (s.pan n j).loops = [] → runs (.pantoHalt n j) ((z.setF (DM.CHSTAT_CAUSE n j) 1).setDmChan n j 0)) ∧
      (o = 8 → runs (.pantoFence n j) (z.panNext n j)) ∧
      (o = 7 → (s.pan n j).host = none → bitOf k.w0 13 = false →
        runs (.pantoSignal n j) (((z.setPan n j { z.pan n j with host := none }).panSignalled n j (bitsOf k.w0 16 16)).panNext n j)) ∧
      (o = 7 → (s.pan n j).host = none → bitOf k.w0 13 = true → k.w1 % 4 ≠ 0 → runs (.pantoSignal n j) (z.chanErr n j 7 a false)) ∧
      (∀ u, o = 7 → (s.pan n j).host = none → bitOf k.w0 13 = true → k.w1 % 4 = 0 → z.panWrite n j true k.w1 (leBytes 4 k.w2) = (0, u) →
        runs (.pantoSignal n j) (((u.setPan n j { u.pan n j with host := none }).panSignalled n j (bitsOf k.w0 16 16)).panNext n j)) ∧
      (∀ h c bs u, o = 7 → (s.pan n j).host = some h → z.panRead n j true (h / 4 * 4) 4 = (c, bs, u) → c ≠ 0 →
        runs (.pantoSignal n j) (u.chanErr n j c (h / 4 * 4) false))) ∧
    (∀ q, s.chanSt n j = 1 → s.regionDown n = false → (s.pan n j).xfer = some q →
      let m := s.resumed n j q
      let o := q.ins.w0 % 16
      (∀ k c, rows[k]? = some c → k ≠ o ∨ (o ∈ [1, 2, 3] ∧ s.dmTurn n j = false) → runs c s) ∧
      (s.dmTurn n j = true →
        (o = 1 → ends (.pantoMove n j) s q.ins (m.copy n j (srcSide q.ins) (dstSide q.ins))) ∧
        (o = 2 → ends (.pantoGather n j) s q.ins (listRun n j true (srcSide q.ins) (dstSide q.ins) a q.ents m)) ∧
        (o = 3 → ends (.pantoScatter n j) s q.ins (listRun n j false (srcSide q.ins) (dstSide q.ins) a q.ents m))))

/-! ## The fault hub, the Burnisher, the Proof (chapter 17) -/

/-- R452–R455, R458, R466–R470, R472, R478, Tables 17.4, 17.10, 17.16: a read of NOTICE by the Keyblock takes the oldest entry; OPENSEQ closes a
recovery, no other value does; a record is cleared to 0 and no other changes; software records its own fault; FORCE drives FAULT_N; the right
heartbeat flips EXPECT and ends a restart, a wrong one counts; a Keyblock that fails under the armed Burnisher is restarted with its sessions closed,
or stopped at the limit; the ROM closes the recovery; a Proof of the first Fatal or second fault is written unless one is held. -/
def Obligations.FaultsAreReadRecoveredAndProved : Prop :=
  ∀ (rq : Rq) (u : Fin 354) (v : Word) (b : BitVec 8) (flag : Bool) (osc : Fin 3) (s : State),
    let kd := isKbDbg rq.id.toNat
    let st := s.f BRN.STAT_STATE
    let kb := rq.id = 8
    let rec_ := fun (unit code cls detail ident : Nat) => ({ unit := unit, code := code, cls := cls, detail := detail, ident := ident } : FaultRec)
    let ms := (s.f BRN.TICK_MS + 1) % 2 ^ 32
    let tick := if osc = 2 then s else { s.setF BRN.TICK_MS ms with brnAt := s.brnAt.filter (fun t => decide ((ms + 2 ^ 32 - t) % 2 ^ 32 < 255000)) }
    let want := if s.on BRN.STAT_EXPECT then 0xA5 else 0x5A
    let wantsProof := s.kbUp = true ∧ st ≠ 3 ∧ 2 ≤ s.f FLT.STAT_STATE
    let kind := if s.f FLT.STAT_STATE = 3 then 1 else 2
    let room := s.on FLT.PROOFBASE_V = true ∧ (s.on FLT.PROOFSTAT_VALID = false ∨ (s.f FLT.PROOFSTAT_KIND = 2 ∧ kind = 1))
    (∀ n t, s.notices = n :: t → (kb → s.on FLT.CTL_PEEK = false →
        exec (.noticeRead rq) s = .next (({ s with notices := t } : State).answer 0 (leBytes 4 (n.word true)))) ∧
      (kd = true → ¬kb ∨ s.on FLT.CTL_PEEK = true → exec (.noticeRead rq) s = .next (s.answer 0 (leBytes 4 (n.word false))))) ∧
    (kd = true → s.notices = [] → exec (.noticeRead rq) s = .next (s.answer 0 (leBytes 4 0))) ∧
    (kd = true → s.on FLT.STAT_OPEN = true → v.toNat = s.f FLT.OPENSEQ_SEQ → isNext (exec (.recoveryDone rq v) s) (fun t => t.resp = ⟨0, []⟩ ∧
      t.on FLT.STAT_OPEN = false ∧ t.f FLT.STAT_STATE = if s.f FLT.STAT_STATE = 1 then 0 else s.f FLT.STAT_STATE)) ∧
    (kd = true → s.on FLT.STAT_OPEN = false ∨ v.toNat ≠ s.f FLT.OPENSEQ_SEQ → exec (.recoveryDone rq v) s = .next (s.answer 0)) ∧
    (kd = true → isNext (exec (.recordClear rq u) s) (fun t => t.resp = ⟨0, []⟩ ∧ ∀ w, w < 8 → t.rd (FLT.REC0 u + 4 * w) = 0 ∧
      ∀ x : Fin 354, x ≠ u → t.rd (FLT.REC0 x + 4 * w) = s.rd (FLT.REC0 x + 4 * w))) ∧
    (kd = true → exec (.softwareFaultRecord rq b flag) s =
      .next ((s.fault (rec_ 0xBA b.toNat (if flag then 3 else 2) 0 rq.id.toNat)).answer 0)) ∧
    (kd = true → isNext (exec (.forceWrite rq flag) s) (fun t => t.resp = ⟨0, []⟩ ∧ t.on FLT.CTL_FORCE = flag ∧ t.on FLT.CTL_PEEK = s.on FLT.CTL_PEEK ∧
      (t.on FLT.STAT_FAULTN = true ↔ 2 ≤ s.f FLT.STAT_STATE ∨ flag = true))) ∧
    (kd = false → exec (.noticeRead rq) s = .next (s.answer 2 (leBytes 4 0)) ∧
      ∀ i ∈ [Instr.recoveryDone rq v, .recordClear rq u, .softwareFaultRecord rq b flag, .forceWrite rq flag], exec i s = .next (s.answer 2)) ∧
    (kb → b.toNat = want → isNext (exec (.heartbeat rq b) s) (fun t => t.resp = ⟨0, []⟩ ∧ t.on BRN.STAT_EXPECT = !s.on BRN.STAT_EXPECT ∧
      t.f BRN.STAT_STATE = if st = 2 then 1 else st)) ∧
    (kb → b.toNat ≠ want → exec (.heartbeat rq b) s = .next ((s.bump BRN.STAT_BADHB).answer 0)) ∧
    (¬kb → exec (.heartbeat rq b) s = .next (s.answer 2)) ∧
    (exec .heartbeatTimeout s = .next (if st = 1 ∧ s.f SYS.PWRSTAT_STATE = 0 then s.failKeyblock 2 0 else s)) ∧
    (exec .lockstepDivergence s = .next (if (s.core 208).dead = true ∨ st = 3 then s else s.failKeyblock 1 0)) ∧
    (exec .romTimeout s = .next (if st = 2 then s.failKeyblock 4 0 else s)) ∧
    (∀ code, code < 8 → (st = 1 ∨ st = 2) → s.recentRestarts < max (s.f BRN.LIMIT_LIMIT) 1 → ∃ t : State,
      s.failKeyblock code 0 = t.fault (rec_ 0xB3 code 1 0 8) ∧ t.f BRN.STAT_STATE = 2 ∧ t.f BRN.STAT_CAUSE = code ∧ t.romDue = true ∧ t.kbOff = true ∧
      ∀ n, n < 4 → (t.session n).isOpen = false) ∧
    (∀ code, (st = 1 ∨ st = 2) → max (s.f BRN.LIMIT_LIMIT) 1 ≤ s.recentRestarts → ∃ t : State,
      s.failKeyblock code 0 = t.fault (rec_ 0xB3 5 3 0 8) ∧ t.f BRN.STAT_STATE = 3 ∧ t.kbOff = true) ∧
    (∀ code, st = 0 → s.failKeyblock code 0 = (s.setCore 208 { s.core 208 with dead := true }).fault (rec_ 0xB3 code 2 0 8)) ∧
    (s.romDue = false ∨ st = 3 → exec (.romRecovery flag) s = .next s) ∧
    (s.romDue = true → st ≠ 3 → s.romPass.romWaits = true → exec (.romRecovery flag) s = .next s.romPass) ∧
    (s.romDue = true → st ≠ 3 → s.romPass.romWaits = false → flag = true → isNext (exec (.romRecovery flag) s) (fun t => t.romDue = false ∧ t.kbOff = false ∧ t.on OBS.ACTCTL_DMODE = false)) ∧
    (s.romDue = true → st ≠ 3 → s.romPass.romWaits = false → flag = false → ∃ t : State, exec (.romRecovery flag) s = .next (t.degraded.setF SYS.BOOTSTAT_STAGE 5) ∧
      t.romDue = false ∧ t.kbOff = false ∧ t.on FLT.STAT_OPEN = false) ∧
    (exec (.oscillatorCheck osc) s = .next (if osc = 0 then tick else tick.fault (rec_ 0xB8 1 2 0 9))) ∧
    (exec (.controlStateError u) s = .next (if controlUnit u = true then s.fault (rec_ u 0xF 3 0 0) else s)) ∧
    (¬wantsProof → exec .proofWrite s = .next s) ∧ (wantsProof → ¬room → exec .proofWrite s = .next (s.bump FLT.PROOFSTAT_SKIP)) ∧
    (wantsProof → room → exec .proofWrite s = .next (s.writeProof kind
      (if kind = 1 then s.f FLT.FIRST_UNIT else if s.on FLT.STAT_SECOND = true then s.secondUnit else 0xB3)))

/-! ## Message buses (chapter 13) -/

/-- R368–R373, Tables 13.3, 13.5: transmission and the state of a controller. A request makes an idle or finished buffer PENDING, an abort ends a
pending one; a start decision makes the buffer of the arbitration the ACTIVE one; a success sends its frame, counts and ends it, a lost or failed
attempt ends it when it was aborted or is one shot and else leaves it PENDING; errors move TEC and REC and beyond 255 lead to BUSOFF, which recovery
ends. All but engines, application cores, the Keyblock and the debug port are answered PERM. -/
def Obligations.BusControllersTransmitAndCountErrors : Prop :=
  ∀ (rq : Rq) (k : Fin 8) (b : Fin 3) (result : Fin 3) (ago : Nat) (lec : Fin 7) (tx exempt heavy : Bool) (s : State),
    let ok := mbRights rq = true
    let st := s.f (MBUS.STAT_STATE k)
    let live := st = 2 ∨ st = 3
    let buf := s.f (MBUS.TXSTAT_STATE k b)
    let tec := s.f (MBUS.ERRC_TEC k)
    let rec_ := s.f (MBUS.ERRC_REC k)
    let slot := 4 * k.val + b.val
    let ended := fun (cause : Nat) (t : State) => ∃ u : State, t = u.mbEvt k 1 ∧ u.f (MBUS.TXSTAT_STATE k b) = 3 ∧ u.f (MBUS.TXSTAT_CAUSE k b) = cause ∧
      u.mbAbort.contains slot = false
    let e := s.setF (MBUS.ERRC_LEC k) lec
    (ok → buf = 0 ∨ buf = 3 → exec (.txRequest rq k b) s = .next ((s.setF (MBUS.TXSTAT_STATE k b) 1).answer 0)) ∧
    (ok → buf = 1 ∨ buf = 2 → exec (.txRequest rq k b) s = .next ((s.bump (MBUS.TXSTAT_REQIGN k b)).answer 0)) ∧
    (ok → buf = 1 → exec (.txAbort rq k b) s = .next ((s.mbDone k b 4).answer 0)) ∧
    (ok → buf = 2 → exec (.txAbort rq k b) s = .next (({ s with mbAbort := slot :: s.mbAbort } : State).answer 0)) ∧
    (ok → buf = 0 ∨ buf = 3 → exec (.txAbort rq k b) s = .next (s.answer 0)) ∧
    (∀ c, c < 8 → ended c (s.mbDone k b c)) ∧
    (live → s.mbSilent k = false → s.mbActive k = none → ∀ c, s.mbSelect k = some c →
      exec (.startDecision k) s = .next (s.setF (MBUS.TXSTAT_STATE k c) 2)) ∧
    (¬live ∨ s.mbSilent k = true ∨ s.mbActive k ≠ none ∨ s.mbSelect k = none → exec (.startDecision k) s = .next s) ∧
    (∀ c, s.mbSelect k = some c → c < 3 ∧ s.f (MBUS.TXSTAT_STATE k c) = 1 ∧ ∀ d, d < 3 → s.f (MBUS.TXSTAT_STATE k d) = 1 →
      if s.on (MBUS.CTL_TXSEL k) then c ≤ d else arbKey (s.rd (MBUS.TXID k c)) ≤ arbKey (s.rd (MBUS.TXID k d))) ∧
    (s.mbActive k = none → exec (.transmissionAttemptEnd k result ago) s = .next s) ∧
    (s.mbActive k = some b.val → result = 0 → ∃ u : State, exec (.transmissionAttemptEnd k result ago) s = .next ((u.mbFollow k).mbDone k b 0) ∧
      u.out = s.out ++ [s.mbFrame k b] ∧ u.rd (MBUS.TXSTAMP k b) = s.mbStamp k ago % 2 ^ 32 ∧ u.f (MBUS.ERRC_TEC k) = tec - 1 ∧
      u.f (MBUS.TXSTAT_TXCNT k b) = (s.f (MBUS.TXSTAT_TXCNT k b) + 1) % 65536) ∧
    (s.mbActive k = some b.val → result ≠ 0 → ∃ w : State, exec (.transmissionAttemptEnd k result ago) s = .next (
      if s.mbAbort.contains slot = true then w.mbDone k b 4
      else if s.on (MBUS.CTL_ONESHOT k) = true then w.mbDone k b result else w.setF (MBUS.TXSTAT_STATE k b) 1) ∧ (result = 1 → w = s) ∧
      { w with regs := s.regs, sealDiff := s.sealDiff, freeIx := s.freeIx } = s ∧ ∀ x, x ≠ MBUS.STAT k → w.rd x = s.rd x) ∧
    (¬live → exec (.busError k tx lec exempt heavy) s = .next s) ∧
    (live → lec ≠ 0 → s.mbSilent k = true → exec (.busError k tx lec exempt heavy) s = .next (e.setF (MBUS.STAT_STATE k) 1)) ∧
    (live → lec ≠ 0 → s.mbSilent k = false → tx = true → exempt = false → ∃ u : State, u.f (MBUS.ERRC_TEC k) = min (tec + 8) 255 ∧ u.f (MBUS.ERRC_REC k) = rec_ ∧
      exec (.busError k tx lec exempt heavy) s = .next (if tec + 8 > 255 then u.mbBusoff k else u.mbFollow k)) ∧
    (live → lec ≠ 0 → s.mbSilent k = false → tx = false → ∃ u : State, u.f (MBUS.ERRC_TEC k) = tec ∧
      u.f (MBUS.ERRC_REC k) = min (rec_ + if heavy then 8 else 1) 127 ∧ exec (.busError k tx lec exempt heavy) s = .next (u.mbFollow k)) ∧
    (live → lec = 0 → s.on (MBUS.CTL_FD k) = true → s.on (MBUS.CTL_PXE k) = true → exec (.busError k tx lec exempt heavy) s =
      .next ((s.bump (MBUS.ERRC_PXCNT k)).setF (MBUS.STAT_STATE k) 1)) ∧
    (st = 1 → exec (.busIntegration k) s = .next (s.setF (MBUS.STAT_STATE k) (if tec > 127 ∨ s.on (MBUS.ERRC_RP k) = true then 3 else 2))) ∧
    (st ≠ 1 → exec (.busIntegration k) s = .next s) ∧
    (ok → isNext (exec (.busoffRecover rq k) s) (fun t => t.resp = ⟨0, []⟩ ∧ (st = 4 → t.mbRecov.contains k.val = true) ∧
      { t with mbRecov := s.mbRecov, resp := s.resp } = s)) ∧
    (st = 4 → s.mbRecov.contains k.val = true → ∃ u : State, exec (.busoffRecoveryDone k) s = .next (u.mbState k 2) ∧ u.f (MBUS.ERRC_TEC k) = 0 ∧
      u.f (MBUS.ERRC_REC k) = 0 ∧ u.mbRecov.contains k.val = false) ∧
    (st ≠ 4 ∨ s.mbRecov.contains k.val = false → exec (.busoffRecoveryDone k) s = .next s) ∧
    (¬ok → ∀ i ∈ [Instr.txRequest rq k b, .txAbort rq k b, .busoffRecover rq k, .rxPop rq k, .mbLocalReset rq k], exec i s = .next (s.answer 2))

/-- R369, R375–R377, R379, Table 13.4: reception. A good frame is acknowledged unless the controller monitors (R373); one that a filter, or no enabled
filter, accepts enters the FIFO of 64 with its length, filter and stamp; a full FIFO counts OVF; a pop, and with AUTOPOP a read of the window's last
word, removes the oldest; the window shows the oldest entry; a local reset empties the FIFO and the counters; activated words are taken at a bus-idle
point. -/
def Obligations.BusControllersReceiveAndReset : Prop :=
  ∀ (rq : Rq) (k : Fin 8) (id : Word) (fmt : BitVec 6) (data : List Byte) (ago : Nat) (s : State),
    let ok := mbRights rq = true
    let st := s.f (MBUS.STAT_STATE k)
    let live := st = 2 ∨ st = 3
    let q := tabGet s.mbRx [] k.val
    let a := (if s.on (MBUS.CTL_MON k) then s else s.emit (.canAck k)).mbRxOk k
    let fd := bitOf id.toNat 31
    let n := if bitOf id.toNat 30 ∧ fd = false then 0 else mbLen fd (fmt.toNat % 16)
    let entry := fun (f : Nat) => (⟨mbId id.toNat, fmt.toNat + f * 2 ^ 8 + n * 2 ^ 16, s.mbStamp k ago, data.take n⟩ : MbEntry)
    let shows := fun (t : State) => t.f (MBUS.RXSTAT_LEVEL k) = (tabGet t.mbRx [] k.val).length ∧ ∀ x l, tabGet t.mbRx [] k.val = x :: l →
      t.rd (MBUS.RXID k) = x.id % 2 ^ 32 ∧ t.rd (MBUS.RXFMT k) = x.fmt % 2 ^ 32 ∧ t.rd (MBUS.RXSTAMP k) = x.stamp % 2 ^ 32
    let popped := fun (t : State) => tabGet t.mbRx [] k.val = q.tail ∧ (q ≠ [] → q.length ≤ 64 → shows t ∧
      t.f (MBUS.RXSTAT_POPCNT k) = (s.f (MBUS.RXSTAT_POPCNT k) + 1) % 65536)
    let mine := s.mbPend.filter (fun w => mbWordOf k w.1)
    (¬live → exec (.mbFrameReceive k id fmt data ago) s = .next s) ∧
    (live → fd = true → s.on (MBUS.CTL_FD k) = false → exec (.mbFrameReceive k id fmt data ago) s = .next (s.mbError k false false false 2)) ∧
    (live → fd = false ∨ s.on (MBUS.CTL_FD k) = true → a.mbFilter k (mbId id.toNat) = none → exec (.mbFrameReceive k id fmt data ago) s = .next a) ∧
    (∀ f, live → fd = false ∨ s.on (MBUS.CTL_FD k) = true → a.mbFilter k (mbId id.toNat) = some f → 64 ≤ q.length →
      exec (.mbFrameReceive k id fmt data ago) s = .next ((a.bump (MBUS.RXSTAT_OVF k)).mbEvt k 2)) ∧
    (∀ f, live → fd = false ∨ s.on (MBUS.CTL_FD k) = true → a.mbFilter k (mbId id.toNat) = some f → q.length < 64 → ∃ u : State,
      exec (.mbFrameReceive k id fmt data ago) s = .next (if q = [] then u.mbEvt k 0 else u) ∧ tabGet u.mbRx [] k.val = q ++ [entry f] ∧ shows u) ∧
    (∀ f, s.mbFilter k id.toNat = some f → (f = 0 ∧ ∀ j, j < 16 → s.on (MBUS.FILT_EN k j) = false) ∨
      (f < 16 ∧ s.on (MBUS.FILT_EN k f) = true ∧ s.f (MBUS.FILT_IDE k f) = bitsOf id.toNat 29 1 ∧
        (bitsOf id.toNat 0 29 &&& s.f (MBUS.FMSK_MSK k f)) = (s.f (MBUS.FILT_ID k f) &&& s.f (MBUS.FMSK_MSK k f)))) ∧
    (ok → isNext (exec (.rxPop rq k) s) (fun t => t.resp = ⟨0, []⟩ ∧ popped t)) ∧
    (ok → isNext (exec (.rxWindowAutopop rq k) s) (fun t => t.resp = ⟨0, leBytes 4 (s.rd (MBUS.RXD k 15))⟩ ∧
      if s.on (MBUS.RXCTL_AUTOPOP k) then popped t else { t with resp := s.resp } = s)) ∧
    (¬ok → exec (.rxWindowAutopop rq k) s = .next (s.answer 2)) ∧
    (ok → ∃ u : State, exec (.mbLocalReset rq k) s = .next (((u.mbCatch k).mbSettle k).answer 0) ∧ u.f (MBUS.STAT_STATE k) = 0 ∧ tabGet u.mbRx [] k.val = [] ∧ u.rd (MBUS.ERRC k) = 0 ∧
      u.rd (MBUS.EVT k) = 0 ∧ u.f (MBUS.RXSTAT_LEVEL k) = 0 ∧ (∀ b : Fin 3, u.f (MBUS.TXSTAT_STATE k b) = 0) ∧ u.mbRecov.contains k.val = false) ∧
    (mine = [] → exec (.mbConfigTake k) s = .next s) ∧
    (s.mbActive k ≠ none → exec (.mbConfigTake k) s = .next s) ∧
    (s.mbActive k = none → mine ≠ [] → ∃ u : State, exec (.mbConfigTake k) s = .next (u.mbTaken k) ∧ u.mbPend = s.mbPend.filter (fun w => !mbWordOf k w.1) ∧
      { u with regs := s.regs, sealDiff := s.sealDiff, mbPend := s.mbPend } = s)

/-- R382–R391, Tables 13.11, 13.12: consent rings, the WAKE line, channels and their fail-safe. A consent counts and with LOCAL a full circle of them
leads to SLEEP_PENDING, a dissent starts anew and wakes; timers that have run set their flags and ring the owner; the wait puts the media to sleep
unless the line is low; a wake of a sleeping ring brings its media back; a KICK with the code restarts the timer, an expiry forces the channel to
Sleep. -/
def Obligations.RingsSleepWakeAndFailSafe : Prop :=
  ∀ (rq : Rq) (r : Fin 4) (c : Fin 12) (flag : Bool) (req : BitVec 2) (v : BitVec 12) (s : State),
    let st := s.f (NMG.RINGSTAT_STATE r)
    let ok := s.ringRights rq r = true
    let may := s.fsRights rq c = true
    let ring := fun (fl : FldAt) (u : State) => if s.on (NMG.RINGCFG_OV r) = true
      then (u.setF fl 1).ringDoorbell (0x10 + s.f (NMG.RINGCFG_OWNKEY r) / 8) (s.f (NMG.RINGCFG_DBBIT r)) else u.setF fl 1
    let woken := (s.ringMedia r).foldl (fun t x => ({ t with fsExp := tabDel t.fsExp x }.ringChan x 0).fsRestart x) (s.ringState r 1)
    let n := min (s.f (NMG.RINGSTAT_CONSCNT r) + 1) (2 ^ (NMG.RINGSTAT_CONSCNT r).w - 1)
    let full := st = 1 ∧ s.on (NMG.RINGSTAT_LOCAL r) = true ∧ min (max (s.f (NMG.RINGCFG_RINGLEN r)) 2) 64 ≤ n
    let mode := min req.toNat 2
    let due := s.ringDue r
    let expired := tabHas s.fsExp c.val
    (ok → st = 0 → exec (.ringReport rq r flag) s = .next (s.answer 0)) ∧
    (ok → st ≠ 0 → flag = true → ∃ u : State, u.f (NMG.RINGSTAT_CONSCNT r) = n ∧ u.f (NMG.RINGSTAT_STATE r) = st ∧ u.ringAt = (s.ringRestart r).ringAt ∧
      exec (.ringReport rq r flag) s = .next ((if full then u.ringState r 2 else u).answer 0)) ∧
    (ok → st ≠ 0 → flag = false → exec (.ringReport rq r flag) s = .next ((((s.ringRestart r).setF (NMG.RINGSTAT_CONSCNT r) 0).wakeRing r false).answer 0)) ∧
    (∀ x, x < 4 → x ≠ st → ∃ u : State, s.ringState r x = ((u.kevt 12).postEvent 0x8A80 [r, x]).refreshInh ∧ u.f (NMG.RINGSTAT_STATE r) = x) ∧
    (st ≠ 0 → due 0 (s.f (NMG.RINGTMR_TMAX r)) = true → exec (.ringTimerExpiry r) s =
      .next (ring (NMG.RINGSTAT_RLOST r) ((s.ringStop r 0).setF (NMG.RINGSTAT_CONSCNT r) 0))) ∧
    (st ≠ 0 → due 1 (s.f (NMG.RINGTMR_TTYP r)) = true → exec (.tokenDue r) s = .next (ring (NMG.RINGSTAT_TOKEN r) (s.ringStop r 1))) ∧
    (st = 0 ∨ due 0 (s.f (NMG.RINGTMR_TMAX r)) = false → exec (.ringTimerExpiry r) s = .next s) ∧
    (st = 0 ∨ due 1 (s.f (NMG.RINGTMR_TTYP r)) = false → exec (.tokenDue r) s = .next s) ∧
    (∀ j ms, due j ms = true ↔ ∃ x, s.ringAt.find? (fun e => e.1 == 3 * r.val + j) = some x ∧ x.2 + max ms 1 * 500000 ≤ s.runTick) ∧
    (ok → exec (.ringctlLocal rq r true) s = .next ((s.setF (NMG.RINGSTAT_LOCAL r) 1).answer 0) ∧
      exec (.ringctlLocal rq r false) s = .next (((s.setF (NMG.RINGSTAT_LOCAL r) 0).wakeRing r true).answer 0) ∧
      exec (.ringctlWake rq r) s = .next ((s.wakeRing r true).answer 0)) ∧
    (∀ l, st ∉ [2, 3] → s.wakeRing r l = s) ∧
    (∀ l, st = 3 → s.wakeRing r l = if l then (woken.setF WAKE.LINE_DRIVE 1).emit (.pin "WAKE" 0) else woken) ∧
    (st = 2 → s.on WAKE.LINE_LOW = false → due 2 (s.f (NMG.RINGWAIT_WAIT r)) = true → exec (.sleepWaitExpiry r) s =
      .next ((s.ringMedia r).foldl (fun t x => t.ringChan x 2) (s.ringState r 3))) ∧
    (st ≠ 2 ∨ s.on WAKE.LINE_LOW = true ∨ due 2 (s.f (NMG.RINGWAIT_WAIT r)) = false → exec (.sleepWaitExpiry r) s = .next s) ∧
    (s.on WAKE.LINE_DRIVE = true → exec .wakePulseEnd s = .next ((s.setF WAKE.LINE_DRIVE 0).emit (.pin "WAKE" 1)) ∧ exec .wakeLineQualified s = .next (s.setF WAKE.LINE_LOW 1)) ∧
    (s.on WAKE.LINE_DRIVE = false → exec .wakePulseEnd s = .next s) ∧
    (s.on WAKE.LINE_DRIVE = false → ∃ u : State, u.on WAKE.LINE_LOW = true ∧ u.on WAKE.INHCFG_REL = false ∧
      exec .wakeLineQualified s = .next (u.ringsOn.foldl (fun t x => t.wakeRing x false) u)) ∧
    exec .wakeLineRelease s = .next (s.setF WAKE.LINE_LOW 0) ∧
    (s.f (WAKE.FSSTAT_STATE c) = 0 → exec (.remoteWake c) s = .next s) ∧
    (s.f (WAKE.FSSTAT_STATE c) ≠ 0 → ∀ x, s.ringsOn.find? (fun y => (s.ringMedia y).contains c.val) = some x →
      exec (.remoteWake c) s = .next (s.clearRel.wakeRing x false)) ∧
    (s.f (WAKE.FSSTAT_STATE c) ≠ 0 → s.ringsOn.find? (fun y => (s.ringMedia y).contains c.val) = none →
      exec (.remoteWake c) s = .next ((s.clearRel.setF (WAKE.FSSTAT_RWAKE c) 1).kevt 12)) ∧
    (may → expired = false → exec (.failsafeRequest rq c req) s = .next (((s.setF (WAKE.FSCTL_REQ c) req.toNat).setChan c mode).answer 0)) ∧
    (may → expired = true → isNext (exec (.failsafeRequest rq c req) s) (fun t => t.resp = ⟨0, []⟩ ∧ t.f (WAKE.FSCTL_REQ c) = req.toNat ∧
      t.f (WAKE.FSSTAT_STATE c) = s.f (WAKE.FSSTAT_STATE c) ∧ tabGet t.fsExp 0 c.val = 2)) ∧
    (may → v ≠ 0x0A5 → exec (.failsafeKick rq c v) s = .next ((s.bump (WAKE.FSSTAT_BADKICK c)).answer 0)) ∧
    (may → v = 0x0A5 → tabGet s.fsExp 0 c.val ≠ 2 → exec (.failsafeKick rq c v) s = .next ((s.fsRestart c).answer 0)) ∧
    (may → v = 0x0A5 → tabGet s.fsExp 0 c.val = 2 → exec (.failsafeKick rq c v) s =
      .next (({ s.fsRestart c with fsExp := tabDel s.fsExp c.val }.setChan c (min (s.f (WAKE.FSCTL_REQ c)) 2)).answer 0)) ∧
    (s.f (WAKE.FSSTAT_STATE c) = 2 ∨ s.fsRemain c ≠ 0 → exec (.failsafeExpiry c) s = .next s) ∧
    (s.f (WAKE.FSSTAT_STATE c) ≠ 2 → s.fsRemain c = 0 → isNext (exec (.failsafeExpiry c) s) (fun t => t = { ((s.setF (WAKE.FSSTAT_EXP c) 1).kevt 12).setChan c 2 with fsExp := t.fsExp } ∧
      tabGet t.fsExp 0 c.val = 1)) ∧
    (∀ x, x < 4 → (s.setChan c x).f (WAKE.FSSTAT_STATE c) = x) ∧
    (¬ok → ∀ i ∈ [Instr.ringReport rq r flag, .ringctlLocal rq r flag, .ringctlWake rq r], exec i s = .next (s.answer 2)) ∧
    (¬may → exec (.failsafeRequest rq c req) s = .next (s.answer 2) ∧ exec (.failsafeKick rq c v) s = .next (s.answer 2))

/-! ## Power, reset, boot (chapter 18) -/

/-- R481–R493, R495, R506, R507, R529: regions, Doze, Hold, Off and the governor. PWR = 0 turns a region off, PWR = 1 powers it up with its memories
zero, RST holds it in reset; an idle cluster dozes unless a level source is active, and a source wakes it; the Keyblock's key word starts Hold or Off,
a wake source enabled for the state ends them; Hold exit ends in Run once the clocks have locked, which takes a reference (R25), after the
wipe with CAUSE 5 that a tamper in Hold asks for (R444); above TTHR the
governor throttles until below TTHR − HYST. -/
def Obligations.PowerStatesAreEnteredAndLeft : Prop :=
  ∀ (rq : Rq) (n : Fin 4) (c : Fin 12) (held : Bool) (tio : BitVec 5) (pads : BitVec 8) (edge : Option (Fin 13 × Bool)) (key : BitVec 16) (late : Option (BitVec 8)) (cause : BitVec 8)
    (tj : BitVec 16) (temp : Bool) (supply : Fin 6) (s : State),
    let kd := isKbDbg rq.id.toNat = true
    let kb := rq.id = 8
    let st := s.f (SYS.RGCTL_STATE n)
    let pwr := s.f SYS.PWRSTAT_STATE
    let rst := s.on (SYS.RGCTL_RST n)
    let on := s.on (SYS.RGCTL_PWR n)
    let ctl := fun (i : Instr) (p : Bool) (r : Bool) (x : Nat) (more : State → Prop) => isNext (exec i s) (fun t => t.resp = ⟨0, []⟩ ∧
      t.on (SYS.RGCTL_PWR n) = p ∧ t.on (SYS.RGCTL_RST n) = r ∧ t.f (SYS.RGCTL_STATE n) = x ∧ more t)
    let up := s.offline = false ∧ s.regionDown (if c.val < 8 then c.val / 2 else c.val - 8) = false
    let ready := s.on (SYS.DOZE_EN c) = true ∧ s.f (SYS.DOZE_STATE c) = 0 ∧ up ∧ s.clusterIdle c = true
    let level := s.wakeLevel c held ⟨tio, pads⟩ = true
    let woken := level ∨ ∃ i up, edge = some (i, up) ∧ s.wakeEdge c i up = true
    let line := s.on WAKE.LINE_LOW = true ∧ s.on WAKE.HWAKE_LINE = true
    let src := ∃ x, late = some x ∧ s.holdSource x.toNat = true
    let temps := s.setFs [(PHYA.TEMP_TJ, tj.toNat), (PHYA.TEMP_VALID, 1)]
    let t2 := temps.setF SYS.GOVSTAT_TJ tj.toNat
    let hi := (16 * s.f SYS.GOVCFG_TTHR : Int)
    let lo := hi - 16 * (s.f SYS.GOVCFG_HYST : Int)
    let x := toSigned 16 tj.toNat
    let thr := s.on SYS.GOVSTAT_THROT
    (kd → ctl (.regionPowerOff rq n) false rst 1 (fun _ => True)) ∧
    (kd → ctl (.regionPowerUp rq n) true rst (if st = 1 ∨ st = 2 then 2 else if rst then 3 else 0)
      (fun t => st = 1 → ∀ a, inRegionMem n a = true → t.byte a = 0)) ∧
    (kd → on = true → st = 0 ∨ st = 3 → ctl (.regionResetAssert rq n) true true 3 (fun _ => True)) ∧
    (kd → on = true → st = 0 ∨ st = 3 → ctl (.regionResetRelease rq n) true false 0 (fun _ => True)) ∧
    (kd → on = false → ctl (.regionResetAssert rq n) false true 1 (fun _ => True)) ∧
    (¬kd → ∀ i ∈ [Instr.regionPowerOff rq n, .regionPowerUp rq n, .regionResetAssert rq n, .regionResetRelease rq n], exec i s = .next (s.answer 2)) ∧
    (st = 2 → isNext (exec (.regionUpComplete n) s) (fun t => t.f (SYS.RGCTL_STATE n) = if rst then 3 else 0)) ∧
    (st ≠ 2 → exec (.regionUpComplete n) s = .next s) ∧
    (¬ready → exec (.dozeEntry c held ⟨tio, pads⟩) s = .next s) ∧
    (ready → (level → exec (.dozeEntry c held ⟨tio, pads⟩) s = .next (s.bump (SYS.DOZE_ABORTS c))) ∧
      (¬level → exec (.dozeEntry c held ⟨tio, pads⟩) s = .next (s.setF (SYS.DOZE_STATE c) 2))) ∧
    (s.f (SYS.DOZE_STATE c) = 2 → woken → exec (.dozeWake c held ⟨tio, pads⟩ edge) s = .next ((s.setF (SYS.DOZE_STATE c) 0).bump (SYS.DOZE_WAKES c))) ∧
    (s.f (SYS.DOZE_STATE c) ≠ 2 ∨ ¬woken → exec (.dozeWake c held ⟨tio, pads⟩ edge) s = .next s) ∧
    (¬kb → exec (.holdEntry rq key late) s = .next (s.answer 2) ∧ exec (.offEntry rq key) s = .next (s.answer 2)) ∧
    (kb → key ≠ 0x5057 ∨ pwr ≠ 0 → exec (.holdEntry rq key late) s = .next (s.answer 0) ∧ exec (.offEntry rq key) s = .next (s.answer 0)) ∧
    (kb → key = 0x5057 → pwr = 0 → isNext (exec (.holdEntry rq key late) s) (fun t => t.resp = ⟨0, []⟩ ∧ t.on SYS.CLKSTAT_PLL_LOCK = false ∧
      t.on SYS.DLSTAT_LINK_UP = false ∧ (line → t.f SYS.PWRSTAT_STATE = 2 ∧ t.f SYS.PWRSTAT_WCAUSE = 1 ∧ t.on SYS.PWRSTAT_LATEWAKE = true) ∧
      (¬line → ¬src → t.f SYS.PWRSTAT_STATE = 4))) ∧
    (pwr = 4 → s.holdSource cause.toNat = true → isNext (exec (.holdWake cause) s) (fun t => t.f SYS.PWRSTAT_STATE = 2 ∧ t.f SYS.PWRSTAT_WCAUSE = cause.toNat)) ∧
    (pwr ≠ 4 ∨ s.holdSource cause.toNat = false → exec (.holdWake cause) s = .next s) ∧
    (pwr = 2 → s.refA = true ∨ s.refB = true → s.holdWipe = true → exec .holdExitComplete s = .next { s.wipe 5 with holdWipe := false }) ∧
    (pwr = 2 → s.holdWipe = false → s.on PLT.SBSTAT_WIPING = true → exec .holdExitComplete s = .next s) ∧
    (pwr = 2 → s.refA = true ∨ s.refB = true → s.holdWipe = false → s.on PLT.SBSTAT_WIPING = false → ∃ u : State, exec .holdExitComplete s = .next (u.powerEvent 0 (s.f SYS.PWRSTAT_WCAUSE)) ∧ u.f SYS.PWRSTAT_STATE = 0 ∧
      u.on SYS.CLKSTAT_PLL_LOCK = true ∧ u.on SYS.DLSTAT_LINK_UP = true ∧ u.on TMU.STAT_HOLDEXIT = true ∧
      u.f SYS.PWRSTAT_HOLDS = min (s.f SYS.PWRSTAT_HOLDS + 1) 0xFFFF) ∧
    (pwr ≠ 2 ∨ (s.refA = false ∧ s.refB = false) → exec .holdExitComplete s = .next s) ∧
    (kb → key = 0x5057 → pwr = 0 → isNext (exec (.offEntry rq key) s) (fun t => t.resp = ⟨0, []⟩ ∧ t.powerOff = true ∧ t.f SYS.PWRSTAT_STATE = 3 ∧ t.mem = [])) ∧
    (s.powerOff = true → s.offWoken = false → cause.toNat = 1 ∨ (0x10 ≤ cause.toNat ∧ cause.toNat < 0x1C) → isNext (exec (.offWake cause) s) (fun t =>
      t.offWoken = true ∧ t.powerOff = true ∧ t.f WAKE.OFFCAUSE_CAUSE = cause.toNat ∧ t.on WAKE.OFFCAUSE_VALID = true)) ∧
    (s.powerOff = false ∨ s.offWoken = true → exec (.offWake cause) s = .next s) ∧
    (s.on SYS.GOVCFG_EN = false → exec (.governorSample tj) s = .next temps) ∧
    (s.on SYS.GOVCFG_EN = true → thr = false → hi ≤ x → exec (.governorSample tj) s =
      .next ((((t2.setF SYS.GOVSTAT_THROT 1).bump SYS.GOVSTAT_EPIS).kevt 15).postEvent 0x9081 [1, tj.toNat])) ∧
    (s.on SYS.GOVCFG_EN = true → thr = true → x < lo → exec (.governorSample tj) s =
      .next (((t2.setF SYS.GOVSTAT_THROT 0).kevt 15).postEvent 0x9081 [0, tj.toNat])) ∧
    (s.on SYS.GOVCFG_EN = true → (thr = false → x < hi) → (thr = true → lo ≤ x) → exec (.governorSample tj) s = .next t2) ∧
    (temp = true → exec (.monitorFault temp supply) s = .next (s.fault { unit := 0xB9, code := 2, cls := 3 })) ∧
    (temp = false → exec (.monitorFault temp supply) s =
      .next ((s.setF (PHYA.VMON_OOR supply) 1).fault { unit := 0xB9, code := 1, cls := 3, detail := supply }))

/-- R492, R495, R497–R500, R503, R532, Tables 18.10, 18.12: resets and boot. Each reset leaves its cause, the straps and the life-cycle state, clears
the memories but for a warm one, and closes every session; power-good ends Off or a loss; with no reference clock both dies stay in reset (R25). The
ROM boots the slot of the latest record, its other slot where that one fails and the record allows it, else it recovers; with strap 3 it opens the
host's window, and an accepted image boots from it: one signed with a key of the life-cycle state (Table 16.4). R446: A Blank device runs no image from
flash: its boot stays in STAGE 1 (the model's choice, log 89). -/
def Obligations.ResetsLeaveAndBootStarts : Prop :=
  ∀ (rq : Rq) (key : BitVec 16) (strap : BitVec 2) (monitor : Bool) (supply : Fin 6) (okA okB : Option Bool) (ms : BitVec 16) (cfg : List (Word × Word))
    (partners : List (List Byte × BitVec 64 × Word)) (dev prod : BitVec 256) (s : State),
    let cleared := fun (cause : Nat) (t : State) => t.f SYS.RSTSTAT_CAUSE = cause ∧ t.f SYS.BOOTSTAT_STRAP = strap.toNat ∧ t.f SYS.BOOTSTAT_STAGE = 0 ∧
      t.f PLT.LCSTAT_STATE = s.f PLT.LCSTAT_STATE ∧ t.flash = s.flash ∧ t.keyDigests = s.keyDigests ∧ t.pending = s.pending ∧ t.cores = [] ∧ t.items = [] ∧
      t.notices = [] ∧ t.slots = [] ∧ t.powerOff = false ∧ t.lostPower = false ∧ ∀ n, n < 4 → (t.session n).isOpen = false
    let fresh := fun (t : State) => t.mem = [] ∧ t.ecc = [] ∧ ∀ a, a < 0x40000000 ∨ 0x40001000 ≤ a → a < 0x40200000 ∨ 0x40280000 ≤ a → a < 0x40400000 ∨ 0x40404000 ≤ a →
      a ≠ PLT.LCSTAT → t.rd a = (resetWord a).toNat
    let id := rq.id.toNat
    let may := key = 0x5253 ∧ (id = 0x50 ∨ rq.sec = true)
    let lc := s.f PLT.LCSTAT_STATE
    let straps := s.f SYS.BOOTSTAT_STRAP
    let fw := fun (o : Host.Outcome State Fault Refusal) (slot : Nat) (fb : Bool) => isNext o (fun t => t.f SYS.BOOTSTAT_STAGE = 4 ∧ t.on SYS.BOOTSTAT_READY = true ∧
      t.f SYS.BOOTSTAT_SLOT = slot ∧ t.on SYS.BOOTSTAT_FALLBACK = fb ∧ t.on MBX.LOCK_BIND_LOCK = true ∧ t.f SYS.BOOTSTAT_MS = ms.toNat)
    let boot := exec (.boot okA okB ms cfg partners) s
    let recovers := isNext boot (fun t => t.f SYS.BOOTSTAT_STAGE = 5 ∧ t.on MBX.LOCK_BIND_LOCK = true ∧
      ∀ n, n < 4 → t.f (MBX.CHCFG_SENDER (2 * n)) = 1 + n / 2 ∧ t.f (MBX.CHCFG_RECEIVER (2 * n)) = 8 ∧ t.f (MBX.CHCFG_RECEIVER (2 * n + 1)) = 1 + n / 2)
    let accepts := fun (o : Option Bool) => ∃ prod, o = some prod ∧ (lc = 1 ∨ (lc = 2 ∧ prod = true) ∨ (lc = 3 ∧ prod = false))
    let good := fun (r : CommitRec) (slot : Nat) => if slot = 0 then accepts okA ∧ r.digA ≠ 0 else accepts okB ∧ r.digB ≠ 0
    let first := s.bootable 0 = true ∧ straps ≠ 3 ∧ lc ≠ 0
    let hosted := s.bootable 1 = true ∧ straps = 3 ∧ s.memWord 0x101FFFFC = 0x544F4F42
    let prov := fun (p : Option (BitVec 256 × BitVec 256)) => exec (.hostBootImage okA ms cfg p) s
    isNext (exec (.powerOnReset strap) s) (fun t => cleared 1 t ∧ fresh t) ∧ isNext (exec (.porst strap) s) (fun t => cleared 2 t ∧ fresh t) ∧
    (isKbDbg id = true → may → s.refA = true ∨ s.refB = true → isNext (exec (.warmReset rq key strap) s) (fun t => t.resp = ⟨0, []⟩ ∧ cleared (if id = 0x50 then 5 else 4) t ∧
      t.mem = s.mem ∧ t.ecc = s.ecc.filter (fun e => !eccSlot e.1) ∧ t.rd SYS.CLKSTAT = s.rd SYS.CLKSTAT ∧ t.f SYS.RSTSTAT_WARM = min (s.f SYS.RSTSTAT_WARM + 1) 0xFFFF ∧
      t.out = s.out ++ [.pin "RESET_OUT_N" 0, .pin "RESET_OUT_N" 1, .pin "XSPI_RST_N" 0, .pin "XSPI_RST_N" 1])) ∧
    (isKbDbg id = true → may → s.refA = false → s.refB = false → isNext (exec (.warmReset rq key strap) s) (fun t =>
      cleared (if id = 0x50 then 5 else 4) t ∧ t.mem = s.mem ∧ t.noRef = true ∧ t.out = s.out ++ [.pin "RESET_OUT_N" 0, .pin "XSPI_RST_N" 0, .pin "XSPI_RST_N" 1])) ∧
    (isKbDbg id = true → ¬may → exec (.warmReset rq key strap) s = .next (s.answer 0)) ∧
    (isKbDbg id = false → exec (.warmReset rq key strap) s = .next (s.answer 2)) ∧
    (s.lostPower = true → isNext (exec (.powerGood strap) s) (fun t => cleared 3 t ∧ fresh t ∧ t.on WAKE.OFFCAUSE_VALID = false)) ∧
    (s.lostPower = false → s.powerOff = true → s.offWoken = true → isNext (exec (.powerGood strap) s) (fun t => cleared 3 t ∧ fresh t ∧
      t.rd WAKE.OFFCAUSE = s.rd WAKE.OFFCAUSE ∧ (s.refA = true ∨ s.refB = true → t.out = s.out ++ [.pin "RESET_OUT_N" 1, .pin "XSPI_RST_N" 0, .pin "XSPI_RST_N" 1]))) ∧
    (s.lostPower = false → s.powerOff = false ∨ s.offWoken = false → exec (.powerGood strap) s = .next s) ∧
    (s.offline = true → exec (.powerGoodLoss monitor supply) s = .next s) ∧
    (s.offline = false → isNext (exec (.powerGoodLoss monitor supply) s) (fun t => t.lostPower = true ∧ fresh t)) ∧
    (s.bootable 0 = false → boot = .next s) ∧
    (s.bootable 0 = true → straps = 3 → isNext boot (fun t => t.f SYS.BOOTSTAT_STAGE = 1 ∧ t.rd (PCI.B2BASE 0 0) = 0 ∧ t.rd (PCI.B2LIM 0 0) = 0x1FF000 ∧
      t.rd (PCI.B2ATTR 0 0) = 7)) ∧
    (s.bootable 0 = true → straps ≠ 3 → lc = 0 → isNext boot (fun t => t.f SYS.BOOTSTAT_STAGE = 1 ∧ t.on SYS.BOOTSTAT_READY = s.on SYS.BOOTSTAT_READY ∧
      t.on MBX.LOCK_BIND_LOCK = s.on MBX.LOCK_BIND_LOCK)) ∧
    (first → s.latestRecord = none → recovers) ∧
    (∀ r, first → s.latestRecord = some r → r.active < 2 → (good r r.active → fw boot r.active false) ∧
      (¬good r r.active → r.prevOk = true → good r (1 - r.active) → fw boot (1 - r.active) true) ∧
      (¬good r r.active → r.prevOk = false ∨ ¬good r (1 - r.active) → recovers)) ∧
    (∀ p, ¬hosted → prov p = .next s) ∧
    (∀ p, hosted → accepts okA → fw (prov p) 0 false) ∧
    (∀ p, hosted → lc ≠ 0 → ¬accepts okA → prov p = .next (s.putMem 0x101FFFFC [0, 0, 0, 0])) ∧
    (hosted → lc = 0 → prov none = .next (s.putMem 0x101FFFFC [0, 0, 0, 0])) ∧
    (hosted → lc = 0 → okA.isSome = true → s.keyDigests = 0 → s.on PLT.LCSTAT_BUSY = false → isNext (prov (some (dev, prod))) (fun t =>
      t.keyDigests = dev.toNat + prod.toNat * 2 ^ 256 ∧ t.lcTarget = some 1 ∧ t.on PLT.LCSTAT_BUSY = true)) ∧
    (hosted → lc = 0 → okA = none ∨ s.keyDigests ≠ 0 ∨ s.on PLT.LCSTAT_BUSY = true →
      prov (some (dev, prod)) = .next (s.putMem 0x101FFFFC [0, 0, 0, 0]))

/-! ## Observability, drafts, activation, discovery (chapter 19) -/

/-- R508–R512, Tables 19.1, 19.2: epochs and impressions. A boundary latches the counters and monitors of the epoch into an impression and starts the
next; while the last impression is still written it waits; in Hold there is none. A forced boundary and a change of the schedule's settings mark the
epoch; a written impression fires its sources and releases a boundary that waited. R518–R521: REVERT, ACTIVATION_ARM and DRAFT_COPY_WRITE complete and
leave the epoch as it is; ACTIVATION_BOUNDARY takes the draft of an armed activation that is due. -/
def Obligations.EpochsAreLatchedAndWritten : Prop :=
  ∀ (rq : Rq) (i : Fin 4) (v : Word) (s : State),
    let kd := isKbDbg rq.id.toNat = true
    let n := s.f OBS.EPCFG_TT
    let per := s.f OBS.EPPER_PER
    let due := s.epValid = true ∧ (s.epMode = 1 → s.ttMarks n = true ∧ per ≠ 0 ∧ s.ttNumber n s.now % per = 0)
    let e := s.f OBS.EPSTAT_EPOCH
    let clock := fun (w : State) => (List.range 16).foldl State.coreClock w
    let latched := fun (a : State) (t : State) => t.obs.cnt = [] ∧ t.obs.mon = [] ∧ t.obs.flags = 0 ∧ t.obs.deferred = false ∧ t.f OBS.EPSTAT_EPOCH = (e + 1) % 2 ^ 32 ∧
      t.obs.startNs = s.nowNs ∧ t.obs.startSec = s.nowSec % 2 ^ 32 ∧ ∃ x, t.obs.shadow = some x ∧ x.epoch = e ∧ x.cnt = a.obs.cnt ∧ x.mon = a.obs.mon ∧
      x.flags = a.obs.flags ∧ x.startNs = s.obs.startNs ∧ x.endNs = s.nowNs ∧ x.endSec = s.nowSec % 2 ^ 32
    let waits := fun (t : State) => t.obs.deferred = true ∧ t.obs.shadow = s.obs.shadow ∧ t.f OBS.EPSTAT_EPOCH = e ∧ bitOf t.obs.flags 5 = true
    let hold := s.tclkOff = true
    (¬due → exec .epochBoundary s = .next s) ∧
    (due → hold → exec .epochBoundary s = .next s) ∧
    (due → ¬hold → s.obs.shadow = none → isNext (exec .epochBoundary s) (latched (clock s))) ∧
    (due → ¬hold → s.obs.shadow ≠ none → isNext (exec .epochBoundary s) waits) ∧
    (kd → ¬hold → s.obs.shadow = none → isNext (exec (.epochForce rq) s) (fun t => t.resp = ⟨0, []⟩ ∧ latched (clock (s.epFlag 4)) t ∧ t.f OBS.EPCFG_MODE = s.f OBS.EPCFG_MODE) ∧
      isNext (exec (.epochConfigWrite rq i v) s) (fun t => t.resp = ⟨0, []⟩ ∧ latched (clock (s.epFlag 4)) t ∧
        (i = 1 → t.f OBS.EPPER_PER = v.toNat % 2 ^ 26) ∧ (i = 3 → t.f OBS.EPBASESEC_SEC = v.toNat))) ∧
    (kd → ¬hold → s.obs.shadow ≠ none → isNext (exec (.epochForce rq) s) (fun t => t.resp = ⟨0, []⟩ ∧ waits t) ∧
      isNext (exec (.epochConfigWrite rq i v) s) (fun t => t.resp = ⟨0, []⟩ ∧ waits t)) ∧
    (¬kd → exec (.epochForce rq) s = .next (s.answer 2) ∧ exec (.epochConfigWrite rq i v) s = .next (s.answer 2)) ∧
    (s.obs.shadow = none → exec .impressionWritten s = .next s) ∧
    (hold → exec .impressionWritten s = .next s) ∧
    (∀ x, ¬hold → s.obs.shadow = some x → ∃ u : State, exec .impressionWritten s = .next (((u.fireBoth 0x41).kevt 14).postEvent 0x8C80 [x.epoch]) ∧
      tabGet u.obs.imp x (x.epoch % 2) = x ∧ (s.obs.deferred = false → u.obs.shadow = none ∧ u.regs = s.regs) ∧
      (s.obs.deferred = true → u.f OBS.EPSTAT_EPOCH = (e + 1) % 2 ^ 32 ∧ u.obs.deferred = false ∧ u.obs.shadow.isSome = true)) ∧
    isNext (exec .queueLengthSample s) (fun t => { t with obs := s.obs } = s ∧
      (s.obs.cfg = [] → t = s)) ∧
    (kd → isNext (exec (.revert rq) s) (fun t => t.resp = ⟨0, []⟩ ∧ t.obs = s.obs ∧ (s.on OBS.ACTSTAT_ARMED = false → t.draft = []))) ∧
    (kd → isNext (exec (.activationArm rq) s) (fun t => t.resp = ⟨0, []⟩ ∧ t.obs = s.obs ∧ (s.on OBS.ACTSTAT_ARMED = true → t.actAt = s.actAt))) ∧
    (exec .activationBoundary s = .next (if s.refBoundary (s.f OBS.ACTCTL_REFTT) = false ∧ s.on OBS.ACTSTAT_ARMED = true ∧ s.actAt ≤ s.now
      then (s.takeDraft (fun x => (rulOf x).isNone)).activationDone else s)) ∧
    (∀ rq a, rq.id = 8 → s.on OBS.ACTCTL_DMODE = true → isDraftWord a.toNat = true → s.pathOpen 0xB3 rq a.toNat 4 true = true →
      (s.carry 0xB3 8 a.toNat 4 true).busCode rq a.toNat 4 = 0 → isNext (exec (.draftCopyWrite rq a v) s) (fun t => t.resp = ⟨0, []⟩ ∧ t.obs = s.obs))

/-- R518–R521: drafts and activation: DRAFT_COPY_WRITE, REVERT, ACTIVATION_ARM and ACTIVATION_BOUNDARY complete so. While DMODE is 1 a Keyblock write of
a word that has a draft copy, with credits on its way, lands in the copy alone; it is the Keyblock's register write (R11); REVERT drops the
draft unless an activation is armed; ARM arms an instant that lies ahead, or sets LATE; at the boundary of an armed activation the words that belong
to no Ruling instance are taken, and when nothing waits any more ACTSTAT says DONE and RUNEPOCH takes the new epoch. R508–R512: an
epoch boundary with a free shadow latches, its impression is written, and a queue-length sample changes nothing but the monitors. -/
def Obligations.DraftsAreWrittenRevertedAndActivated : Prop :=
  ∀ (rq : Rq) (addr val : Word) (s : State),
    let kd := isKbDbg rq.id.toNat = true
    let a := addr.toNat
    let at_ := s.fullTime (s.f OBS.ACTNS_NS) (s.f OBS.ACTSEC_SEC)
    let armed := s.on OBS.ACTSTAT_ARMED = true
    let due := armed ∧ s.actAt ≤ s.now
    let byRef := s.refBoundary (s.f OBS.ACTCTL_REFTT) = true
    let drafted := s.draftWrite a val.toNat
    let reach := s.carry 0xB3 8 a 4 true
    let took := s.takeDraft (fun x => (rulOf x).isNone)
    let done := fun (u : State) => u.on OBS.ACTSTAT_ARMED = true ∧ u.actAt ≤ u.now ∧ u.draftOpen = false ∧ u.f LPE.STAT_NPEND = 0 ∧
      ∀ p, p < 22 → u.on (SW.STCFG_PEND p) = false
    (rq.id = 8 → s.on OBS.ACTCTL_DMODE = true → isDraftWord a = true → s.pathOpen 0xB3 rq a 4 true = true → reach.busCode rq a 4 = 0 →
      exec (.draftCopyWrite rq addr val) s = .next (((reach.wakeDoze a).draftWrite a val.toNat).answer 0)) ∧
    (exec (.draftCopyWrite rq addr val) s = exec (.registerWrite 0xB3 rq addr val) s) ∧
    (∀ d, regAt a = some d → drafted.draftOf a = wordWrite a d.flds (s.draftOf a) val.toNat % 2 ^ 32 ∧
      { drafted with draft := s.draft } = s ∧ ∀ x, x ≠ a → drafted.draftOf x = s.draftOf x) ∧
    (kd → armed → isNext (exec (.revert rq) s) (fun t => t.resp = ⟨0, []⟩ ∧ t.draft = s.draft ∧ t.lpMarks = s.lpMarks ∧ t.stMark = s.stMark)) ∧
    (kd → ¬armed → isNext (exec (.revert rq) s) (fun t => t.resp = ⟨0, []⟩ ∧ t.draft = [] ∧ t.lpMarks = [] ∧ t.stMark = [] ∧ t.f LPE.STAT_NPEND = 0)) ∧
    (kd → ¬armed → s.now < at_ → isNext (exec (.activationArm rq) s) (fun t => t.resp = ⟨0, []⟩ ∧ t.on OBS.ACTSTAT_ARMED = true ∧ t.actAt = at_ ∧ t.stMark = [] ∧
      t.draft = s.draft ∧ ∀ p ∈ s.stMark, p < 22 → t.on (SW.STCFG_PEND p) = true)) ∧
    (kd → ¬armed → at_ ≤ s.now → isNext (exec (.activationArm rq) s) (fun t => t.resp = ⟨0, []⟩ ∧ t.on OBS.ACTSTAT_ARMED = false ∧ t.on OBS.ACTSTAT_LATE = true ∧
      t.draft = s.draft)) ∧
    (kd → armed → isNext (exec (.activationArm rq) s) (fun t => t.resp = ⟨0, []⟩ ∧ t.on OBS.ACTSTAT_ARMED = true ∧ t.actAt = s.actAt)) ∧
    (¬kd → exec (.revert rq) s = .next (s.answer 2) ∧ exec (.activationArm rq) s = .next (s.answer 2)) ∧
    (byRef ∨ ¬due → exec .activationBoundary s = .next s) ∧
    (¬byRef → due → (∀ e ∈ took.draft, (rulOf e.1).isSome = true ∧ e ∈ s.draft) ∧ exec .activationBoundary s = .next took.activationDone) ∧
    (¬done s → s.activationDone = s) ∧
    (done s → ∃ u : State, s.activationDone = u.postEvent 0x8D80 [s.f OBS.ACTEPOCH_E] ∧ u.on OBS.ACTSTAT_DONE = true ∧ u.on OBS.ACTSTAT_ARMED = false ∧
      u.f OBS.RUNEPOCH_E = s.f OBS.ACTEPOCH_E ∧ u.draft = []) ∧
    (s.obs.shadow = none → s.tclkOff = false →
      let boundary := fun (t : State) => t.f OBS.EPSTAT_EPOCH = (s.f OBS.EPSTAT_EPOCH + 1) % 2 ^ 32 ∧ t.obs.shadow.isSome = true ∧ t.obs.cnt = []
      (s.epValid = true → s.epMode = 2 → isNext (exec .epochBoundary s) boundary) ∧
      (kd → isNext (exec (.epochForce rq) s) (fun t => t.resp = ⟨0, []⟩ ∧ boundary t)) ∧
      (kd → ∀ i : Fin 4, isNext (exec (.epochConfigWrite rq i val) s) (fun t => t.resp = ⟨0, []⟩ ∧ boundary t))) ∧
    (∀ x, s.tclkOff = false → s.obs.shadow = some x → ∃ u : State,
      exec .impressionWritten s = .next (((u.fireBoth 0x41).kevt 14).postEvent 0x8C80 [x.epoch]) ∧ tabGet u.obs.imp x (x.epoch % 2) = x) ∧
    isNext (exec .queueLengthSample s) (fun t => { t with obs := s.obs } = s)

/-- R523–R525, Table 19.8: discovery. A port that is UP sends the device's LLDPDU from the Keyblock; an LLDPDU received enters or renews its
neighbour, with a TTL of 0 removes it; an entry whose TTL ends is removed; a partner whose epoch still differs is reported. -/
def Obligations.NeighboursAreFoundAndAged : Prop :=
  ∀ (p : Fin 16) (ix : Fin 512) (c : List Byte) (du : List Byte) (chassis port ttl : List Byte) (rest : List (Nat × List Byte)) (s : State),
    let mac := beBytes 6 Config.baseMac.toNat
    let sent := [0x01, 0x80, 0xC2, 0, 0, 0x0E] ++ mac ++ [0x88, 0xCC] ++ s.lldpdu p
    let known := s.neigh.findIdx? (fun e => e.src == 0 && e.via == p.val && e.addr == chassis)
    let z := zengeiqTlv rest
    let ms := s.ticks / 500000
    let life := beNat (ttl.take 2)
    let du3 := tlvs du 256 = (1, chassis) :: (2, port) :: (3, ttl) :: rest
    let now := fun (since : Nat) => (⟨0, p, chassis, z, life, since, ms⟩ : Neigh)
    (s.kbUp = false ∨ s.f (PORT.STAT_STATE p) ≠ 3 → exec (.lldpSend p) s = .next s) ∧
    (s.kbUp = true → s.f (PORT.STAT_STATE p) = 3 → ∃ fr : Frame, exec (.lldpSend p) s = .next (s.pipeline fr (some (2 ^ p.val)) (some 0)).2 ∧ fr.bytes = sent ∧
      fr.port = 21 ∧ fr.len = max sent.length 60 + 4) ∧
    (s.kbUp = false → exec (.lldpReceive p c) s = .next s) ∧
    (s.kbUp = true → du3 → life = 0 → exec (.lldpReceive p du) s = .next (match known with
      | some i => ({ s with neigh := s.neigh.eraseIdx i } : State).postEvent 0x8E80 [i, 1]
      | none => s)) ∧
    (∀ i old, s.kbUp = true → du3 → life ≠ 0 → known = some i → s.neigh[i]? = some old → isNext (exec (.lldpReceive p du) s) (fun t =>
      t.neigh = s.neigh.set i (now old.since))) ∧
    (s.kbUp = true → du3 → life ≠ 0 → known = none → isNext (exec (.lldpReceive p du) s) (fun t =>
      (s.neigh.length < 512 → t.neigh = s.neigh ++ [now ms]) ∧ (512 ≤ s.neigh.length → t.neigh = s.neigh ∧ t.neighLost = s.neighLost + 1))) ∧
    (s.neigh[ix.val]? = none → exec (.neighbourAgeOut ix) s = .next s ∧ exec (.epochMismatchTimeout ix) s = .next s) ∧
    (∀ e, s.neigh[ix.val]? = some e → exec (.neighbourAgeOut ix) s =
      .next (if s.kbUp = true ∧ e.src = 0 ∧ e.seen + 1000 * e.ttl ≤ ms then ({ s with neigh := s.neigh.eraseIdx ix } : State).postEvent 0x8E80 [ix, 1] else s)) ∧
    (∀ e seal_ epoch state want, s.neigh[ix.val]? = some e → e.tlv = some (seal_, epoch, state) → s.expects e.addr = some want →
      exec (.epochMismatchTimeout ix) s = .next (if s.kbUp = true ∧ max s.doneAt e.since + 25000 < ms ∧ epoch ≠ s.f OBS.RUNEPOCH_E then s.postEvent 0x8D81 [e.via, seal_, epoch] else s))
end

