-- ==== Sys2Proof/Laws/BitClock.lean ====
section
/-! SUPPORT. The closed form of the bit clock (R175) is the divider that the rule writes out: one BCLK edge of `divEdge` takes the prescaler
and the accumulator of `k` edges to those of `k + 1`, with a lead tick exactly where the count of lead ticks rises. -/
namespace Sys2Proof.Machine

/-- The accumulator and the lead ticks after one more step of 256. -/
theorem acc_step (t d : Nat) (h : 256 ≤ d) :
    (t + 256) % d = (if t % d + 256 ≥ d then t % d + 256 - d else t % d + 256) ∧
      (t + 256) / d = t / d + if t % d + 256 ≥ d then 1 else 0 := by
  have hd : 0 < d := by omega
  have e := Nat.div_add_mod t d
  have l := Nat.mod_lt t hd
  split
  · have h1 : t + 256 = (t % d + 256 - d) + d * (t / d + 1) := by rw [Nat.mul_add]; omega
    refine ⟨?_, ?_⟩
    · rw [h1, Nat.add_mul_mod_self_left]; exact Nat.mod_eq_of_lt (by omega)
    · rw [h1, Nat.add_mul_div_left _ _ hd, Nat.div_eq_of_lt (by omega)]; omega
  · have h1 : t + 256 = (t % d + 256) + d * (t / d) := by omega
    refine ⟨?_, ?_⟩
    · rw [h1, Nat.add_mul_mod_self_left]; exact Nat.mod_eq_of_lt (by omega)
    · rw [h1, Nat.add_mul_div_left _ _ hd, Nat.div_eq_of_lt (by omega)]; omega

/-- One edge of the divider from the closed form of `k` edges gives the closed form of `k + 1` edges (R175). -/
theorem divEdge_closed (d p k : Nat) (mid : Bool) (h : 256 ≤ d) :
    (divEdge d p (k % 2 ^ p) (256 * (k / 2 ^ p) % d) mid).1 = (k + 1) % 2 ^ p ∧
      (divEdge d p (k % 2 ^ p) (256 * (k / 2 ^ p) % d) mid).2.1 = 256 * ((k + 1) / 2 ^ p) % d ∧
      256 * ((k + 1) / 2 ^ p) / d
        = 256 * (k / 2 ^ p) / d + b2n (divEdge d p (k % 2 ^ p) (256 * (k / 2 ^ p) % d) mid).2.2.2.1 := by
  unfold divEdge
  have hp : 0 < 2 ^ p := Nat.two_pow_pos p
  generalize 2 ^ p = q at hp ⊢
  have e := Nat.div_add_mod k q
  have l := Nat.mod_lt k hp
  split
  next g =>
    have h1 : k + 1 = (k % q + 1) + q * (k / q) := by omega
    have hq : (k + 1) / q = k / q := by
      rw [h1, Nat.add_mul_div_left _ _ hp, Nat.div_eq_of_lt g]; omega
    have hm : (k + 1) % q = k % q + 1 := by
      rw [h1, Nat.add_mul_mod_self_left, Nat.mod_eq_of_lt g]
    simp [hq, hm, b2n]
  next g =>
    have h1 : k + 1 = 0 + q * (k / q + 1) := by rw [Nat.mul_add]; omega
    have hq : (k + 1) / q = k / q + 1 := by
      rw [h1, Nat.add_mul_div_left _ _ hp, Nat.zero_div]; omega
    have hm : (k + 1) % q = 0 := by
      rw [h1, Nat.add_mul_mod_self_left, Nat.zero_mod]
    have s := acc_step (256 * (k / q)) d h
    have m1 : 256 * (k / q + 1) = 256 * (k / q) + 256 := by omega
    rw [hq, hm, m1, s.1, s.2]
    split
    · simp [b2n]
    · split <;> simp [b2n]

end Sys2Proof.Machine
end

