-- ==== Sys2Proof/Laws/Cells.lean ====
section
/-! SUPPORT. Laws of the sparse tables: a read after a write of the same key gives the value written, a write leaves every other key
alone, and every operation keeps the canonical form. -/
namespace Sys2Proof.Machine

theorem tabGet_tabPut {α : Type} (m : List (Nat × α)) (d v : α) (k j : Nat) :
    tabGet (tabPut m k v) d j = if j = k then v else tabGet m d j := by
  induction m with
  | nil => simp [tabPut, tabGet, eq_comm]
  | cons h t ih =>
    obtain ⟨x, w⟩ := h
    unfold tabPut
    split
    · simp [tabGet, eq_comm]
    · split
      · subst_vars
        by_cases hj : j = x
        · simp [tabGet, hj]
        · simp [tabGet, hj, Ne.symm hj]
      · simp only [tabGet, ih]
        split <;> split <;> simp_all

theorem tabGet_tabDel {α : Type} (m : List (Nat × α)) (d : α) (k j : Nat) :
    tabGet (tabDel m k) d j = if j = k then d else tabGet m d j := by
  induction m with
  | nil => simp [tabDel, tabGet]
  | cons h t ih =>
    obtain ⟨x, w⟩ := h
    by_cases hk : k = x
    · subst hk
      by_cases hj : j = k
      · subst hj; simpa [tabDel] using ih
      · simp [tabDel, tabGet, ih, hj, Ne.symm hj]
    · by_cases hj : x = j
      · subst hj
        simp [tabDel, tabGet, hk, Ne.symm hk]
      · simp [tabDel, tabGet, hk, hj, ih]

theorem tabGet_cellPut {α : Type} [DecidableEq α] (m : List (Nat × α)) (d e v : α) (k j : Nat) :
    tabGet (cellPut m d k v) e j = if j = k then (if v = d then e else v) else tabGet m e j := by
  unfold cellPut
  split <;> simp_all [tabGet_tabPut, tabGet_tabDel]

/-- A read after a write of the same key. -/
@[simp] theorem tabGet_tabPut_self {α : Type} (m : List (Nat × α)) (d v : α) (k : Nat) :
    tabGet (tabPut m k v) d k = v := by simp [tabGet_tabPut]

/-- A write leaves another key alone. -/
theorem tabGet_tabPut_ne {α : Type} (m : List (Nat × α)) (d v : α) {k j : Nat} (h : j ≠ k) :
    tabGet (tabPut m k v) d j = tabGet m d j := by simp [tabGet_tabPut, h]

@[simp] theorem tabGet_tabDel_self {α : Type} (m : List (Nat × α)) (d : α) (k : Nat) :
    tabGet (tabDel m k) d k = d := by simp [tabGet_tabDel]

/-- A read after a write of the same key where the default is what an unlisted key reads as. -/
@[simp] theorem tabGet_cellPut_self {α : Type} [DecidableEq α] (m : List (Nat × α)) (d v : α) (k : Nat) :
    tabGet (cellPut m d k v) d k = v := by
  simp only [tabGet_cellPut, if_true]; split <;> simp_all

theorem keysAbove_mono {α : Type} {a b : Option Nat} {m : List (Nat × α)}
    (h : keysAbove b m = true) (hab : ∀ x, a = some x → ∃ y, b = some y ∧ x ≤ y) : keysAbove a m = true := by
  cases m with
  | nil => rfl
  | cons e t =>
    obtain ⟨x, w⟩ := e
    cases a with
    | none => simp_all [keysAbove]
    | some p =>
      obtain ⟨y, rfl, hy⟩ := hab p rfl
      simp only [keysAbove, Bool.and_eq_true, decide_eq_true_eq] at h ⊢
      exact ⟨by omega, h.2⟩

theorem keysAbove_tabPut {α : Type} (lo : Option Nat) (m : List (Nat × α)) (k : Nat) (v : α)
    (h : keysAbove lo m = true) (hk : ∀ l, lo = some l → l < k) : keysAbove lo (tabPut m k v) = true := by
  induction m generalizing lo with
  | nil => cases lo <;> simp_all [tabPut, keysAbove]
  | cons e t ih =>
    obtain ⟨x, w⟩ := e
    simp only [keysAbove, Bool.and_eq_true] at h
    unfold tabPut
    split
    · rename_i hx
      simp only [keysAbove, Bool.and_eq_true, decide_eq_true_eq]
      exact ⟨by cases lo <;> simp_all, hx, h.2⟩
    · split
      · subst_vars; simp only [keysAbove, Bool.and_eq_true]; exact h
      · simp only [keysAbove, Bool.and_eq_true]
        exact ⟨h.1, ih _ h.2 (by intro l hl; cases hl; omega)⟩

theorem keysAbove_tabDel {α : Type} (lo : Option Nat) (m : List (Nat × α)) (k : Nat)
    (h : keysAbove lo m = true) : keysAbove lo (tabDel m k) = true := by
  induction m generalizing lo with
  | nil => rfl
  | cons e t ih =>
    obtain ⟨x, w⟩ := e
    simp only [keysAbove, Bool.and_eq_true] at h
    unfold tabDel
    split
    · refine ih _ (keysAbove_mono h.2 ?_)
      intro l hl; subst hl
      exact ⟨x, rfl, by have := h.1; simp at this; omega⟩
    · simp only [keysAbove, Bool.and_eq_true]; exact ⟨h.1, ih _ h.2⟩

theorem noDefault_tabPut {α : Type} [DecidableEq α] (d : Nat → α) (m : List (Nat × α)) (k : Nat) (v : α)
    (h : noDefault d m = true) (hv : v ≠ d k) : noDefault d (tabPut m k v) = true := by
  induction m with
  | nil => simp [tabPut, noDefault, hv]
  | cons e t ih =>
    obtain ⟨x, w⟩ := e
    simp only [noDefault, Bool.and_eq_true] at h
    unfold tabPut
    split
    · simp_all [noDefault]
    · split <;> simp_all [noDefault]

theorem noDefault_tabDel {α : Type} [DecidableEq α] (d : Nat → α) (m : List (Nat × α)) (k : Nat)
    (h : noDefault d m = true) : noDefault d (tabDel m k) = true := by
  induction m with
  | nil => rfl
  | cons e t ih =>
    obtain ⟨x, w⟩ := e
    simp only [noDefault, Bool.and_eq_true] at h
    unfold tabDel
    split <;> simp_all [noDefault]

/-- A write keeps the canonical form. -/
theorem cellsWf_cellPut {α : Type} [DecidableEq α] (d : Nat → α) (m : List (Nat × α)) (k : Nat) (v : α)
    (h : cellsWf d m = true) : cellsWf d (cellPut m (d k) k v) = true := by
  simp only [cellsWf, Bool.and_eq_true] at h ⊢
  unfold cellPut
  split
  · exact ⟨keysAbove_tabDel _ _ _ h.1, noDefault_tabDel _ _ _ h.2⟩
  · exact ⟨keysAbove_tabPut _ _ _ _ h.1 (by simp), noDefault_tabPut _ _ _ _ h.2 ‹_›⟩

theorem keysAbove_filter {α : Type} (p : Nat × α → Bool) (lo : Option Nat) (m : List (Nat × α))
    (h : keysAbove lo m = true) : keysAbove lo (m.filter p) = true := by
  induction m generalizing lo with
  | nil => rfl
  | cons e t ih =>
    obtain ⟨x, w⟩ := e
    simp only [keysAbove, Bool.and_eq_true] at h
    by_cases hp : p (x, w)
    · simp only [List.filter_cons, hp, if_true, keysAbove, Bool.and_eq_true]; exact ⟨h.1, ih _ h.2⟩
    · simp only [List.filter_cons, hp, Bool.false_eq_true, if_false]
      refine ih _ (keysAbove_mono h.2 ?_)
      intro l hl; subst hl
      exact ⟨x, rfl, by have := h.1; simp at this; omega⟩

theorem noDefault_filter {α : Type} [DecidableEq α] (d : Nat → α) (p : Nat × α → Bool) (m : List (Nat × α))
    (h : noDefault d m = true) : noDefault d (m.filter p) = true := by
  induction m with
  | nil => rfl
  | cons e t ih =>
    simp only [noDefault, Bool.and_eq_true] at h
    by_cases hp : p e <;> simp [hp, noDefault, h, ih h.2]

/-- Dropping entries keeps the canonical form. -/
theorem cellsWf_filter {α : Type} [DecidableEq α] (d : Nat → α) (p : Nat × α → Bool) (m : List (Nat × α))
    (h : cellsWf d m = true) : cellsWf d (m.filter p) = true := by
  simp only [cellsWf, Bool.and_eq_true] at h ⊢
  exact ⟨keysAbove_filter _ _ _ h.1, noDefault_filter _ _ _ h.2⟩

/-! ## Bits -/

/-- A field reads as what was put into it. -/
@[simp] theorem bitsOf_setBits (x lo w v : Nat) : bitsOf (setBits x lo w v) lo w = v % 2 ^ w := by
  unfold bitsOf setBits
  have h1 : x % 2 ^ lo < 2 ^ lo := Nat.mod_lt _ (Nat.two_pow_pos _)
  have : (x % 2 ^ lo + v % 2 ^ w * 2 ^ lo + x / 2 ^ (lo + w) * 2 ^ (lo + w)) / 2 ^ lo
      = v % 2 ^ w + x / 2 ^ (lo + w) * 2 ^ w := by
    rw [Nat.pow_add, show x % 2 ^ lo + v % 2 ^ w * 2 ^ lo + x / (2 ^ lo * 2 ^ w) * (2 ^ lo * 2 ^ w)
      = x % 2 ^ lo + (v % 2 ^ w + x / (2 ^ lo * 2 ^ w) * 2 ^ w) * 2 ^ lo by ring,
      Nat.add_mul_div_right _ _ (Nat.two_pow_pos _), Nat.div_eq_of_lt h1, Nat.zero_add]
  rw [this, Nat.add_mul_mod_self_right, Nat.mod_mod]

theorem setBits_testBit (x lo w v i : Nat) :
    (setBits x lo w v).testBit i = if lo ≤ i ∧ i < lo + w then v.testBit (i - lo) else x.testBit i := by
  unfold setBits
  have h1 : x % 2 ^ lo < 2 ^ lo := Nat.mod_lt _ (Nat.two_pow_pos _)
  have h2 : v % 2 ^ w < 2 ^ w := Nat.mod_lt _ (Nat.two_pow_pos _)
  have e : x % 2 ^ lo + v % 2 ^ w * 2 ^ lo + x / 2 ^ (lo + w) * 2 ^ (lo + w)
      = 2 ^ (lo + w) * (x / 2 ^ (lo + w)) + (2 ^ lo * (v % 2 ^ w) + x % 2 ^ lo) := by ring
  have hlt : 2 ^ lo * (v % 2 ^ w) + x % 2 ^ lo < 2 ^ (lo + w) := by
    rw [Nat.pow_add]
    calc 2 ^ lo * (v % 2 ^ w) + x % 2 ^ lo < 2 ^ lo * (v % 2 ^ w) + 2 ^ lo := by omega
      _ = 2 ^ lo * (v % 2 ^ w + 1) := by ring
      _ ≤ 2 ^ lo * 2 ^ w := Nat.mul_le_mul_left _ (by omega)
  rw [e, Nat.testBit_two_pow_mul_add _ hlt, Nat.testBit_two_pow_mul_add _ h1]
  simp only [Nat.testBit_div_two_pow, Nat.testBit_mod_two_pow]
  by_cases hl : i < lo
  · have : i < lo + w := by omega
    have : ¬ (lo ≤ i ∧ i < lo + w) := by omega
    simp [*]
  · by_cases hw : i < lo + w
    · have : lo ≤ i ∧ i < lo + w := by omega
      have : i - lo < w := by omega
      simp [*]
    · have : ¬ (lo ≤ i ∧ i < lo + w) := by omega
      have : i - (lo + w) + (lo + w) = i := by omega
      simp [*]

theorem bitsOf_testBit (x lo w i : Nat) : (bitsOf x lo w).testBit i = (decide (i < w) && x.testBit (i + lo)) := by
  unfold bitsOf
  simp [Nat.testBit_mod_two_pow, Nat.testBit_div_two_pow]

/-- A field apart from the one written keeps its value. -/
theorem bitsOf_setBits_apart (x lo w v a b : Nat) (h : a + b ≤ lo ∨ lo + w ≤ a) :
    bitsOf (setBits x lo w v) a b = bitsOf x a b := by
  apply Nat.eq_of_testBit_eq
  intro i
  simp only [bitsOf_testBit, setBits_testBit]
  by_cases hi : i < b
  · have : ¬ (lo ≤ i + a ∧ i + a < lo + w) := by omega
    simp [hi, this]
  · simp [hi]

/-- Cutting a word to 32 bits keeps the fields of a word. -/
theorem bitsOf_mod_word (x lo w : Nat) (h : lo + w ≤ 32) : bitsOf (x % 2 ^ 32) lo w = bitsOf x lo w := by
  apply Nat.eq_of_testBit_eq
  intro i
  simp only [bitsOf_testBit, Nat.testBit_mod_two_pow]
  by_cases hi : i < w
  · have : i + lo < 32 := by omega
    simp [hi, this]
  · simp [hi]

theorem bitsOf_lt (x lo w : Nat) : bitsOf x lo w < 2 ^ w := Nat.mod_lt _ (Nat.two_pow_pos _)

end Sys2Proof.Machine
end

