-- ==== Sys2Proof/Laws/State.lean ====
section
/-! SUPPORT. Laws of the register operations over State: what a write of a register word or field leaves, one lemma for each field of State,
and what a later read of a register gives. -/
namespace Sys2Proof.Machine

/-! ## What a register write leaves -/

@[simp] theorem State.wr_mem (s : State) (a v : Nat) : (s.wr a v).mem = s.mem := rfl
@[simp] theorem State.wr_hostMem (s : State) (a v : Nat) : (s.wr a v).hostMem = s.hostMem := rfl
@[simp] theorem State.wr_ecc (s : State) (a v : Nat) : (s.wr a v).ecc = s.ecc := rfl
@[simp] theorem State.wr_ticks (s : State) (a v : Nat) : (s.wr a v).ticks = s.ticks := rfl
@[simp] theorem State.wr_time (s : State) (a v : Nat) : (s.wr a v).time = s.time := rfl
@[simp] theorem State.wr_cores (s : State) (a v : Nat) : (s.wr a v).cores = s.cores := rfl
@[simp] theorem State.wr_ckq (s : State) (a v : Nat) : (s.wr a v).ckq = s.ckq := rfl
@[simp] theorem State.wr_credits (s : State) (a v : Nat) : (s.wr a v).credits = s.credits := rfl
@[simp] theorem State.wr_ptrs (s : State) (a v : Nat) : (s.wr a v).ptrs = s.ptrs := rfl
@[simp] theorem State.wr_dieLink (s : State) (a v : Nat) : (s.wr a v).dieLink = s.dieLink := rfl
@[simp] theorem State.wr_slots (s : State) (a v : Nat) : (s.wr a v).slots = s.slots := rfl
@[simp] theorem State.wr_slotRel (s : State) (a v : Nat) : (s.wr a v).slotRel = s.slotRel := rfl
@[simp] theorem State.wr_msix (s : State) (a v : Nat) : (s.wr a v).msix = s.msix := rfl
@[simp] theorem State.wr_pba (s : State) (a v : Nat) : (s.wr a v).pba = s.pba := rfl
@[simp] theorem State.wr_pciCfg (s : State) (a v : Nat) : (s.wr a v).pciCfg = s.pciCfg := rfl
@[simp] theorem State.wr_fnReset (s : State) (a v : Nat) : (s.wr a v).fnReset = s.fnReset := rfl
@[simp] theorem State.wr_sess (s : State) (a v : Nat) : (s.wr a v).sess = s.sess := rfl
@[simp] theorem State.wr_notices (s : State) (a v : Nat) : (s.wr a v).notices = s.notices := rfl
@[simp] theorem State.wr_dbgAttached (s : State) (a v : Nat) : (s.wr a v).dbgAttached = s.dbgAttached := rfl
@[simp] theorem State.wr_resp (s : State) (a v : Nat) : (s.wr a v).resp = s.resp := rfl
@[simp] theorem State.wr_out (s : State) (a v : Nat) : (s.wr a v).out = s.out := rfl
@[simp] theorem State.wr_freeIx (s : State) (a v : Nat) : (s.wr a v).freeIx = s.freeIx := rfl
@[simp] theorem State.wr_openUnit (s : State) (a v : Nat) : (s.wr a v).openUnit = s.openUnit := rfl
@[simp] theorem State.wr_draft (s : State) (a v : Nat) : (s.wr a v).draft = s.draft := rfl
@[simp] theorem State.wr_burin (s : State) (a v : Nat) : (s.wr a v).burin = s.burin := rfl
@[simp] theorem State.wr_syncDue (s : State) (a v : Nat) : (s.wr a v).syncDue = s.syncDue := rfl
@[simp] theorem State.wr_vddio (s : State) (a v : Nat) : (s.wr a v).vddio = s.vddio := rfl
@[simp] theorem State.wr_obs (s : State) (a v : Nat) : (s.wr a v).obs = s.obs := rfl
@[simp] theorem State.wr_slotAt (s : State) (a v : Nat) : (s.wr a v).slotAt = s.slotAt := rfl
@[simp] theorem State.wr_trig (s : State) (a v : Nat) : (s.wr a v).trig = s.trig := rfl
@[simp] theorem State.wr_tioAsk (s : State) (a v : Nat) : (s.wr a v).tioAsk = s.tioAsk := rfl
@[simp] theorem State.wr_mbBase (s : State) (a v : Nat) : (s.wr a v).mbBase = s.mbBase := rfl
@[simp] theorem State.wr_devTick (s : State) (a v : Nat) : (s.wr a v).devTick = s.devTick := rfl
@[simp] theorem State.wr_imgs (s : State) (a v : Nat) : (s.wr a v).imgs = s.imgs := rfl
@[simp] theorem State.wr_leases (s : State) (a v : Nat) : (s.wr a v).leases = s.leases := rfl
@[simp] theorem State.wr_winStage (s : State) (a v : Nat) : (s.wr a v).winStage = s.winStage := rfl
@[simp] theorem State.wr_rot (s : State) (a v : Nat) : (s.wr a v).rot = s.rot := rfl
@[simp] theorem State.wr_lcTarget (s : State) (a v : Nat) : (s.wr a v).lcTarget = s.lcTarget := rfl
@[simp] theorem State.wr_holdWipe (s : State) (a v : Nat) : (s.wr a v).holdWipe = s.holdWipe := rfl
@[simp] theorem State.wr_clearAt (s : State) (a v : Nat) : (s.wr a v).clearAt = s.clearAt := rfl
@[simp] theorem State.wr_rulDone (s : State) (a v : Nat) : (s.wr a v).rulDone = s.rulDone := rfl
@[simp] theorem State.wr_powerOff (s : State) (a v : Nat) : (s.wr a v).powerOff = s.powerOff := rfl
@[simp] theorem State.wr_ports (s : State) (a v : Nat) : (s.wr a v).ports = s.ports := rfl
@[simp] theorem State.wr_queues (s : State) (a v : Nat) : (s.wr a v).queues = s.queues := rfl
@[simp] theorem State.wr_tbl (s : State) (a v : Nat) : (s.wr a v).tbl = s.tbl := rfl
@[simp] theorem State.wr_tblSeen (s : State) (a v : Nat) : (s.wr a v).tblSeen = s.tblSeen := rfl
@[simp] theorem State.wr_dups (s : State) (a v : Nat) : (s.wr a v).dups = s.dups := rfl
@[simp] theorem State.wr_nodes (s : State) (a v : Nat) : (s.wr a v).nodes = s.nodes := rfl
@[simp] theorem State.wr_meters (s : State) (a v : Nat) : (s.wr a v).meters = s.meters := rfl
@[simp] theorem State.wr_redAvg (s : State) (a v : Nat) : (s.wr a v).redAvg = s.redAvg := rfl
@[simp] theorem State.wr_redLfsr (s : State) (a v : Nat) : (s.wr a v).redLfsr = s.redLfsr := rfl
@[simp] theorem State.wr_pairSeq (s : State) (a v : Nat) : (s.wr a v).pairSeq = s.pairSeq := rfl
@[simp] theorem State.wr_gates (s : State) (a v : Nat) : (s.wr a v).gates = s.gates := rfl
@[simp] theorem State.wr_stMark (s : State) (a v : Nat) : (s.wr a v).stMark = s.stMark := rfl
@[simp] theorem State.wr_stFrom (s : State) (a v : Nat) : (s.wr a v).stFrom = s.stFrom := rfl
@[simp] theorem State.wr_ringRel (s : State) (a v : Nat) : (s.wr a v).ringRel = s.ringRel := rfl
@[simp] theorem State.wr_clkStop (s : State) (a v : Nat) : (s.wr a v).clkStop = s.clkStop := rfl
@[simp] theorem State.wr_gd (s : State) (a v : Nat) : (s.wr a v).gd = s.gd := rfl
@[simp] theorem State.wr_rplOk (s : State) (a v : Nat) : (s.wr a v).rplOk = s.rplOk := rfl
@[simp] theorem State.wr_mbRx (s : State) (a v : Nat) : (s.wr a v).mbRx = s.mbRx := rfl
@[simp] theorem State.wr_mbAbort (s : State) (a v : Nat) : (s.wr a v).mbAbort = s.mbAbort := rfl
@[simp] theorem State.wr_mbRecov (s : State) (a v : Nat) : (s.wr a v).mbRecov = s.mbRecov := rfl
@[simp] theorem State.wr_mbPend (s : State) (a v : Nat) : (s.wr a v).mbPend = s.mbPend := rfl
@[simp] theorem State.wr_fsExp (s : State) (a v : Nat) : (s.wr a v).fsExp = s.fsExp := rfl
@[simp] theorem State.wr_fsKick (s : State) (a v : Nat) : (s.wr a v).fsKick = s.fsKick := rfl
@[simp] theorem State.wr_rul (s : State) (a v : Nat) : (s.wr a v).rul = s.rul := rfl
@[simp] theorem State.wr_rulPend (s : State) (a v : Nat) : (s.wr a v).rulPend = s.rulPend := rfl
@[simp] theorem State.wr_actAt (s : State) (a v : Nat) : (s.wr a v).actAt = s.actAt := rfl
@[simp] theorem State.wr_lp (s : State) (a v : Nat) : (s.wr a v).lp = s.lp := rfl
@[simp] theorem State.wr_lpMarks (s : State) (a v : Nat) : (s.wr a v).lpMarks = s.lpMarks := rfl
@[simp] theorem State.wr_lpDue (s : State) (a v : Nat) : (s.wr a v).lpDue = s.lpDue := rfl
@[simp] theorem State.wr_lpTrig (s : State) (a v : Nat) : (s.wr a v).lpTrig = s.lpTrig := rfl
@[simp] theorem State.wr_lpLane (s : State) (a v : Nat) : (s.wr a v).lpLane = s.lpLane := rfl
@[simp] theorem State.wr_lpOut (s : State) (a v : Nat) : (s.wr a v).lpOut = s.lpOut := rfl
@[simp] theorem State.wr_lpDone (s : State) (a v : Nat) : (s.wr a v).lpDone = s.lpDone := rfl
@[simp] theorem State.wr_lpClr (s : State) (a v : Nat) : (s.wr a v).lpClr = s.lpClr := rfl
@[simp] theorem State.wr_tsg (s : State) (a v : Nat) : (s.wr a v).tsg = s.tsg := rfl
@[simp] theorem State.wr_cap (s : State) (a v : Nat) : (s.wr a v).cap = s.cap := rfl
@[simp] theorem State.wr_items (s : State) (a v : Nat) : (s.wr a v).items = s.items := rfl
@[simp] theorem State.wr_itemOrd (s : State) (a v : Nat) : (s.wr a v).itemOrd = s.itemOrd := rfl
@[simp] theorem State.wr_affin (s : State) (a v : Nat) : (s.wr a v).affin = s.affin := rfl
@[simp] theorem State.wr_schedPtr (s : State) (a v : Nat) : (s.wr a v).schedPtr = s.schedPtr := rfl
@[simp] theorem State.wr_coreLoad (s : State) (a v : Nat) : (s.wr a v).coreLoad = s.coreLoad := rfl
@[simp] theorem State.wr_trace (s : State) (a v : Nat) : (s.wr a v).trace = s.trace := rfl
@[simp] theorem State.wr_traceN (s : State) (a v : Nat) : (s.wr a v).traceN = s.traceN := rfl
@[simp] theorem State.wr_lpBatches (s : State) (a v : Nat) : (s.wr a v).lpBatches = s.lpBatches := rfl
@[simp] theorem State.wr_panto (s : State) (a v : Nat) : (s.wr a v).panto = s.panto := rfl
@[simp] theorem State.wr_pantoDue (s : State) (a v : Nat) : (s.wr a v).pantoDue = s.pantoDue := rfl
@[simp] theorem State.wr_halting (s : State) (a v : Nat) : (s.wr a v).halting = s.halting := rfl
@[simp] theorem State.wr_thWd (s : State) (a v : Nat) : (s.wr a v).thWd = s.thWd := rfl
@[simp] theorem State.wr_brnAt (s : State) (a v : Nat) : (s.wr a v).brnAt = s.brnAt := rfl
@[simp] theorem State.wr_romDue (s : State) (a v : Nat) : (s.wr a v).romDue = s.romDue := rfl
@[simp] theorem State.wr_kbOff (s : State) (a v : Nat) : (s.wr a v).kbOff = s.kbOff := rfl
@[simp] theorem State.wr_secondUnit (s : State) (a v : Nat) : (s.wr a v).secondUnit = s.secondUnit := rfl
@[simp] theorem State.wr_neigh (s : State) (a v : Nat) : (s.wr a v).neigh = s.neigh := rfl
@[simp] theorem State.wr_neighLost (s : State) (a v : Nat) : (s.wr a v).neighLost = s.neighLost := rfl
@[simp] theorem State.wr_expected (s : State) (a v : Nat) : (s.wr a v).expected = s.expected := rfl
@[simp] theorem State.wr_draftOwner (s : State) (a v : Nat) : (s.wr a v).draftOwner = s.draftOwner := rfl
@[simp] theorem State.wr_longs (s : State) (a v : Nat) : (s.wr a v).longs = s.longs := rfl
@[simp] theorem State.wr_install (s : State) (a v : Nat) : (s.wr a v).install = s.install := rfl
@[simp] theorem State.wr_installEnd (s : State) (a v : Nat) : (s.wr a v).installEnd = s.installEnd := rfl
@[simp] theorem State.wr_clkTo (s : State) (a v : Nat) : (s.wr a v).clkTo = s.clkTo := rfl
@[simp] theorem State.wr_sparing (s : State) (a v : Nat) : (s.wr a v).sparing = s.sparing := rfl
@[simp] theorem State.wr_lostPower (s : State) (a v : Nat) : (s.wr a v).lostPower = s.lostPower := rfl
@[simp] theorem State.wr_offWoken (s : State) (a v : Nat) : (s.wr a v).offWoken = s.offWoken := rfl
@[simp] theorem State.wr_keyDigests (s : State) (a v : Nat) : (s.wr a v).keyDigests = s.keyDigests := rfl
@[simp] theorem State.wr_flash (s : State) (a v : Nat) : (s.wr a v).flash = s.flash := rfl
@[simp] theorem State.wr_pers (s : State) (a v : Nat) : (s.wr a v).pers = s.pers := rfl
@[simp] theorem State.wr_refA (s : State) (a v : Nat) : (s.wr a v).refA = s.refA := rfl
@[simp] theorem State.wr_refB (s : State) (a v : Nat) : (s.wr a v).refB = s.refB := rfl
@[simp] theorem State.wr_noRef (s : State) (a v : Nat) : (s.wr a v).noRef = s.noRef := rfl
@[simp] theorem State.wr_dbHeld (s : State) (a v : Nat) : (s.wr a v).dbHeld = s.dbHeld := rfl
@[simp] theorem State.wr_dmPtr (s : State) (a v : Nat) : (s.wr a v).dmPtr = s.dmPtr := rfl
@[simp] theorem State.wr_bIdle (s : State) (a v : Nat) : (s.wr a v).bIdle = s.bIdle := rfl
@[simp] theorem State.wr_pinSync (s : State) (a v : Nat) : (s.wr a v).pinSync = s.pinSync := rfl
@[simp] theorem State.wr_updAt (s : State) (a v : Nat) : (s.wr a v).updAt = s.updAt := rfl
@[simp] theorem State.wr_tOff (s : State) (a v : Nat) : (s.wr a v).tOff = s.tOff := rfl
@[simp] theorem State.wr_corrDue (s : State) (a v : Nat) : (s.wr a v).corrDue = s.corrDue := rfl
@[simp] theorem State.wr_stepNo (s : State) (a v : Nat) : (s.wr a v).stepNo = s.stepNo := rfl
@[simp] theorem State.wr_ringAt (s : State) (a v : Nat) : (s.wr a v).ringAt = s.ringAt := rfl
@[simp] theorem State.wr_doneAt (s : State) (a v : Nat) : (s.wr a v).doneAt = s.doneAt := rfl
@[simp] theorem State.wr_lpCe (s : State) (a v : Nat) : (s.wr a v).lpCe = s.lpCe := rfl
@[simp] theorem State.wr_pending (s : State) (a v : Nat) : (s.wr a v).pending = s.pending := rfl

@[simp] theorem State.setF_mem (s : State) (x : FldAt) (v : Nat) : (s.setF x v).mem = s.mem := rfl
@[simp] theorem State.setF_hostMem (s : State) (x : FldAt) (v : Nat) : (s.setF x v).hostMem = s.hostMem := rfl
@[simp] theorem State.setF_ecc (s : State) (x : FldAt) (v : Nat) : (s.setF x v).ecc = s.ecc := rfl
@[simp] theorem State.setF_ticks (s : State) (x : FldAt) (v : Nat) : (s.setF x v).ticks = s.ticks := rfl
@[simp] theorem State.setF_time (s : State) (x : FldAt) (v : Nat) : (s.setF x v).time = s.time := rfl
@[simp] theorem State.setF_cores (s : State) (x : FldAt) (v : Nat) : (s.setF x v).cores = s.cores := rfl
@[simp] theorem State.setF_ckq (s : State) (x : FldAt) (v : Nat) : (s.setF x v).ckq = s.ckq := rfl
@[simp] theorem State.setF_credits (s : State) (x : FldAt) (v : Nat) : (s.setF x v).credits = s.credits := rfl
@[simp] theorem State.setF_ptrs (s : State) (x : FldAt) (v : Nat) : (s.setF x v).ptrs = s.ptrs := rfl
@[simp] theorem State.setF_dieLink (s : State) (x : FldAt) (v : Nat) : (s.setF x v).dieLink = s.dieLink := rfl
@[simp] theorem State.setF_slots (s : State) (x : FldAt) (v : Nat) : (s.setF x v).slots = s.slots := rfl
@[simp] theorem State.setF_slotRel (s : State) (x : FldAt) (v : Nat) : (s.setF x v).slotRel = s.slotRel := rfl
@[simp] theorem State.setF_msix (s : State) (x : FldAt) (v : Nat) : (s.setF x v).msix = s.msix := rfl
@[simp] theorem State.setF_pba (s : State) (x : FldAt) (v : Nat) : (s.setF x v).pba = s.pba := rfl
@[simp] theorem State.setF_pciCfg (s : State) (x : FldAt) (v : Nat) : (s.setF x v).pciCfg = s.pciCfg := rfl
@[simp] theorem State.setF_fnReset (s : State) (x : FldAt) (v : Nat) : (s.setF x v).fnReset = s.fnReset := rfl
@[simp] theorem State.setF_sess (s : State) (x : FldAt) (v : Nat) : (s.setF x v).sess = s.sess := rfl
@[simp] theorem State.setF_notices (s : State) (x : FldAt) (v : Nat) : (s.setF x v).notices = s.notices := rfl
@[simp] theorem State.setF_dbgAttached (s : State) (x : FldAt) (v : Nat) : (s.setF x v).dbgAttached = s.dbgAttached := rfl
@[simp] theorem State.setF_resp (s : State) (x : FldAt) (v : Nat) : (s.setF x v).resp = s.resp := rfl
@[simp] theorem State.setF_out (s : State) (x : FldAt) (v : Nat) : (s.setF x v).out = s.out := rfl
@[simp] theorem State.setF_freeIx (s : State) (x : FldAt) (v : Nat) : (s.setF x v).freeIx = s.freeIx := rfl
@[simp] theorem State.setF_openUnit (s : State) (x : FldAt) (v : Nat) : (s.setF x v).openUnit = s.openUnit := rfl
@[simp] theorem State.setF_draft (s : State) (x : FldAt) (v : Nat) : (s.setF x v).draft = s.draft := rfl
@[simp] theorem State.setF_burin (s : State) (x : FldAt) (v : Nat) : (s.setF x v).burin = s.burin := rfl
@[simp] theorem State.setF_syncDue (s : State) (x : FldAt) (v : Nat) : (s.setF x v).syncDue = s.syncDue := rfl
@[simp] theorem State.setF_vddio (s : State) (x : FldAt) (v : Nat) : (s.setF x v).vddio = s.vddio := rfl
@[simp] theorem State.setF_obs (s : State) (x : FldAt) (v : Nat) : (s.setF x v).obs = s.obs := rfl
@[simp] theorem State.setF_slotAt (s : State) (x : FldAt) (v : Nat) : (s.setF x v).slotAt = s.slotAt := rfl
@[simp] theorem State.setF_trig (s : State) (x : FldAt) (v : Nat) : (s.setF x v).trig = s.trig := rfl
@[simp] theorem State.setF_tioAsk (s : State) (x : FldAt) (v : Nat) : (s.setF x v).tioAsk = s.tioAsk := rfl
@[simp] theorem State.setF_mbBase (s : State) (x : FldAt) (v : Nat) : (s.setF x v).mbBase = s.mbBase := rfl
@[simp] theorem State.setF_devTick (s : State) (x : FldAt) (v : Nat) : (s.setF x v).devTick = s.devTick := rfl
@[simp] theorem State.setF_imgs (s : State) (x : FldAt) (v : Nat) : (s.setF x v).imgs = s.imgs := rfl
@[simp] theorem State.setF_leases (s : State) (x : FldAt) (v : Nat) : (s.setF x v).leases = s.leases := rfl
@[simp] theorem State.setF_winStage (s : State) (x : FldAt) (v : Nat) : (s.setF x v).winStage = s.winStage := rfl
@[simp] theorem State.setF_rot (s : State) (x : FldAt) (v : Nat) : (s.setF x v).rot = s.rot := rfl
@[simp] theorem State.setF_lcTarget (s : State) (x : FldAt) (v : Nat) : (s.setF x v).lcTarget = s.lcTarget := rfl
@[simp] theorem State.setF_holdWipe (s : State) (x : FldAt) (v : Nat) : (s.setF x v).holdWipe = s.holdWipe := rfl
@[simp] theorem State.setF_clearAt (s : State) (x : FldAt) (v : Nat) : (s.setF x v).clearAt = s.clearAt := rfl
@[simp] theorem State.setF_rulDone (s : State) (x : FldAt) (v : Nat) : (s.setF x v).rulDone = s.rulDone := rfl
@[simp] theorem State.setF_powerOff (s : State) (x : FldAt) (v : Nat) : (s.setF x v).powerOff = s.powerOff := rfl
@[simp] theorem State.setF_ports (s : State) (x : FldAt) (v : Nat) : (s.setF x v).ports = s.ports := rfl
@[simp] theorem State.setF_queues (s : State) (x : FldAt) (v : Nat) : (s.setF x v).queues = s.queues := rfl
@[simp] theorem State.setF_tbl (s : State) (x : FldAt) (v : Nat) : (s.setF x v).tbl = s.tbl := rfl
@[simp] theorem State.setF_tblSeen (s : State) (x : FldAt) (v : Nat) : (s.setF x v).tblSeen = s.tblSeen := rfl
@[simp] theorem State.setF_dups (s : State) (x : FldAt) (v : Nat) : (s.setF x v).dups = s.dups := rfl
@[simp] theorem State.setF_nodes (s : State) (x : FldAt) (v : Nat) : (s.setF x v).nodes = s.nodes := rfl
@[simp] theorem State.setF_meters (s : State) (x : FldAt) (v : Nat) : (s.setF x v).meters = s.meters := rfl
@[simp] theorem State.setF_redAvg (s : State) (x : FldAt) (v : Nat) : (s.setF x v).redAvg = s.redAvg := rfl
@[simp] theorem State.setF_redLfsr (s : State) (x : FldAt) (v : Nat) : (s.setF x v).redLfsr = s.redLfsr := rfl
@[simp] theorem State.setF_pairSeq (s : State) (x : FldAt) (v : Nat) : (s.setF x v).pairSeq = s.pairSeq := rfl
@[simp] theorem State.setF_gates (s : State) (x : FldAt) (v : Nat) : (s.setF x v).gates = s.gates := rfl
@[simp] theorem State.setF_stMark (s : State) (x : FldAt) (v : Nat) : (s.setF x v).stMark = s.stMark := rfl
@[simp] theorem State.setF_stFrom (s : State) (x : FldAt) (v : Nat) : (s.setF x v).stFrom = s.stFrom := rfl
@[simp] theorem State.setF_ringRel (s : State) (x : FldAt) (v : Nat) : (s.setF x v).ringRel = s.ringRel := rfl
@[simp] theorem State.setF_clkStop (s : State) (x : FldAt) (v : Nat) : (s.setF x v).clkStop = s.clkStop := rfl
@[simp] theorem State.setF_gd (s : State) (x : FldAt) (v : Nat) : (s.setF x v).gd = s.gd := rfl
@[simp] theorem State.setF_rplOk (s : State) (x : FldAt) (v : Nat) : (s.setF x v).rplOk = s.rplOk := rfl
@[simp] theorem State.setF_mbRx (s : State) (x : FldAt) (v : Nat) : (s.setF x v).mbRx = s.mbRx := rfl
@[simp] theorem State.setF_mbAbort (s : State) (x : FldAt) (v : Nat) : (s.setF x v).mbAbort = s.mbAbort := rfl
@[simp] theorem State.setF_mbRecov (s : State) (x : FldAt) (v : Nat) : (s.setF x v).mbRecov = s.mbRecov := rfl
@[simp] theorem State.setF_mbPend (s : State) (x : FldAt) (v : Nat) : (s.setF x v).mbPend = s.mbPend := rfl
@[simp] theorem State.setF_fsExp (s : State) (x : FldAt) (v : Nat) : (s.setF x v).fsExp = s.fsExp := rfl
@[simp] theorem State.setF_fsKick (s : State) (x : FldAt) (v : Nat) : (s.setF x v).fsKick = s.fsKick := rfl
@[simp] theorem State.setF_rul (s : State) (x : FldAt) (v : Nat) : (s.setF x v).rul = s.rul := rfl
@[simp] theorem State.setF_rulPend (s : State) (x : FldAt) (v : Nat) : (s.setF x v).rulPend = s.rulPend := rfl
@[simp] theorem State.setF_actAt (s : State) (x : FldAt) (v : Nat) : (s.setF x v).actAt = s.actAt := rfl
@[simp] theorem State.setF_lp (s : State) (x : FldAt) (v : Nat) : (s.setF x v).lp = s.lp := rfl
@[simp] theorem State.setF_lpMarks (s : State) (x : FldAt) (v : Nat) : (s.setF x v).lpMarks = s.lpMarks := rfl
@[simp] theorem State.setF_lpDue (s : State) (x : FldAt) (v : Nat) : (s.setF x v).lpDue = s.lpDue := rfl
@[simp] theorem State.setF_lpTrig (s : State) (x : FldAt) (v : Nat) : (s.setF x v).lpTrig = s.lpTrig := rfl
@[simp] theorem State.setF_lpLane (s : State) (x : FldAt) (v : Nat) : (s.setF x v).lpLane = s.lpLane := rfl
@[simp] theorem State.setF_lpOut (s : State) (x : FldAt) (v : Nat) : (s.setF x v).lpOut = s.lpOut := rfl
@[simp] theorem State.setF_lpDone (s : State) (x : FldAt) (v : Nat) : (s.setF x v).lpDone = s.lpDone := rfl
@[simp] theorem State.setF_lpClr (s : State) (x : FldAt) (v : Nat) : (s.setF x v).lpClr = s.lpClr := rfl
@[simp] theorem State.setF_tsg (s : State) (x : FldAt) (v : Nat) : (s.setF x v).tsg = s.tsg := rfl
@[simp] theorem State.setF_cap (s : State) (x : FldAt) (v : Nat) : (s.setF x v).cap = s.cap := rfl
@[simp] theorem State.setF_items (s : State) (x : FldAt) (v : Nat) : (s.setF x v).items = s.items := rfl
@[simp] theorem State.setF_itemOrd (s : State) (x : FldAt) (v : Nat) : (s.setF x v).itemOrd = s.itemOrd := rfl
@[simp] theorem State.setF_affin (s : State) (x : FldAt) (v : Nat) : (s.setF x v).affin = s.affin := rfl
@[simp] theorem State.setF_schedPtr (s : State) (x : FldAt) (v : Nat) : (s.setF x v).schedPtr = s.schedPtr := rfl
@[simp] theorem State.setF_coreLoad (s : State) (x : FldAt) (v : Nat) : (s.setF x v).coreLoad = s.coreLoad := rfl
@[simp] theorem State.setF_trace (s : State) (x : FldAt) (v : Nat) : (s.setF x v).trace = s.trace := rfl
@[simp] theorem State.setF_traceN (s : State) (x : FldAt) (v : Nat) : (s.setF x v).traceN = s.traceN := rfl
@[simp] theorem State.setF_lpBatches (s : State) (x : FldAt) (v : Nat) : (s.setF x v).lpBatches = s.lpBatches := rfl
@[simp] theorem State.setF_panto (s : State) (x : FldAt) (v : Nat) : (s.setF x v).panto = s.panto := rfl
@[simp] theorem State.setF_pantoDue (s : State) (x : FldAt) (v : Nat) : (s.setF x v).pantoDue = s.pantoDue := rfl
@[simp] theorem State.setF_halting (s : State) (x : FldAt) (v : Nat) : (s.setF x v).halting = s.halting := rfl
@[simp] theorem State.setF_thWd (s : State) (x : FldAt) (v : Nat) : (s.setF x v).thWd = s.thWd := rfl
@[simp] theorem State.setF_brnAt (s : State) (x : FldAt) (v : Nat) : (s.setF x v).brnAt = s.brnAt := rfl
@[simp] theorem State.setF_romDue (s : State) (x : FldAt) (v : Nat) : (s.setF x v).romDue = s.romDue := rfl
@[simp] theorem State.setF_kbOff (s : State) (x : FldAt) (v : Nat) : (s.setF x v).kbOff = s.kbOff := rfl
@[simp] theorem State.setF_secondUnit (s : State) (x : FldAt) (v : Nat) : (s.setF x v).secondUnit = s.secondUnit := rfl
@[simp] theorem State.setF_neigh (s : State) (x : FldAt) (v : Nat) : (s.setF x v).neigh = s.neigh := rfl
@[simp] theorem State.setF_neighLost (s : State) (x : FldAt) (v : Nat) : (s.setF x v).neighLost = s.neighLost := rfl
@[simp] theorem State.setF_expected (s : State) (x : FldAt) (v : Nat) : (s.setF x v).expected = s.expected := rfl
@[simp] theorem State.setF_draftOwner (s : State) (x : FldAt) (v : Nat) : (s.setF x v).draftOwner = s.draftOwner := rfl
@[simp] theorem State.setF_longs (s : State) (x : FldAt) (v : Nat) : (s.setF x v).longs = s.longs := rfl
@[simp] theorem State.setF_install (s : State) (x : FldAt) (v : Nat) : (s.setF x v).install = s.install := rfl
@[simp] theorem State.setF_installEnd (s : State) (x : FldAt) (v : Nat) : (s.setF x v).installEnd = s.installEnd := rfl
@[simp] theorem State.setF_clkTo (s : State) (x : FldAt) (v : Nat) : (s.setF x v).clkTo = s.clkTo := rfl
@[simp] theorem State.setF_sparing (s : State) (x : FldAt) (v : Nat) : (s.setF x v).sparing = s.sparing := rfl
@[simp] theorem State.setF_lostPower (s : State) (x : FldAt) (v : Nat) : (s.setF x v).lostPower = s.lostPower := rfl
@[simp] theorem State.setF_offWoken (s : State) (x : FldAt) (v : Nat) : (s.setF x v).offWoken = s.offWoken := rfl
@[simp] theorem State.setF_keyDigests (s : State) (x : FldAt) (v : Nat) : (s.setF x v).keyDigests = s.keyDigests := rfl
@[simp] theorem State.setF_flash (s : State) (x : FldAt) (v : Nat) : (s.setF x v).flash = s.flash := rfl
@[simp] theorem State.setF_pers (s : State) (x : FldAt) (v : Nat) : (s.setF x v).pers = s.pers := rfl
@[simp] theorem State.setF_refA (s : State) (x : FldAt) (v : Nat) : (s.setF x v).refA = s.refA := rfl
@[simp] theorem State.setF_refB (s : State) (x : FldAt) (v : Nat) : (s.setF x v).refB = s.refB := rfl
@[simp] theorem State.setF_noRef (s : State) (x : FldAt) (v : Nat) : (s.setF x v).noRef = s.noRef := rfl
@[simp] theorem State.setF_dbHeld (s : State) (x : FldAt) (v : Nat) : (s.setF x v).dbHeld = s.dbHeld := rfl
@[simp] theorem State.setF_dmPtr (s : State) (x : FldAt) (v : Nat) : (s.setF x v).dmPtr = s.dmPtr := rfl
@[simp] theorem State.setF_bIdle (s : State) (x : FldAt) (v : Nat) : (s.setF x v).bIdle = s.bIdle := rfl
@[simp] theorem State.setF_pinSync (s : State) (x : FldAt) (v : Nat) : (s.setF x v).pinSync = s.pinSync := rfl
@[simp] theorem State.setF_updAt (s : State) (x : FldAt) (v : Nat) : (s.setF x v).updAt = s.updAt := rfl
@[simp] theorem State.setF_tOff (s : State) (x : FldAt) (v : Nat) : (s.setF x v).tOff = s.tOff := rfl
@[simp] theorem State.setF_corrDue (s : State) (x : FldAt) (v : Nat) : (s.setF x v).corrDue = s.corrDue := rfl
@[simp] theorem State.setF_stepNo (s : State) (x : FldAt) (v : Nat) : (s.setF x v).stepNo = s.stepNo := rfl
@[simp] theorem State.setF_ringAt (s : State) (x : FldAt) (v : Nat) : (s.setF x v).ringAt = s.ringAt := rfl
@[simp] theorem State.setF_doneAt (s : State) (x : FldAt) (v : Nat) : (s.setF x v).doneAt = s.doneAt := rfl
@[simp] theorem State.setF_lpCe (s : State) (x : FldAt) (v : Nat) : (s.setF x v).lpCe = s.lpCe := rfl
@[simp] theorem State.setF_pending (s : State) (x : FldAt) (v : Nat) : (s.setF x v).pending = s.pending := rfl

/-! ## What a register read gives -/

/-- Registers are read from `regs` alone. -/
theorem State.f_congr {s t : State} (h : t.regs = s.regs) (x : FldAt) : t.f x = s.f x := by
  simp only [State.f, State.rd, h]

theorem State.rd_congr {s t : State} (h : t.regs = s.regs) (a : Nat) : t.rd a = s.rd a := by
  simp only [State.rd, h]

theorem State.on_congr {s t : State} (h : t.regs = s.regs) (x : FldAt) : t.on x = s.on x := by
  simp only [State.on, State.f_congr h]

/-- An update of other fields of State leaves every register word. -/
@[simp] theorem State.rd_mk (s : State) (a : Nat) {x0 x1 x2 x3 x4 x5 x6 x7 x8 x9 x10 x11 x12 x13 x14 x15 x16 x17 x18 x19 x20 x21 x22 x23 x24 x25 x26 x27 x28 x29 x30 x31 x32 x33 x34 x35 x36 x37 x38 x39 x40 x41 x42 x43 x44 x45 x46 x47 x48 x49 x50 x51 x52 x53 x54 x55 x56 x57 x58 x59 x60 x61 x62 x63 x64 x65 x66 x67 x68 x69 x70 x71 x72 x73 x74 x75 x76 x77 x78 x79 x80 x81 x82 x83 x84 x85 x86 x87 x88 x89 x90 x91 x92 x93 x94 x95 x96 x97 x98 x99 x100 x101 x102 x103 x104 x105 x106 x107 x108 x109 x110 x111 x112 x113 x114 x115 x116 x117 x118 x119 x120 x121 x122 x123} :
    State.rd (State.mk s.regs x0 x1 x2 x3 x4 x5 x6 x7 x8 x9 x10 x11 x12 x13 x14 x15 x16 x17 x18 x19 x20 x21 x22 x23 x24 x25 x26 x27 x28 x29 x30 x31 x32 x33 x34 x35 x36 x37 x38 x39 x40 x41 x42 x43 x44 x45 x46 x47 x48 x49 x50 x51 x52 x53 x54 x55 x56 x57 x58 x59 x60 x61 x62 x63 x64 x65 x66 x67 x68 x69 x70 x71 x72 x73 x74 x75 x76 x77 x78 x79 x80 x81 x82 x83 x84 x85 x86 x87 x88 x89 x90 x91 x92 x93 x94 x95 x96 x97 x98 x99 x100 x101 x102 x103 x104 x105 x106 x107 x108 x109 x110 x111 x112 x113 x114 x115 x116 x117 x118 x119 x120 x121 x122 x123) a = s.rd a := rfl

/-- An update of other fields of State leaves every register field. -/
@[simp] theorem State.f_mk (s : State) (x : FldAt) {x0 x1 x2 x3 x4 x5 x6 x7 x8 x9 x10 x11 x12 x13 x14 x15 x16 x17 x18 x19 x20 x21 x22 x23 x24 x25 x26 x27 x28 x29 x30 x31 x32 x33 x34 x35 x36 x37 x38 x39 x40 x41 x42 x43 x44 x45 x46 x47 x48 x49 x50 x51 x52 x53 x54 x55 x56 x57 x58 x59 x60 x61 x62 x63 x64 x65 x66 x67 x68 x69 x70 x71 x72 x73 x74 x75 x76 x77 x78 x79 x80 x81 x82 x83 x84 x85 x86 x87 x88 x89 x90 x91 x92 x93 x94 x95 x96 x97 x98 x99 x100 x101 x102 x103 x104 x105 x106 x107 x108 x109 x110 x111 x112 x113 x114 x115 x116 x117 x118 x119 x120 x121 x122 x123} :
    State.f (State.mk s.regs x0 x1 x2 x3 x4 x5 x6 x7 x8 x9 x10 x11 x12 x13 x14 x15 x16 x17 x18 x19 x20 x21 x22 x23 x24 x25 x26 x27 x28 x29 x30 x31 x32 x33 x34 x35 x36 x37 x38 x39 x40 x41 x42 x43 x44 x45 x46 x47 x48 x49 x50 x51 x52 x53 x54 x55 x56 x57 x58 x59 x60 x61 x62 x63 x64 x65 x66 x67 x68 x69 x70 x71 x72 x73 x74 x75 x76 x77 x78 x79 x80 x81 x82 x83 x84 x85 x86 x87 x88 x89 x90 x91 x92 x93 x94 x95 x96 x97 x98 x99 x100 x101 x102 x103 x104 x105 x106 x107 x108 x109 x110 x111 x112 x113 x114 x115 x116 x117 x118 x119 x120 x121 x122 x123) x = s.f x := rfl

@[simp] theorem State.on_mk (s : State) (x : FldAt) {x0 x1 x2 x3 x4 x5 x6 x7 x8 x9 x10 x11 x12 x13 x14 x15 x16 x17 x18 x19 x20 x21 x22 x23 x24 x25 x26 x27 x28 x29 x30 x31 x32 x33 x34 x35 x36 x37 x38 x39 x40 x41 x42 x43 x44 x45 x46 x47 x48 x49 x50 x51 x52 x53 x54 x55 x56 x57 x58 x59 x60 x61 x62 x63 x64 x65 x66 x67 x68 x69 x70 x71 x72 x73 x74 x75 x76 x77 x78 x79 x80 x81 x82 x83 x84 x85 x86 x87 x88 x89 x90 x91 x92 x93 x94 x95 x96 x97 x98 x99 x100 x101 x102 x103 x104 x105 x106 x107 x108 x109 x110 x111 x112 x113 x114 x115 x116 x117 x118 x119 x120 x121 x122 x123} :
    State.on (State.mk s.regs x0 x1 x2 x3 x4 x5 x6 x7 x8 x9 x10 x11 x12 x13 x14 x15 x16 x17 x18 x19 x20 x21 x22 x23 x24 x25 x26 x27 x28 x29 x30 x31 x32 x33 x34 x35 x36 x37 x38 x39 x40 x41 x42 x43 x44 x45 x46 x47 x48 x49 x50 x51 x52 x53 x54 x55 x56 x57 x58 x59 x60 x61 x62 x63 x64 x65 x66 x67 x68 x69 x70 x71 x72 x73 x74 x75 x76 x77 x78 x79 x80 x81 x82 x83 x84 x85 x86 x87 x88 x89 x90 x91 x92 x93 x94 x95 x96 x97 x98 x99 x100 x101 x102 x103 x104 x105 x106 x107 x108 x109 x110 x111 x112 x113 x114 x115 x116 x117 x118 x119 x120 x121 x122 x123) x = s.on x := rfl

/-- The word written. -/
@[simp] theorem State.rd_wr (s : State) (a v : Nat) : (s.wr a v).rd a = v % 2 ^ 32 := by
  simp [State.rd, State.wr]

/-- Another word. -/
theorem State.rd_wr_ne (s : State) {a b : Nat} (v : Nat) (h : b ≠ a) : (s.wr a v).rd b = s.rd b := by
  simp [State.rd, State.wr, tabGet_cellPut, h]

/-- Two fields that share no bit. -/
def FldAt.apart (x y : FldAt) : Prop := x.addr ≠ y.addr ∨ x.lo + x.w ≤ y.lo ∨ y.lo + y.w ≤ x.lo

/-- A field inside its word. -/
def FldAt.fits (x : FldAt) : Prop := x.lo + x.w ≤ 32

theorem State.f_setF (s : State) (x : FldAt) (v : Nat) (h : x.fits) : (s.setF x v).f x = v % 2 ^ x.w := by
  rw [State.f, State.setF, State.rd_wr, bitsOf_mod_word _ _ _ h, bitsOf_setBits]

theorem State.on_setF (s : State) (x : FldAt) (v : Nat) (h : x.fits) : (s.setF x v).on x = (v % 2 ^ x.w == 1) := by
  rw [State.on, State.f_setF _ _ _ h]

theorem State.f_setF_apart (s : State) (x y : FldAt) (v : Nat) (h : x.apart y) (hy : y.fits) : (s.setF x v).f y = s.f y := by
  unfold State.f State.setF
  by_cases ha : x.addr = y.addr
  · have : y.lo + y.w ≤ x.lo ∨ x.lo + x.w ≤ y.lo := by
      rcases h with h | h | h
      · exact absurd ha h
      · exact .inr h
      · exact .inl h
    rw [← ha, State.rd_wr, bitsOf_mod_word _ _ _ hy, bitsOf_setBits_apart _ _ _ _ _ _ this]
  · rw [State.rd_wr_ne _ _ (Ne.symm ha)]

theorem State.on_setF_apart (s : State) (x y : FldAt) (v : Nat) (h : x.apart y) (hy : y.fits) :
    (s.setF x v).on y = s.on y := by
  rw [State.on, State.on, State.f_setF_apart _ _ _ _ h hy]

@[simp] theorem State.setFs_nil (s : State) : s.setFs [] = s := rfl

@[simp] theorem State.setFs_cons (s : State) (x : FldAt) (v : Nat) (l : List (FldAt × Nat)) :
    s.setFs ((x, v) :: l) = (s.setF x v).setFs l := rfl

theorem State.f_lt (s : State) (x : FldAt) : s.f x < 2 ^ x.w := bitsOf_lt _ _ _

end Sys2Proof.Machine
end

