-- ==== Sys2Proof/Laws/Cores.lean ====
section
/-! SUPPORT. What issuing an instruction does, once for each way its body ends, and how the registers of a core read after a write. -/
namespace Sys2Proof.Machine

/-- A core that issues is in no wait for a credit. -/
theorem State.resume_issues {c : CoreIx} {s : State} (h : s.issues c) : s.resume c = s := by
  obtain ⟨-, -, -, -, -, -, h7⟩ := h
  unfold State.resume
  by_cases hc : c.val < 192
  · simp [h7 hc]
  · simp [hc]

/-- What an instruction does that a core issues: its body ends it. -/
theorem issue_finish {c : CoreIx} {s : State} (body : State → IRes) (h : s.issues c) :
    issue c body s = finish c (s.pc c) (body s) := by
  have hr := State.resume_issues h
  obtain ⟨h1, h2, h3, h4, h5, h6, -⟩ := h
  simp only [State.pc] at h3 h4 h5 h6
  simp [issue, State.fetchFix, h1, h2, h3, h4, h5, h6, hr, State.pc]

theorem issue_ok {c : CoreIx} {s t : State} {body : State → IRes} (h : s.issues c) (hb : body s = .ok t) :
    issue c body s = .next (t.advance c (s.pc c)) := by rw [issue_finish _ h, hb]; rfl

theorem issue_jump {c : CoreIx} {s t : State} {p : Nat} {body : State → IRes} (h : s.issues c) (hb : body s = .jump t p) :
    issue c body s = .next (t.setPc c p) := by rw [issue_finish _ h, hb]; rfl

theorem issue_wait {c : CoreIx} {s t : State} {body : State → IRes} (h : s.issues c) (hb : body s = .wait t) :
    issue c body s = .next t := by rw [issue_finish _ h, hb]; rfl

/-- Without a credit a thread waits in WAIT (R146). -/
theorem issue_stall {c : CoreIx} {s t : State} {body : State → IRes} (h : s.issues c) (hb : body s = .stall t) :
    issue c body s = .next (t.park c) := by rw [issue_finish _ h, hb]; rfl

/-- An imprecise Bus Error found by FENCE or CKPT is taken (R124). -/
theorem issue_imp {c : CoreIx} {s t : State} {body : State → IRes} (h : s.issues c) (hb : body s = .imp t) :
    issue c body s = .next (t.takeImp c (s.pc c)) := by rw [issue_finish _ h, hb]; rfl

theorem issue_exc {c : CoreIx} {s t : State} {cause detail ea : Nat} {body : State → IRes} (h : s.issues c)
    (hb : body s = .exc t cause detail ea false) : issue c body s = .next (t.enter c cause detail ea (s.pc c) false) := by
  rw [issue_finish _ h, hb]; rfl

theorem issue_exc_after {c : CoreIx} {s t : State} {cause detail ea : Nat} {body : State → IRes} (h : s.issues c)
    (hb : body s = .exc t cause detail ea true) :
    issue c body s = .next (t.enter c cause detail ea (w32 (s.pc c + 4)) false) := by rw [issue_finish _ h, hb]; rfl

/-! ## Registers of a core -/

@[simp] theorem State.core_setCore (s : State) (c : Nat) (x : Core) : (s.setCore c x).core c = x := by
  simp [State.core, State.setCore]

theorem State.core_setCore_ne (s : State) {c d : Nat} (x : Core) (h : d ≠ c) : (s.setCore c x).core d = s.core d := by
  simp [State.core, State.setCore, tabGet_tabPut, h]

theorem Core.gr_lt (x : Core) (i : BitVec 4) : x.gr i < 2 ^ 32 := by
  unfold Core.gr; split
  · decide
  · exact BitVec.isLt _

theorem Core.gr_setG (x : Core) (i j : BitVec 4) (v : Nat) :
    (x.setG i v).gr j = if j = i ∧ i ≠ 0 then v % 2 ^ 32 else x.gr j := by
  unfold Core.setG
  by_cases hi : i = 0
  · rw [if_pos hi, if_neg (by simp [hi])]
  · rw [if_neg hi]
    unfold Core.gr
    by_cases hj : j = 0
    · have : ¬ (j = i ∧ i ≠ 0) := fun h => hi (h.1 ▸ hj)
      rw [if_pos hj, if_neg this, if_pos hj]
    · rw [if_neg hj, if_neg hj]
      by_cases hij : j = i
      · subst hij; rw [if_pos ⟨rfl, hi⟩]; simp
      · have : j.toNat ≠ i.toNat := fun h => hij (BitVec.eq_of_toNat_eq h)
        rw [if_neg (fun h => hij h.1)]
        simp [tabGet_tabPut, this]

theorem State.gr_lt (s : State) (c : Nat) (i : BitVec 4) : s.gr c i < 2 ^ 32 := Core.gr_lt _ _

theorem State.gr_setG (s : State) (c : Nat) (i j : BitVec 4) (v : Nat) :
    (s.setG c i v).gr c j = if j = i ∧ i ≠ 0 then v % 2 ^ 32 else s.gr c j := by
  simp [State.gr, State.setG, Core.gr_setG]

@[simp] theorem State.toNat_g (s : State) (c : CoreIx) (i : BitVec 4) : (s.g c i).toNat = s.gr c i := by
  rw [State.g, BitVec.toNat_ofNat, Nat.mod_eq_of_lt (State.gr_lt _ _ _)]

/-! ## Words as numbers -/

theorem toSigned_eq (x : Nat) (h : x < 2 ^ 32) : toSigned 32 x = (BitVec.ofNat 32 x).toInt := by
  simp only [toSigned, BitVec.toInt_eq_toNat_cond, BitVec.toNat_ofNat, Nat.mod_eq_of_lt h]
  split <;> split <;> first | rfl | omega

theorem ofSigned_eq (i : Int) : ofSigned 32 i = (BitVec.ofInt 32 i).toNat := by
  simp [ofSigned, BitVec.toNat_ofInt]

end Sys2Proof.Machine
end

