-- ==== Sys2Proof/Laws/Frames.lean ====
section
/-! SUPPORT. What the shared operations of Machine/Ops.lean leave alone: counters, monitors and messages touch no register; an event source
touches only the blocks of the compute clusters (R153); a thread's state only its engine's words. -/
namespace Sys2Proof.Machine

/-- A fold of steps that each keep `g` keeps it. -/
theorem foldl_keeps {α β : Type} {g : State → α} (f : State → β → State) (h : ∀ s x, g (f s x) = g s) (l : List β) (s : State) :
    g (l.foldl f s) = g s := by
  induction l generalizing s with
  | nil => rfl
  | cons x t ih => simp only [List.foldl_cons, ih, h]

@[simp] theorem State.count_regs (s : State) (i k : Nat) : (s.count i k).regs = s.regs := rfl
@[simp] theorem State.countG_regs (s : State) (g k : Nat) : (s.countG g k).regs = s.regs := rfl
@[simp] theorem State.emit_regs (s : State) (o : Output) : (s.emit o).regs = s.regs := rfl
@[simp] theorem State.answer_regs (s : State) (c : Nat) (d : List Byte) : (s.answer c d).regs = s.regs := rfl
@[simp] theorem State.setCore_regs (s : State) (c : Nat) (x : Core) : (s.setCore c x).regs = s.regs := rfl
@[simp] theorem State.setSlotWord_regs (s : State) (c i w v : Nat) : (s.setSlotWord c i w v).regs = s.regs := rfl
@[simp] theorem State.clearSlot_regs (s : State) (c i : Nat) : (s.clearSlot c i).regs = s.regs := rfl

@[simp] theorem State.sample_regs (s : State) (src sel v : Nat) : (s.sample src sel v).regs = s.regs := by
  unfold State.sample
  generalize s.obs.cfg = l
  exact foldl_keeps (g := State.regs) _ (fun s x => by dsimp only; split <;> rfl) l s

@[simp] theorem State.msixFire_regs (s : State) (f v : Nat) : (s.msixFire f v).regs = s.regs := by
  unfold State.msixFire; split <;> rfl

@[simp] theorem State.toPanto_regs (s : State) (c n : Nat) : (s.toPanto c n).regs = s.regs := by
  unfold State.toPanto; split <;> rfl

@[simp] theorem State.count_f (s : State) (i k : Nat) (x : FldAt) : (s.count i k).f x = s.f x := rfl
@[simp] theorem State.countG_f (s : State) (g k : Nat) (x : FldAt) : (s.countG g k).f x = s.f x := rfl
@[simp] theorem State.emit_f (s : State) (o : Output) (x : FldAt) : (s.emit o).f x = s.f x := rfl
@[simp] theorem State.answer_f (s : State) (c : Nat) (d : List Byte) (x : FldAt) : (s.answer c d).f x = s.f x := rfl
@[simp] theorem State.setCore_f (s : State) (c : Nat) (y : Core) (x : FldAt) : (s.setCore c y).f x = s.f x := rfl
@[simp] theorem State.sample_f (s : State) (src sel v : Nat) (x : FldAt) : (s.sample src sel v).f x = s.f x :=
  State.f_congr (State.sample_regs ..) x
@[simp] theorem State.msixFire_f (s : State) (f v : Nat) (x : FldAt) : (s.msixFire f v).f x = s.f x :=
  State.f_congr (State.msixFire_regs ..) x

/-- Outside the blocks of the compute clusters. -/
def FldAt.notCc (x : FldAt) : Prop := x.fits ∧ (x.addr < 0x40200000 ∨ 0x40300000 ≤ x.addr)

theorem ofTh_addr (r : Nat → Nat → Nat → Nat) (th : Nat) : ofTh r th = r (th / 24) (th / 8 % 3) (th % 8) := rfl

theorem State.evSlot_f (s : State) (th i : Nat) (hth : th < 192) (x : FldAt) (h : x.notCc) : (s.evSlot th i).f x = s.f x := by
  have a1 : (ofTh CC.EVPEND_PEND th).apart x := by
    left; simp only [ofTh, CC.EVPEND_PEND, CC.EVPEND]; have := h.2; omega
  have a2 : (ofTh CC.EVMRG_MERGED th).apart x := by
    left; simp only [ofTh, CC.EVMRG_MERGED, CC.EVMRG]; have := h.2; omega
  have a3 : (ofTh CC.EVSEEN_SEEN th).apart x := by
    left; simp only [ofTh, CC.EVSEEN_SEEN, CC.EVSEEN]; have := h.2; omega
  unfold State.evSlot State.bump State.orF
  simp only [State.f_mk]
  split <;> simp only [State.f_setF_apart _ _ _ _ a1 h.1, State.f_setF_apart _ _ _ _ a2 h.1, State.f_setF_apart _ _ _ _ a3 h.1]

theorem evselAt_lt {a th i : Nat} (h : evselAt a = some (th, i)) : th < 192 := by
  unfold evselAt at h
  simp only [] at h
  split at h
  · simp only [Option.some.injEq, Prod.mk.injEq] at h; omega
  · cases h

theorem State.fireFor_f (s : State) (who : Nat → Bool) (code : Nat) (x : FldAt) (h : x.notCc) :
    (s.fireFor who code).f x = s.f x := by
  unfold State.fireFor
  generalize s.regs = l
  refine foldl_keeps (g := fun s => s.f x) _ (fun t e => ?_) l s
  split
  · rename_i hh
    split
    · exact State.evSlot_f _ _ _ (evselAt_lt hh) _ h
    · rfl
  · rfl

/-- A field of the mailbox unit. -/
def FldAt.mbx (x : FldAt) : Prop := x.fits ∧ 0x40010000 ≤ x.addr ∧ x.addr < 0x40020000

theorem FldAt.mbx.notCc {x : FldAt} (h : x.mbx) : x.notCc := ⟨h.1, .inl (by have := h.2; omega)⟩

theorem State.evDrop_f (s : State) (r : Nat) (hr : r < 4) (x : FldAt) (h : x.mbx) : (s.evDrop r).f x = s.f x := by
  unfold State.evDrop State.bump
  split
  · rfl
  · exact State.f_setF_apart _ _ _ _ (.inl (by simp only [SYS.RGCTL_EVDROP, SYS.RGCTL]; have := h.2; omega)) h.1

/-- Ringing a doorbell sets its bell and leaves every other field of the mailbox unit (R93). -/
theorem State.ringDoorbell_f (s : State) (id bit : Nat) (hid : id < 256) (x : FldAt) (h : x.mbx) :
    (s.ringDoorbell id bit).f x = (s.orF (MBX.DB_BELL id) (2 ^ bit)).f x := by
  unfold State.ringDoorbell
  simp only []
  split
  · split
    · rfl
    · split
      · exact State.f_mk ..
      · exact State.msixFire_f ..
  · split
    · exact State.f_mk ..
    · rw [State.fireFor_f _ _ _ _ h.notCc]
      split
      · exact State.evDrop_f _ _ (by omega) _ h
      · split
        · exact State.evDrop_f _ _ (by omega) _ h
        · rfl

end Sys2Proof.Machine
end

