-- ==== Sys2Proof/Laws/Memory.lean ====
section
/-! SUPPORT. Laws of the memories: every operation that changes one keeps its canonical form, a read after a write gives the bytes written, and
a write leaves every other byte alone. The operations below are the only ones that change `mem`, `hostMem` or `flash`, apart from a reset, which
empties `mem`. -/
namespace Sys2Proof.Machine

/-! ## Byte lists -/

theorem cellsWf_putBytes (m : List Host.Cell) (a : Nat) (bs : List Byte) (h : Memory.wf m = true) : Memory.wf (putBytes m a bs) = true := by
  induction bs generalizing m a with
  | nil => exact h
  | cons b t ih => exact ih _ _ (cellsWf_cellPut (fun _ => (0 : Byte)) m a b h)

theorem tabGet_putBytes (m : List Host.Cell) (a : Nat) (bs : List Byte) (x : Nat) :
    tabGet (putBytes m a bs) 0 x = if a ≤ x ∧ x < a + bs.length then bs.getD (x - a) 0 else tabGet m 0 x := by
  induction bs generalizing m a with
  | nil => simp [putBytes]
  | cons b t ih =>
    simp only [putBytes, ih, List.length_cons]
    rcases Nat.lt_trichotomy x a with hx | hx | hx
    · rw [if_neg (by omega), if_neg (by omega), tabGet_cellPut, if_neg (by omega)]
    · subst hx
      rw [if_neg (by omega), if_pos (by omega), tabGet_cellPut_self]
      simp
    · by_cases h : x < a + 1 + t.length
      · rw [if_pos ⟨by omega, h⟩, if_pos (by omega)]
        obtain ⟨k, rfl⟩ : ∃ k, x = a + 1 + k := ⟨x - (a + 1), by omega⟩
        rw [show a + 1 + k - (a + 1) = k by omega, show a + 1 + k - a = k + 1 by omega, List.getD_cons_succ]
      · rw [if_neg (by omega), if_neg (by omega), tabGet_cellPut, if_neg (by omega)]

theorem cellsWf_putFlash (m : List Host.Cell) (a : Nat) (bs : List Byte) (h : cellsWf (fun _ => (0xFF : Byte)) m = true) :
    cellsWf (fun _ => (0xFF : Byte)) (putFlash m a bs) = true := by
  induction bs generalizing m a with
  | nil => exact h
  | cons b t ih => exact ih _ _ (cellsWf_cellPut (fun _ => (0xFF : Byte)) m a b h)

/-! ## The block's memories -/

@[simp] theorem State.eccFresh_mem (s : State) (a n : Nat) : (s.eccFresh a n).mem = s.mem := rfl
@[simp] theorem State.eccDrop_mem (s : State) (a n k : Nat) : (s.eccDrop a n k).mem = s.mem := rfl
@[simp] theorem State.putMem_mem (s : State) (a : Nat) (bs : List Byte) : (s.putMem a bs).mem = putBytes s.mem a bs := rfl
@[simp] theorem State.putMem_regs (s : State) (a : Nat) (bs : List Byte) : (s.putMem a bs).regs = s.regs := rfl
@[simp] theorem State.putMem_hostMem (s : State) (a : Nat) (bs : List Byte) : (s.putMem a bs).hostMem = s.hostMem := rfl
@[simp] theorem State.putMem_out (s : State) (a : Nat) (bs : List Byte) : (s.putMem a bs).out = s.out := rfl
@[simp] theorem State.clearMem_regs (s : State) (p : Nat → Bool) : (s.clearMem p).regs = s.regs := rfl
@[simp] theorem State.clearMem_hostMem (s : State) (p : Nat → Bool) : (s.clearMem p).hostMem = s.hostMem := rfl
@[simp] theorem State.clearCoreMem_mem (s : State) : s.clearCoreMem.mem = [] := rfl

/-- A write keeps the canonical form. -/
theorem State.putMem_wf (s : State) (a : Nat) (bs : List Byte) (h : Memory.wf s.mem = true) : Memory.wf (s.putMem a bs).mem = true :=
  cellsWf_putBytes _ _ _ h

/-- A read after a write: the bytes written, and every other byte as before. -/
theorem State.byte_putMem (s : State) (a : Nat) (bs : List Byte) (x : Nat) :
    (s.putMem a bs).byte x = if a ≤ x ∧ x < a + bs.length then bs.getD (x - a) 0 else s.byte x := tabGet_putBytes _ _ _ _

/-- A clear keeps the canonical form. -/
theorem State.clearMem_wf (s : State) (p : Nat → Bool) (h : Memory.wf s.mem = true) : Memory.wf (s.clearMem p).mem = true :=
  cellsWf_filter _ _ _ h

theorem tabGet_clear (m : List Host.Cell) (d : Byte) (p : Nat → Bool) (x : Nat) :
    tabGet (m.filter (fun c => !p c.1)) d x = if p x then d else tabGet m d x := by
  induction m with
  | nil => simp [tabGet]
  | cons e t ih =>
    obtain ⟨y, v⟩ := e
    by_cases hp : p y = true
    · rw [List.filter_cons_of_neg (by simp [hp]), ih]
      by_cases hx : y = x
      · subst hx; simp [hp]
      · simp [tabGet, hx]
    · rw [List.filter_cons_of_pos (by simpa using hp)]
      by_cases hx : y = x
      · subst hx; simp [hp, tabGet]
      · simp [ih, tabGet, hx]

/-- A cleared byte reads 0, every other byte as before. -/
theorem State.byte_clearMem (s : State) (p : Nat → Bool) (x : Nat) : (s.clearMem p).byte x = if p x then 0 else s.byte x := tabGet_clear _ _ _ _

theorem State.clearCoreMem_wf (s : State) : Memory.wf s.clearCoreMem.mem = true := rfl

/-! ## Host memory and flash -/

@[simp] theorem State.hostWrite_mem (s : State) (a : Nat) (bs : List Byte) : (s.hostWrite a bs).mem = s.mem := by
  induction bs generalizing s a with
  | nil => rfl
  | cons b t ih => simp [State.hostWrite, ih]

@[simp] theorem State.hostWrite_regs (s : State) (a : Nat) (bs : List Byte) : (s.hostWrite a bs).regs = s.regs := by
  induction bs generalizing s a with
  | nil => rfl
  | cons b t ih => simp [State.hostWrite, ih]

/-- A write of host memory keeps its canonical form. -/
theorem State.hostWrite_wf (s : State) (a : Nat) (bs : List Byte) (h : Memory.wf s.hostMem = true) : Memory.wf (s.hostWrite a bs).hostMem = true := by
  induction bs generalizing s a with
  | nil => exact h
  | cons b t ih => exact ih _ _ (cellsWf_cellPut (fun _ => (0 : Byte)) s.hostMem (Config.hostBus a) b h)

/-- An erase and program keeps the canonical form of the flash. -/
theorem State.flashWrite_wf (s : State) (a n : Nat) (bs : List Byte) (h : cellsWf (fun _ => (0xFF : Byte)) s.flash = true) :
    cellsWf (fun _ => (0xFF : Byte)) (s.flashWrite a n bs).flash = true :=
  cellsWf_putFlash _ _ _ (cellsWf_filter _ _ _ h)

/-! ## Reset -/

/-- The memories of the reset state are in canonical form. -/
theorem reset_memory_wf :
    Memory.wf State.reset.mem = true ∧ Memory.wf State.reset.hostMem = true ∧ cellsWf (fun _ => (0xFF : Byte)) State.reset.flash = true :=
  ⟨rfl, rfl, rfl⟩

end Sys2Proof.Machine
end

