-- ==== Sys2Proof/WellFormed.lean ====
section
/-! DEFINITION. Well-formed commands: what a sender of the block can give (R36, R61, Table 2.8, Table 1.8, R12). `exec` has a meaning for every
command, well formed or not; these checks say which commands a tester or a proof about real senders has to consider. -/
namespace Sys2Proof
open Sys2Proof.Machine

/-- The operands of a command that a check looks at: a requester, the header of a Feholt command, a transfer (write, length of a read, bytes of a
write), the bytes of a flit. -/
inductive Part where
  | rq (r : Rq)
  | hdr (h : FHdr)
  | xfer (write : Bool) (len n : Nat)
  | flit (n : Nat)
deriving DecidableEq, Repr

/-- What hardware attaches to a request (R36, R143, R406): an identity of Table 1.14; a key only with the identity of a compute engine or of an
application core, and then one that this master can carry; secure state and ROM only at the Keyblock. -/
def Rq.wf (r : Rq) : Bool :=
  let i := r.id.toNat
  let engine := decide (0x10 ≤ i) && decide (i ≤ 0x27)
  let core := decide (0x30 ≤ i) && decide (i ≤ 0x3F)
  let listed := i == 1 || i == 2 || i == 8 || i == 9 || engine || core || i == 0x40 || i == 0x50
  let key := match r.key with
    | none => true
    | some k => (engine && decide (k.toNat < 192)) || (core && decide (192 ≤ k.toNat))
  let rkey := match r.rkey with
    | none => true
    | some k => (engine && decide (k.toNat / 8 + 0x10 = i)) || (core && decide (192 ≤ k.toNat))
  listed && key && rkey && (!(r.sec || r.rom) || i == 8)

/-- A Feholt header: a bulk descriptor exactly with the flag BULK, at most 48 bytes inline, 32 beside a descriptor (Tables 2.8, 2.9). -/
def FHdr.wf (h : FHdr) : Bool :=
  h.bulk.isSome == bitOf h.flags.toNat 0 && decide (h.len.toNat ≤ if bitOf h.flags.toNat 0 then 32 else 48)

/-- A transfer has at least one byte; a flit has 36 bytes (Table 1.8). -/
def Part.wf : Part → Bool
  | .rq r => r.wf
  | .hdr h => h.wf
  | .xfer write len n => if write then decide (0 < n) else decide (0 < len)
  | .flit n => decide (n = 36)

/-- The operands of a command that a check looks at. -/
def Instr.parts : Instr → List Part
  | .registerWrite _ rq _ _ => [.rq rq]
  | .fabricRequest reqs => reqs.map (fun q => .xfer q.write q.len q.data.length)
  | .creditReturn _ _ _ => []
  | .unitLocalReset _ => []
  | .refclkLossDeclared _ => []
  | .referenceSwitchComplete => []
  | .returnA rq => [.rq rq]
  | .referenceReturnComplete => []
  | .pllStart _ _ => []
  | .flitReceive _ flit => [.flit flit.bytes.length]
  | .laneFailure _ => []
  | .laneSparingComplete => []
  | .bar2Access _ write _ len data => [.xfer write len data.length]
  | .msixMaskClear _ _ => []
  | .functionLevelReset _ => []
  | .pcieHotReset => []
  | .sessionOpen h _ _ _ _ => [.hdr h]
  | .sessionClose h => [.hdr h]
  | .sessionPing h => [.hdr h]
  | .subscribe h _ => [.hdr h]
  | .deviceInfo h => [.hdr h]
  | .keepaliveTimeout _ => []
  | .noCreditReply h _ => [.hdr h]
  | .queuedEventPost _ _ => []
  | .commandCompletion _ _ _ _ _ => []
  | .persLoad h _ _ _ => [.hdr h]
  | .persStart h _ => [.hdr h]
  | .persStop h _ => [.hdr h]
  | .persQuery h _ => [.hdr h]
  | .persUnload h _ => [.hdr h]
  | .portConfig h _ _ => [.hdr h]
  | .portStatus h _ => [.hdr h]
  | .portCounters h _ => [.hdr h]
  | .fdbWrite h _ _ => [.hdr h]
  | .streamWrite h _ _ => [.hdr h]
  | .queueConfig h _ => [.hdr h]
  | .stencilWrite h _ _ _ _ _ => [.hdr h]
  | .timeGet h => [.hdr h]
  | .timeSet h _ _ => [.hdr h]
  | .servoConfig h _ => [.hdr h]
  | .tioConfig h _ _ => [.hdr h]
  | .rulConfig h _ _ _ _ => [.hdr h]
  | .markConfig h _ _ => [.hdr h]
  | .rulStart h _ => [.hdr h]
  | .rulStop h _ => [.hdr h]
  | .imageDefine h _ _ => [.hdr h]
  | .imageMap h _ => [.hdr h]
  | .loopWrite h _ => [.hdr h]
  | .captureRead h _ _ => [.hdr h]
  | .loopRead h _ => [.hdr h]
  | .tsgConfig h _ => [.hdr h]
  | .mbConfig h _ _ => [.hdr h]
  | .mbStatus h _ => [.hdr h]
  | .nmConfig h _ => [.hdr h]
  | .sleepRequest h _ => [.hdr h]
  | .wakeRequest h _ => [.hdr h]
  | .schedStats h => [.hdr h]
  | .coreConfig h _ => [.hdr h]
  | .applicationMessage rq _ _ => [.rq rq]
  | .epochConfig h _ => [.hdr h]
  | .impressionRead h _ => [.hdr h]
  | .stippleConfig h _ => [.hdr h]
  | .draftOpen h => [.hdr h]
  | .draftWrite h _ => [.hdr h]
  | .draftActivate h _ _ _ _ _ _ => [.hdr h]
  | .draftDiscard h => [.hdr h]
  | .sealGet h => [.hdr h]
  | .topologyRead h => [.hdr h]
  | .scan h => [.hdr h]
  | .faultRead h _ => [.hdr h]
  | .proofFetch h => [.hdr h]
  | .proofClear h => [.hdr h]
  | .powerSet h _ => [.hdr h]
  | .powerGet h => [.hdr h]
  | .installBegin h => [.hdr h]
  | .installData h _ => [.hdr h]
  | .installCommit h _ => [.hdr h]
  | .installStatus h => [.hdr h]
  | .slotWrite rq _ _ _ _ => [.rq rq]
  | .slotRead rq _ _ _ => [.rq rq]
  | .commit rq _ => [.rq rq]
  | .release rq _ => [.rq rq]
  | .doorbellMaskWrite rq _ _ => [.rq rq]
  | .doorbellSet rq _ _ => [.rq rq]
  | .bindLock rq => [.rq rq]
  | .mbxCtxopClear rq _ => [.rq rq]
  | .mbxCtxopRevert rq _ => [.rq rq]
  | .claimRead _ rqs => rqs.map .rq
  | .claimReleaseWrite rq _ _ => [.rq rq]
  | .claimForceRelease rq _ => [.rq rq]
  | .add _ _ => []
  | .adds _ _ => []
  | .sub _ _ => []
  | .subs _ _ => []
  | .neg _ _ => []
  | .and _ _ => []
  | .or _ _ => []
  | .xor _ _ => []
  | .andn _ _ => []
  | .sll _ _ => []
  | .srl _ _ => []
  | .sra _ _ => []
  | .ror _ _ => []
  | .mul _ _ => []
  | .mulh _ _ => []
  | .mulhu _ _ => []
  | .div _ _ => []
  | .divu _ _ => []
  | .rem _ _ => []
  | .remu _ _ => []
  | .min _ _ => []
  | .max _ _ => []
  | .minu _ _ => []
  | .maxu _ _ => []
  | .ceq _ _ => []
  | .cne _ _ => []
  | .clt _ _ => []
  | .cltu _ _ => []
  | .cle _ _ => []
  | .cleu _ _ => []
  | .clz _ _ => []
  | .popc _ _ => []
  | .brev _ _ => []
  | .parity _ _ => []
  | .sext _ _ => []
  | .crcb _ _ => []
  | .crch _ _ => []
  | .crcw _ _ => []
  | .crcbm _ _ => []
  | .crchm _ _ => []
  | .crcwm _ _ => []
  | .addi _ _ => []
  | .andi _ _ => []
  | .ori _ _ => []
  | .xori _ _ => []
  | .slli _ _ => []
  | .srli _ _ => []
  | .srai _ _ => []
  | .rori _ _ => []
  | .ceqi _ _ => []
  | .clti _ _ => []
  | .cltui _ _ => []
  | .lui _ _ => []
  | .bfx _ _ => []
  | .bfxs _ _ => []
  | .bfi _ _ => []
  | .lb _ _ => []
  | .lbu _ _ => []
  | .lh _ _ => []
  | .lhu _ _ => []
  | .lw _ _ => []
  | .sb _ _ => []
  | .sh _ _ => []
  | .sw _ _ => []
  | .postedStoreResponse _ _ => []
  | .bz _ _ => []
  | .bnz _ _ => []
  | .jmp _ _ => []
  | .call _ _ => []
  | .rep _ _ => []
  | .fence _ _ => []
  | .jr _ _ => []
  | .callr _ _ => []
  | .ret _ _ => []
  | .rete _ _ => []
  | .mfs _ _ => []
  | .mts _ _ => []
  | .trap _ _ => []
  | .brk _ _ => []
  | .wfe _ _ => []
  | .wfeWake _ => []
  | .ckpt _ _ => []
  | .fadd _ _ => []
  | .fsub _ _ => []
  | .fmul _ _ => []
  | .fdiv _ _ => []
  | .fsqrt _ _ => []
  | .fmin _ _ => []
  | .fmax _ _ => []
  | .fitof _ _ => []
  | .fftoi _ _ => []
  | .fceq _ _ => []
  | .fclt _ _ => []
  | .fcle _ _ => []
  | .interrupt _ => []
  | .debugHalt rq _ => [.rq rq]
  | .debugResume rq _ => [.rq rq]
  | .threadStart rq _ => [.rq rq]
  | .threadStop rq _ => [.rq rq]
  | .threadRestore rq _ _ => [.rq rq]
  | .threadStandby rq _ => [.rq rq]
  | .threadClear rq _ => [.rq rq]
  | .threadFail rq _ => [.rq rq]
  | .threadDebug rq _ => [.rq rq]
  | .engineLocalReset rq _ => [.rq rq]
  | .engineClearDone _ => []
  | .softwareEvent rq _ _ => [.rq rq]
  | .checkpointComplete _ => []
  | .restoreComplete _ => []
  | .threadWatchdogExpiry _ => []
  | .engineParityError _ => []
  | .burinStart rq _ _ _ => [.rq rq]
  | .burinStop rq _ _ _ => [.rq rq]
  | .burinSwapRequest rq _ _ _ => [.rq rq]
  | .burinSwap _ _ => []
  | .burinLocalReset rq _ _ _ => [.rq rq]
  | .burinNop _ _ => []
  | .burinSho _ _ => []
  | .burinShi _ _ => []
  | .burinShx _ _ => []
  | .burinPull _ _ => []
  | .burinPush _ _ => []
  | .burinSet _ _ => []
  | .burinWaitp _ _ => []
  | .burinWaitt _ _ => []
  | .burinJmp _ _ => []
  | .burinLdc _ _ => []
  | .burinLdi _ _ => []
  | .burinMov _ _ => []
  | .burinIrq _ _ => []
  | .burinSynco _ _ => []
  | .burinClkr _ _ => []
  | .burinHalt _ _ => []
  | .burinShiftEnd _ _ => []
  | .automaticPull _ => []
  | .automaticPush _ => []
  | .burinTxWrite rq _ _ => [.rq rq]
  | .burinRxRead rq _ => [.rq rq]
  | .burinStallTimeout _ => []
  | .burinSyncArm rq _ _ => [.rq rq]
  | .burinSyncAction _ => []
  | .burinInject rq _ _ _ => [.rq rq]
  | .burinInjectedExecute _ _ => []
  | .burinForcedInject rq _ _ _ => [.rq rq]
  | .linkOk _ _ _ _ => []
  | .holdElapsed _ => []
  | .lossOfLink _ => []
  | .fastLinkFail _ => []
  | .frameReceive _ _ _ _ => []
  | .collision _ _ => []
  | .backoffExpiry _ => []
  | .plcaBeacon _ => []
  | .frameTransmit _ => []
  | .tsqRead rq _ => [.rq rq]
  | .switchFrameIngress _ => []
  | .branchReadmit _ => []
  | .fdbAgeOut _ => []
  | .nodeTableAgeOut _ _ => []
  | .transmissionSelection _ => []
  | .stencilGateChange _ => []
  | .stencilChangeOver _ => []
  | .pipelineClockStop _ => []
  | .ringPost rq _ _ _ => [.rq rq]
  | .txDescriptorFetch _ _ => []
  | .rxRingDelivery _ => []
  | .ringRelease rq _ _ _ => [.rq rq]
  | .swCtxopClear rq _ => [.rq rq]
  | .swCtxopRevert rq _ => [.rq rq]
  | .hkRingPoll _ _ => []
  | .tableWrite rq _ _ _ _ _ _ => [.rq rq]
  | .tableRead rq _ _ => [.rq rq]
  | .timeRead rq => [.rq rq]
  | .setState rq _ => [.rq rq]
  | .timeStep rq _ _ => [.rq rq]
  | .correlationRequest rq => [.rq rq]
  | .periodicCorrelation => []
  | .freqWrite rq _ => [.rq rq]
  | .phaseWrite rq _ => [.rq rq]
  | .updateTimeout => []
  | .tioCapture _ _ => []
  | .captureQueueRead rq _ => [.rq rq]
  | .triggerArm rq _ _ => [.rq rq]
  | .triggerEdge _ _ => []
  | .ppsOutPulse _ => []
  | .runSet rq _ _ => [.rq rq]
  | .cycleStart _ => []
  | .rulingFrameLaunch _ _ _ => []
  | .rulingFrameReceive _ _ => []
  | .returnDeadline _ _ _ => []
  | .repairPoint _ _ _ => []
  | .listenTimerExpiry _ => []
  | .cycleMark _ _ => []
  | .imageFillComplete _ => []
  | .imageReadyWrite rq _ _ => [.rq rq]
  | .hardwareReady _ => []
  | .imageEnable rq _ _ => [.rq rq]
  | .imageDisable rq _ => [.rq rq]
  | .imageBufferWrite rq _ data => [.rq rq, .xfer true 0 data.length]
  | .imageBufferRead rq _ len => [.rq rq, .xfer false len 0]
  | .leaseTake rq _ => [.rq rq]
  | .leaseRelease rq _ => [.rq rq]
  | .imgctxopRelease rq _ => [.rq rq]
  | .softwareTrigger rq => [.rq rq]
  | .loopTimerFire _ => []
  | .loopBatch => []
  | .loopStep _ => []
  | .loopOutputResponse _ => []
  | .pendsetSet rq _ _ => [.rq rq]
  | .pendsetClear rq _ _ => [.rq rq]
  | .recordTake _ _ => []
  | .iwdataRead rq => [.rq rq]
  | .iwdataWrite rq _ => [.rq rq]
  | .rcClearDone => []
  | .tsgArm rq _ => [.rq rq]
  | .tsgDisable rq _ => [.rq rq]
  | .captureArm rq _ => [.rq rq]
  | .txRequest rq _ _ => [.rq rq]
  | .txAbort rq _ _ => [.rq rq]
  | .startDecision _ => []
  | .transmissionAttemptEnd _ _ _ => []
  | .mbFrameReceive _ _ _ _ _ => []
  | .busError _ _ _ _ _ => []
  | .busIntegration _ => []
  | .busoffRecover rq _ => [.rq rq]
  | .busoffRecoveryDone _ => []
  | .rxPop rq _ => [.rq rq]
  | .rxWindowAutopop rq _ => [.rq rq]
  | .mbLocalReset rq _ => [.rq rq]
  | .mbConfigTake _ => []
  | .ringReport rq _ _ => [.rq rq]
  | .ringTimerExpiry _ => []
  | .tokenDue _ => []
  | .ringctlLocal rq _ _ => [.rq rq]
  | .ringctlWake rq _ => [.rq rq]
  | .sleepWaitExpiry _ => []
  | .wakePulseEnd => []
  | .wakeLineQualified => []
  | .wakeLineRelease => []
  | .remoteWake _ => []
  | .failsafeRequest rq _ _ => [.rq rq]
  | .failsafeKick rq _ _ => [.rq rq]
  | .failsafeExpiry _ => []
  | .submit rq => [.rq rq]
  | .hostSubmitPoll _ => []
  | .dispatchDecision => []
  | .spill => []
  | .take rq => [.rq rq]
  | .done rq => [.rq rq]
  | .coreFailure _ _ => []
  | .coreWatchdogExpiry _ => []
  | .coreopRequeue rq _ => [.rq rq]
  | .coreopDiscard rq _ => [.rq rq]
  | .coreopAdmit rq _ => [.rq rq]
  | .wscCtxopClear rq _ => [.rq rq]
  | .loadIntervalEnd => []
  | .channelStart rq _ _ _ => [.rq rq]
  | .channelAbort rq _ _ => [.rq rq]
  | .abortComplete _ _ => []
  | .channelClear rq _ _ => [.rq rq]
  | .dmLocalReset rq _ => [.rq rq]
  | .dmCtxopClear rq _ _ => [.rq rq]
  | .pantoMove _ _ => []
  | .pantoGather _ _ => []
  | .pantoScatter _ _ => []
  | .pantoLoop _ _ => []
  | .pantoEndloop _ _ => []
  | .pantoWait _ _ => []
  | .waitSourceOccurrence _ => []
  | .waitTimeout _ _ => []
  | .pantoSignal _ _ => []
  | .pantoFence _ _ => []
  | .pantoHalt _ _ => []
  | .plateAccess rq write _ len data => [.rq rq, .xfer write len data.length]
  | .rotateAliasAccess rq write _ len data => [.rq rq, .xfer write len data.length]
  | .scrub _ => []
  | .bankRetire rq _ => [.rq rq]
  | .bankTest rq _ => [.rq rq]
  | .bankTestDone _ => []
  | .sealedBankAccess rq write _ len data => [.rq rq, .xfer write len data.length]
  | .sealedWipeRequest rq => [.rq rq]
  | .wipeComplete => []
  | .tamperQualified _ => []
  | .memoryClear => []
  | .memoryClearDone => []
  | .lifecycleRequest rq _ _ => [.rq rq]
  | .fuseProgrammingDone _ => []
  | .noticeRead rq => [.rq rq]
  | .recoveryDone rq _ => [.rq rq]
  | .recordClear rq _ => [.rq rq]
  | .softwareFaultRecord rq _ _ => [.rq rq]
  | .forceWrite rq _ => [.rq rq]
  | .proofWrite => []
  | .heartbeat rq _ => [.rq rq]
  | .heartbeatTimeout => []
  | .lockstepDivergence => []
  | .romTimeout => []
  | .romRecovery _ => []
  | .oscillatorCheck _ => []
  | .dozeEntry _ _ _ => []
  | .dozeWake _ _ _ _ => []
  | .regionPowerOff rq _ => [.rq rq]
  | .regionPowerUp rq _ => [.rq rq]
  | .regionUpComplete _ => []
  | .regionResetAssert rq _ => [.rq rq]
  | .regionResetRelease rq _ => [.rq rq]
  | .holdEntry rq _ _ => [.rq rq]
  | .holdWake _ => []
  | .holdExitComplete => []
  | .offEntry rq _ => [.rq rq]
  | .offWake _ => []
  | .powerOnReset _ => []
  | .porst _ => []
  | .warmReset rq _ _ => [.rq rq]
  | .powerGoodLoss _ _ => []
  | .monitorFault _ _ => []
  | .plateClear rq _ _ => [.rq rq]
  | .plateClearDone => []
  | .boot _ _ _ _ _ => []
  | .hostBootImage _ _ _ _ => []
  | .governorSample _ => []
  | .epochBoundary => []
  | .epochForce rq => [.rq rq]
  | .epochConfigWrite rq _ _ => [.rq rq]
  | .impressionWritten => []
  | .draftCopyWrite rq _ _ => [.rq rq]
  | .revert rq => [.rq rq]
  | .activationArm rq => [.rq rq]
  | .activationBoundary => []
  | .lldpSend _ => []
  | .lldpReceive _ _ => []
  | .neighbourAgeOut _ => []
  | .epochMismatchTimeout _ => []
  | .referenceValid _ => []
  | .pllLockLost => []
  | .dieLinkTrainingLost => []
  | .controlStateError _ => []
  | .slewEnd => []
  | .powerGood _ => []
  | .bankSupplyChange _ _ => []
  | .plcaStatusLoss _ => []
  | .queueLengthSample => []

/-- A well-formed command. -/
def Instr.wf (i : Instr) : Bool := i.parts.all Part.wf

end Sys2Proof
end

