-- ==== Sys2Proof/Tests/Slice0.lean ====
section
/-! SUPPORT. The author's own tests: an ill-formed term for each check, states and operands that meet the hypotheses of the statements, and
results of single operations that the spec's tables and worked examples give. -/
set_option Elab.async false

namespace Sys2Proof.Tests
open Sys2Proof Sys2Proof.Machine

/-! ## Helpers -/

/-- The Keyblock in secure state, the debug port, the host function 0, thread 0 with context key 0, application core 0. -/
def kb : Rq := ⟨0x08, none, none, 0, true, false⟩
def dbg : Rq := ⟨0x50, none, none, 0, false, false⟩
def hostRq : Rq := ⟨0x01, none, none, 0, false, false⟩
def th0Rq : Rq := ⟨0x10, some 0, some 0, 0, false, false⟩
def core0Rq : Rq := ⟨0x30, none, none, 0, false, false⟩

/-- The machine after reset, once the block has cleared its memories (R445): masters reach the block from then on. -/
def live : State := State.reset.setFs [(PLT.CLRSTAT_DONE, 1)]

/-- The same with register fields set. -/
def at0 (l : List (FldAt × Nat)) : State := live.setFs l

/-- The same with no Request credit left on a queue, in either direction. -/
def dry (q : Nat) : State := (live.setPool q 0 0 ⟨0, 0⟩).setPool q 0 1 ⟨0, 0⟩

/-- Application core 0 at address 0x100, with general registers. -/
def onA (g : List (Nat × Word)) : State :=
  live.setCore 192 { coreReset 192 0 with g := g, pc := 0x100 }

/-- Engine thread 0 in RUN at address 0x100 with its whole instruction and data RAM. -/
def onE (g : List (Nat × Word)) : State :=
  (at0 [(CC.THCTL_STATE 0 0 0, 1), (CC.THIMEM_SIZE 0 0 0, 64), (CC.THDMEM_SIZE 0 0 0, 64)]).setCore 0 { coreReset 0 0 with g := g, pc := 0x100 }

/-- The same in user mode, with execute, read and write rights to the whole address space. -/
def onUser (g : List (Nat × Word)) : State :=
  live.setCore 192 { coreReset 192 0 with g := g, pc := 0x100, ectl := 2, mpu := [(0, 1), (1, 0xFFFFFFC0), (2, 7)] }

/-- The conditions of `State.issues` as one Bool. -/
def canIssue (s : State) (c : CoreIx) : Bool :=
  s.runs c && !s.asyncDue c && decide (s.fetchBad c (s.pc c) = none) && s.mpuOk c 2 (s.pc c) &&
    !s.fetchFixes c (s.pc c) && s.wordListed c (s.pc c) && decide (c.val < 192 → s.thState c = 1)

theorem issues_of (s : State) (c : CoreIx) (h : canIssue s c = true) : s.issues c := by
  simp only [canIssue, Bool.and_eq_true, Bool.not_eq_true', decide_eq_true_eq] at h
  exact ⟨h.1.1.1.1.1.1, h.1.1.1.1.1.2, h.1.1.1.1.2, h.1.1.1.2, h.1.1.2, h.1.2, h.2⟩

/-! ## Ill-formed commands -/

/-- An identity that Table 1.14 does not list; a key no thread has; a requester key of another engine; secure state of a function. -/
theorem wf_refuses_requesters :
    (Instr.bindLock ⟨0x03, none, none, 0, false, false⟩).wf = false ∧ (Instr.bindLock ⟨0x01, none, some 0, 0, false, false⟩).wf = false ∧
    (Instr.bindLock ⟨0x10, some 8, none, 0, false, false⟩).wf = false ∧ (Instr.bindLock ⟨0x01, none, none, 0, true, false⟩).wf = false ∧
    (Instr.bindLock ⟨0x30, none, some 0xBF, 0, false, false⟩).wf = false ∧ (Instr.bindLock kb).wf = true ∧ (Instr.bindLock th0Rq).wf = true := by decide

/-- A Feholt header with BULK and no descriptor, one too long, one too long beside a descriptor. -/
theorem wf_refuses_headers :
    (Instr.sealGet ⟨0, 0, 1, 0, 0, 1, none⟩).wf = false ∧ (Instr.sealGet ⟨0, 0, 0, 0, 49, 1, none⟩).wf = false ∧
    (Instr.sealGet ⟨0, 0, 1, 0, 33, 1, some ⟨0, 64, 0, false⟩⟩).wf = false ∧ (Instr.sealGet ⟨0, 0, 0, 0, 48, 1, none⟩).wf = true ∧
    (Instr.sealGet ⟨0, 0, 1, 0, 32, 1, some ⟨0, 64, 0, false⟩⟩).wf = true := by decide

/-- A transfer of no bytes, a flit of 35 bytes. -/
theorem wf_refuses_transfers :
    (Instr.plateAccess kb false 0x10000000 0 []).wf = false ∧ (Instr.plateAccess kb true 0x10000000 4 []).wf = false ∧
    (Instr.flitReceive true ⟨List.replicate 35 0, [], []⟩).wf = false ∧ (Instr.flitReceive true ⟨List.replicate 36 0, [], []⟩).wf = true := by decide

/-! ## The block as a whole -/

/-- A tick, a command at the front, a state whose network time is in range and one whose is not. -/
theorem witness_block :
    ({ live with pending := [.slewEnd] } : State).pending = [Instr.slewEnd] ∧ live.pending = [] ∧ live.timeWf = true ∧
    ({ live with time := { TimeUnit.reset with sub := secUnit } } : State).timeWf = false ∧ live.sound = true ∧
    ({ live with powerOff := true } : State).powerOff = true ∧ ({ live with noRef := true } : State).noRef = true ∧
    (let s : State := { live with ticks := 1 }; s.pending = [] ∧ s.clkLives 7 = true ∧ (s.beNow 56 + 1) % 2 = 0) ∧ (at0 [(SYS.PWRSTAT_STATE, 4)]).f SYS.PWRSTAT_STATE = 4 := by decide

/-- Table 9.2: with FREQ = 0 a tick of TCLK adds 2 ns. -/
theorem test_tick_adds_two_ns : (match step State.reset with | .next t => t.now | _ => 0) = 2 := by decide

/-! ## Tilouzu -/

/-- Register instructions on an application core, an engine thread and the Keyblock; sums at and beyond both bounds of R115. -/
theorem witness_register_operations :
    (onA [(1, 7), (2, 9)]).issues 192 ∧ (onE []).issues 0 ∧ live.issues 208 ∧ (⟨3, 1, 2, 0⟩ : FmtR).v = 0 ∧
    ((onA [(1, 0x7FFFFFFF), (2, 1)]).issues 192 ∧ ((onA [(1, 0x7FFFFFFF), (2, 1)]).g 192 1).toInt + 1 > 0x7FFFFFFF) ∧
    ((onA [(1, 0x80000000)]).issues 192 ∧ ((onA [(1, 0x80000000)]).g 192 1).toInt - 1 < -0x80000000) :=
  ⟨issues_of _ _ (by decide), issues_of _ _ (by decide), issues_of _ _ (by decide), rfl, ⟨issues_of _ _ (by decide), by decide⟩,
    issues_of _ _ (by decide), by decide⟩

/-- Tables 4.3 to 4.7: words written out field by field in each format: R, I, L, M, B, J, REP, X and the floating-point group; 0xFFFF_FFFF and an
unlisted function spell nothing. -/
theorem test_words :
    decodeTableWord 32 (3 * 2 ^ 22 + 1 * 2 ^ 18 + 2 * 2 ^ 14) = some (.add 0 ⟨3, 1, 2, 0⟩) ∧
    decodeTableWord 32 (3 * 2 ^ 22 + 1 * 2 ^ 18 + 0x030) = some (.clz 0 ⟨3, 1, 0, 0⟩) ∧
    decodeTableWord 32 (0x01 * 2 ^ 26 + 3 * 2 ^ 22 + 1 * 2 ^ 18 + 0x3FFFF) = some (.addi 0 ⟨3, 1, 0x3FFFF⟩) ∧
    decodeTableWord 32 (0x14 * 2 ^ 26 + 3 * 2 ^ 22 + 1 * 2 ^ 18 + 2 ^ 17 + 0x10004) = some (.lw 0 ⟨3, 1, true, 0x10004⟩) ∧
    decodeTableWord 32 (0x0D * 2 ^ 26 + 3 * 2 ^ 22 + 1 * 2 ^ 18 + 30 * 2 ^ 13 + 1 * 2 ^ 8) = some (.bfx 0 ⟨3, 1, 30, 1, 0⟩) ∧
    decodeTableWord 32 (0x21 * 2 ^ 26 + 15 * 2 ^ 22 + 0x3FFFFE) = some (.bnz 0 ⟨15, 0x3FFFFE⟩) ∧
    decodeTableWord 32 (0x22 * 2 ^ 26 + 0x2000001) = some (.jmp 0 0x2000001) ∧
    decodeTableWord 32 (0x24 * 2 ^ 26 + 2 ^ 21 + 0xFFFF) = some (.rep 0 ⟨0, true, 0, 0xFFFF⟩) ∧
    decodeTableWord 32 (0x28 * 2 ^ 26 + 0x07 * 2 ^ 12 + 0xABC) = some (.trap 0 ⟨0, 0, 0xABC⟩) ∧
    decodeTableWord 32 (0x30 * 2 ^ 26 + 3 * 2 ^ 22 + 1 * 2 ^ 18 + 0x004) = some (.fsqrt 0 ⟨3, 1, 0, 0⟩) ∧
    decodeTableWord 32 0xFFFFFFFF = none ∧ decodeTableWord 32 0x005 = none ∧ decodeTableWord 16 0 = none := by decide

/-- General register 3 of application core 0 after a command. -/
def g3 (o : Host.Outcome State Fault Refusal) : Nat := match o with | .next t => t.gr 192 3 | _ => 0

/-- Table 4.4 and R115: ADD wraps, ADDS saturates, SUB borrows, MULH is signed. -/
theorem test_arithmetic :
    g3 (exec (.add 192 ⟨3, 1, 2, 0⟩) (onA [(1, 0xFFFFFFFF), (2, 2)])) = 1 ∧
    g3 (exec (.adds 192 ⟨3, 1, 2, 0⟩) (onA [(1, 0x7FFFFFFF), (2, 1)])) = 0x7FFFFFFF ∧
    g3 (exec (.sub 192 ⟨3, 1, 2, 0⟩) (onA [(1, 1), (2, 2)])) = 0xFFFFFFFF ∧
    g3 (exec (.mulh 192 ⟨3, 1, 2, 0⟩) (onA [(1, 0xFFFFFFFF), (2, 2)])) = 0xFFFFFFFF := by decide

/-- Table 4.8: a shift by 32 or more clears, SRA fills with the sign, ROR takes the amount modulo 32; R116: REM has the sign of the dividend. -/
theorem test_shifts_and_remainder :
    g3 (exec (.sll 192 ⟨3, 1, 2, 0⟩) (onA [(1, 1), (2, 32)])) = 0 ∧
    g3 (exec (.sra 192 ⟨3, 1, 2, 0⟩) (onA [(1, 0x80000000), (2, 40)])) = 0xFFFFFFFF ∧
    g3 (exec (.ror 192 ⟨3, 1, 2, 0⟩) (onA [(1, 1), (2, 33)])) = 0x80000000 ∧
    g3 (exec (.rem 192 ⟨3, 1, 2, 0⟩) (onA [(1, 0xFFFFFFF9), (2, 2)])) = 0xFFFFFFFF := by decide

/-- R119: BREV and PARITY by bytes; R120: BFXS extends the sign of the field. -/
theorem test_bits :
    g3 (exec (.brev 192 ⟨3, 1, 0, 0⟩) (onA [(1, 0x01020304)])) = 0x8040C020 ∧
    g3 (exec (.parity 192 ⟨3, 1, 0, 0⟩) (onA [(1, 0x01030700)])) = 0xA ∧
    g3 (exec (.bfxs 192 ⟨3, 1, 4, 3, 0⟩) (onA [(1, 0x80)])) = 0xFFFFFFF8 := by decide

/-- The worked example of chapter 4: the CRC-32 of "123456789" by nine steps and the final XOR. -/
theorem test_crc32_check : crcStep (crcSel (coreReset 0 0) 0) 0xFFFFFFFF 0x393837363534333231 9 ^^^ 0xFFFFFFFF = 0xCBF43926 := by
  decide +kernel

/-- A division, one by 0 with DZT = 0 and one with DZT = 1. -/
theorem witness_division :
    ((onA [(1, 7), (2, 2)]).issues 192 ∧ (onA [(1, 7), (2, 2)]).g 192 2 ≠ 0) ∧
    ((onA [(1, 7)]).issues 192 ∧ (onA [(1, 7)]).g 192 2 = 0 ∧ ((onA [(1, 7)]).core 192).dzt = false) ∧
    (let s := (onA [(1, 7)]).setCore 192 { (onA [(1, 7)]).core 192 with ectl := 8 }
     s.issues 192 ∧ s.g 192 2 = 0 ∧ (s.core 192).dzt = true) :=
  ⟨⟨issues_of _ _ (by decide), by decide⟩, ⟨issues_of _ _ (by decide), by decide, by decide⟩, issues_of _ _ (by decide), by decide, by decide⟩

/-- Operands of one register, immediates, fields that end at bit 31, CRC instructions with memory at an aligned address of the local RAM alias. -/
theorem witness_unary_and_crc :
    (onA [(1, 0x10000)]).issues 192 ∧ ((⟨3, 1, 0, 2⟩ : FmtR).v = 2 ∧ (⟨3, 1, 0, 1⟩ : FmtR).v = 1 ∧ (⟨3, 1, 0, 0⟩ : FmtR).rb = 0) ∧
    (⟨3, 0, 0xFFFFF⟩ : FmtU).z = 0 ∧ ((⟨3, 1, 31, 0, 0⟩ : FmtM).z = 0 ∧ (31 : BitVec 5).toNat + ((0 : BitVec 5).toNat + 1) ≤ 32) ∧
    ((⟨3, 1, 0, 0⟩ : FmtR).rd ≠ (⟨3, 1, 0, 0⟩ : FmtR).ra ∧ (onA [(1, 0x10000)]).gr 192 1 % 4 = 0 ∧
      (onA [(1, 0x10000)]).load 192 0x10000 4 = .val 0 (onA [(1, 0x10000)])) :=
  ⟨issues_of _ _ (by decide), by decide, by decide, by decide, by decide⟩

/-- A repeat that goes on, one at its last count, and none. -/
theorem witness_retiring :
    (let x : Core := { coreReset 192 0 with ectl := 0x20, rc := 2 }; x.repa = true ∧ 1 < x.rc.toNat) ∧
    (let x : Core := { coreReset 192 0 with ectl := 0x20, rc := 1 }; x.repa = true ∧ x.rc.toNat ≤ 1) ∧ (coreReset 192 0).repa = false := by decide

/-- Loads and stores with P = 0 and P = 1 in the local RAM alias; a store outside it that is posted. -/
theorem witness_loads_and_stores :
    let s := onA [(1, 0x10000), (2, 5)]
    let far := onA [(1, 0x10000000), (2, 5)]
    (s.issues 192 ∧ ((⟨3, 1, true, 4⟩ : FmtL).p = true → (⟨3, 1, true, 4⟩ : FmtL).rd ≠ (⟨3, 1, true, 4⟩ : FmtL).ra) ∧
      s.load 192 0x10000 1 = .val 0 s ∧ s.load 192 0x10000 2 = .val 0 s ∧ s.load 192 0x10000 4 = .val 0 s) ∧
    (s.mpuOk 192 0 0x1FFFC = true ∧ 0x1FFFC < 0x20000 ∧ s.localCode 192 0x1FFFC 4 false = 0 ∧ ¬(prof 192 = .k ∧ 0x1FFFC < 0x8000) ∧
      s.eccIn (s.localPlace 192 0x1FFFC) 4 1 = false ∧ s.eccIn (s.localPlace 192 0x1FFFC) 4 2 = false) ∧
    (s.store 192 0x10000 5 4 = .done (s.putMem 0x100010000 [5, 0, 0, 0])) ∧ (s.mpuOk 192 1 0 = true ∧ s.localCode 192 0 4 true = 0) ∧
    (far.issues 192 ∧ far.mpuOk 192 1 0x10000000 = true ∧ (far.core 192).posted.length < 4 ∧ far.portShut 192 = false ∧ direct 192 0x10000000 = false ∧
      ((far.spend (coreQueue 192) 0 0 1).bind (fun w => w.spend (coreQueue 192) 1 1 1)).isSome = true ∧ direct 0 0x40208000 = true ∧
      (match far.store 192 0x10000000 5 4 with | .done _ => true | _ => false) = true) :=
  ⟨⟨issues_of _ _ (by decide), by decide, by decide, by decide, by decide⟩, by decide, by decide, by decide,
    issues_of _ _ (by decide), by decide, by decide, by decide, by decide, by decide, by decide, by decide⟩

/-- R123: LB extends the sign, a word is read least significant byte first. -/
theorem test_loads :
    let s := (onA [(1, 0x10000)]).putMem 0x100010000 [0x80, 1, 2, 3]
    g3 (exec (.lb 192 ⟨3, 1, false, 0⟩) s) = 0xFFFFFF80 ∧ g3 (exec (.lw 192 ⟨3, 1, false, 0⟩) s) = 0x03020180 := by decide

/-- Jumps and calls with the reset stack pointer, a return through a popped address, REP before a NOP-like word and before a word it may not repeat. -/
theorem witness_branches :
    let s := onA [(1, 0x200), (15, 0x20000)]
    let r := onA [(15, 0x1FFFC)]
    let bad := (onA []).putMem 0x100000104 (leBytes 4 0x80000000)
    (s.issues 192 ∧ s.sp 192 % 4 = 0 ∧ (s.core 192).sl = 0 ∧ s.gr 192 1 % 4 = 0 ∧
      s.store 192 (sub32 (s.sp 192) 4) 0x104 4 = .done (s.putMem 0x10001FFFC (leBytes 4 0x104))) ∧
    (r.issues 192 ∧ r.sp 192 % 4 = 0 ∧ r.load 192 0x1FFFC 4 = .val 0 r) ∧
    ((onA []).issues 192 ∧ (onA []).fetchBad 192 0x104 = none ∧ (onA []).mpuOk 192 2 0x104 = true ∧
      repForbidden ((onA []).fetchWord 192 0x104) = false) ∧
    (bad.issues 192 ∧ bad.fetchBad 192 0x104 = none ∧ repForbidden (bad.fetchWord 192 0x104) = true) :=
  ⟨⟨issues_of _ _ (by decide), by decide, by decide, by decide, by decide⟩, ⟨issues_of _ _ (by decide), by decide, by decide⟩,
    ⟨issues_of _ _ (by decide), by decide, by decide, by decide⟩, issues_of _ _ (by decide), by decide, by decide⟩

/-- R117, R127: BZ taken goes back by one word; CALL stores the address of the next word. -/
theorem test_branch_and_call :
    (match exec (.bz 192 ⟨1, 0x3FFFFF⟩) (onA []) with | .next t => t.pc 192 | _ => 0) = 0xFC ∧
    (match exec (.call 192 4) (onA [(15, 0x20000)]) with | .next t => (t.pc 192, t.sp 192, t.memWord 0x10001FFFC) | _ => (0, 0, 0)) =
      (0x110, 0x1FFFC, 0x104) := by decide

/-- FENCE with and without a posted store, MFS and MTS of a register the profile has and of one it lacks, in both modes. -/
theorem witness_specials :
    let user := onUser []
    let busy := (onA []).setCore 192 { (onA []).core 192 with posted := [⟨0x10000000, [0], core0Rq⟩] }
    ((onA []).issues 192 ∧ ((onA []).core 192).posted = [] ∧ ((onA []).core 192).user = false ∧ (onA []).mfs 192 2 = some (0, onA []) ∧
      (onA []).mfs 192 13 = none ∧ (((onA []).core 192).mts 192 2 0).isSome = true ∧ ((onA []).core 192).mts 192 13 0 = none) ∧
    (busy.issues 192 ∧ (busy.core 192).posted ≠ []) ∧
    (user.issues 192 ∧ (user.core 192).user = true ∧ ((user.core 192).mts 192 2 0).isSome = true ∧ ((user.core 192).mts 192 12 0).isSome = true) :=
  ⟨⟨issues_of _ _ (by decide), by decide, by decide, by decide, by decide, by decide, by decide⟩, ⟨issues_of _ _ (by decide), by decide⟩,
    issues_of _ _ (by decide), by decide, by decide, by decide⟩

/-- R108: on the K profile an MTS clears SEC and cannot set it. -/
theorem test_sec_only_clears :
    ((coreReset 208 0).mts 208 3 0).map (fun x => x.ectl) = some 0 ∧
    (({ coreReset 208 0 with ectl := 0 } : Core).mts 208 3 4).map (fun x => x.ectl) = some 0 := by decide

/-- An exception at the lowest and the highest stack pointer of the alias, RETE in both modes, BRK with a debug port. -/
theorem witness_exceptions :
    let s := onA [(15, 0x1FFF4)]
    let user := onUser []
    let attached : State := { onA [] with dbgAttached := true }
    let entry := fun (s : State) (c : CoreIx) =>
      s.sp c % 4 = 0 ∧ 0x10000 + 12 ≤ s.sp c ∧ s.sp c ≤ 0x20000 ∧ (prof c = .k → s.sp c ≤ 0x18000) ∧ (s.core c).sl = 0 ∧
        ∀ k, k < 4 → 1 ≤ k → s.mpuOk c 1 (s.sp c - 4 * k) = true ∧ s.localCode c (s.sp c - 4 * k) 4 true = 0
    (entry (onA [(15, 0x20000)]) 192 ∧ entry (onA [(15, 0x1000C)]) 192 ∧ entry (onE [(15, 0x20000)]) 0 ∧ entry live 208) ∧
    (s.issues 192 ∧ (s.core 192).user = false ∧ (∀ a ∈ [0x1FFF4, 0x1FFF8, 0x1FFFC], s.mpuOk 192 0 a = true) ∧ s.load 192 (s.sp 192) 4 = .val 0 s ∧ s.load 192 0x1FFF8 4 = .val 0 s ∧
      s.load 192 0x1FFFC 4 = .val 0 s) ∧
    (user.issues 192 ∧ (user.core 192).user = true) ∧ (attached.issues 192 ∧ attached.dbgAttached = true ∧ (attached.core 192).posted = []) ∧
    (onA []).dbgAttached = false :=
  ⟨by decide, ⟨issues_of _ _ (by decide), by decide, by decide, by decide, by decide, by decide⟩, ⟨issues_of _ _ (by decide), by decide⟩,
    ⟨issues_of _ _ (by decide), by decide, by decide⟩, by decide⟩

/-- R132, Table 4.12: TRAP 7 leaves cause 5 and DETAIL 7 in ESTAT, the next word on the stack, and goes to EVB + 0x50. -/
theorem test_trap :
    (match exec (.trap 192 ⟨0, 0, 7⟩) (onA [(15, 0x20000)]) with
      | .next t => (t.pc 192, (t.core 192).estat.toNat, t.memWord 0x10001FFFC) | _ => (0, 0, 0)) = (0x50, 0x70005, 0x104) := by decide

/-- WFE with and without a source, a core that waits; an imprecise Bus Error, an interrupt and neither at a boundary. -/
theorem witness_waiting :
    let src : State := (onA []).setFs [(WSC.CORESTAT_OFFER 0, 1), (WSC.CORECFG_IEN 0, 1)]
    let waits := src.setCore 192 { src.core 192 with wfe := true }
    let imp := (onA []).setCore 192 { (onA []).core 192 with imp := [(0x40000000, 1)] }
    let ie := src.setCore 192 { src.core 192 with ectl := 1 }
    (src.issues 192 ∧ (src.core 192).user = false ∧ src.wfeSources 192 ≠ 0) ∧ ((onA []).issues 192 ∧ (onA []).wfeSources 192 = 0) ∧
    ((onE []).issues 0 ∧ (onE []).wfeSources 0 = 0) ∧ (waits.waits 192 = true ∧ waits.wfeSources 192 ≠ 0) ∧
    (imp.runs 192 = true ∧ (imp.core 192).repFresh = false ∧ (imp.core 192).imp = [(0x40000000, 1)]) ∧ (ie.runs 192 = true ∧ (ie.core 192).imp = [] ∧ ie.intNow 192 = some 0) ∧
    ((onA []).runs 192 = true ∧ (onA []).intNow 192 = none) :=
  ⟨⟨issues_of _ _ (by decide), by decide, by decide⟩, ⟨issues_of _ _ (by decide), by decide⟩, ⟨issues_of _ _ (by decide), by decide⟩,
    by decide, by decide, by decide, by decide⟩

/-- A posted store that may be answered; one behind an older store to its bytes may not. -/
theorem witness_posted_store :
    let l : List Posted := [⟨0x10000000, [1], core0Rq⟩, ⟨0x10000000, [2], core0Rq⟩]
    let s := (onA []).setCore 192 { (onA []).core 192 with posted := l }
    s.mayServe (s.core 192).posted 0 = true ∧ s.wayFree 192 0x10000000 1 true = true ∧ (s.core 192).posted[0]? = some ⟨0x10000000, [1], core0Rq⟩ ∧
    s.mayServe (s.core 192).posted 1 = false := by decide

/-- A floating-point operation on an application core, one whose trap is enabled and due, one on an engine thread. -/
theorem witness_floating_point :
    let s := onA [(1, 0x3F800000)]
    let trap := s.setCore 192 { s.core 192 with fcsr := 0x100 }
    (s.issues 192 ∧ prof 192 = .a ∧ (⟨3, 1, 0, 0⟩ : FmtR).rb = 0) ∧
    (trap.issues 192 ∧ bitOf (trap.core 192).fcsr.toNat 8 = true ∧ (fDiv (fenv (trap.core 192)) (trap.gr 192 1) (trap.gr 192 2)).2 &&& 0x18 ≠ 0) ∧
    ((onE []).issues 0 ∧ prof 0 = .e) :=
  ⟨⟨issues_of _ _ (by decide), by decide, by decide⟩, ⟨issues_of _ _ (by decide), by decide, by decide⟩, issues_of _ _ (by decide), by decide⟩

/-- IEEE 754 binary32: 1 + 2 = 3, 1 / 0 = +inf with DZ, FFTOI of 2.0 is 2. -/
theorem test_floating_point :
    g3 (exec (.fadd 192 ⟨3, 1, 2, 0⟩) (onA [(1, 0x3F800000), (2, 0x40000000)])) = 0x40400000 ∧
    g3 (exec (.fdiv 192 ⟨3, 1, 2, 0⟩) (onA [(1, 0x3F800000)])) = 0x7F800000 ∧
    g3 (exec (.fmul 192 ⟨3, 1, 2, 0⟩) (onA [(1, 0xC0000000), (2, 0x40000000)])) = 0xC0800000 := by decide

/-- The encodings that a format refuses, at their boundary values, and a misaligned word access. -/
theorem witness_refused_forms :
    (onA [(1, 2)]).issues 192 ∧ (⟨3, 1, 0, 1⟩ : FmtR).v ≠ 0 ∧ (⟨3, 1, 1, 0⟩ : FmtR).rb ≠ 0 ∧ 3 ≤ (⟨3, 1, 0, 3⟩ : FmtR).v.toNat ∧
    (⟨1, 1, true, 4⟩ : FmtL).rd = (⟨1, 1, true, 4⟩ : FmtL).ra ∧ 32 ≤ (⟨3, 1, 31, 1, 0⟩ : FmtM).pos.toNat + (⟨3, 1, 31, 1, 0⟩ : FmtM).wm1.toNat ∧
    (⟨1, 0, 0⟩ : FmtX).rd ≠ 0 ∧ (onA [(1, 2)]).gr 192 1 % 4 ≠ 0 :=
  ⟨issues_of _ _ (by decide), by decide, by decide, by decide, by decide, by decide, by decide, by decide⟩

/-- Thread 0 with a valid checkpoint slot at the start of Plate. -/
def ckSt : State := (onE []).setFs [(CC.THCK_V 0 0 0, 1), (CC.THCK_SLOT 0 0 0, 0x40000)]

/-- A captured CKPT and a RESTORE of thread 0 at the head of the queue of engine 0. -/
def ckOp (restore : Bool) : CkOp := ⟨0, restore, !restore, 1, 0, 1, List.replicate 64 0, 0, 0⟩

/-- A slot in the L2 window of region 0, its first half written with no window and a good CRC. -/
def ckGood : State := (ckSt.setF (CC.THCK_SLOT 0 0 0) 0x84000).putMem 0x2100003C (leBytes 4 2791528945)

/-- The same with a window of 64 bytes at 0x10000, while the RAMs of engine 0 are being cleared. -/
def ckWipe : State :=
  (((ckSt.setFs [(CC.THCK_SLOT 0 0 0, 0x84000), (ofCe CC.ENGSTAT_CLEARING 0, 1)]).putMem 0x21000004 [0, 1, 0, 0]).putMem 0x21000008 [0, 0, 1, 0]).putMem
    0x2100003C (leBytes 4 4288228282)

/-- The CRC-32 of 252 zero bytes, in steps of 24. -/
theorem crc_of_zeros : crc32 (List.replicate 252 0) = 2791528945 := by
  let blk := List.replicate 24 (0 : Byte)
  have h : List.replicate 252 (0 : Byte) = blk ++ (blk ++ (blk ++ (blk ++ (blk ++ (blk ++ (blk ++ (blk ++ (blk ++ (blk ++ List.replicate 12 0))))))))) := by
    simp only [blk, List.replicate_append_replicate]
  have s1 : (List.replicate 24 (0 : Byte)).foldl crc32Byte 4294967295 = 1547580895 := by decide +kernel
  have s2 : (List.replicate 24 (0 : Byte)).foldl crc32Byte 1547580895 = 225922154 := by decide +kernel
  have s3 : (List.replicate 24 (0 : Byte)).foldl crc32Byte 225922154 = 4030547117 := by decide +kernel
  have s4 : (List.replicate 24 (0 : Byte)).foldl crc32Byte 4030547117 = 1158388305 := by decide +kernel
  have s5 : (List.replicate 24 (0 : Byte)).foldl crc32Byte 1158388305 = 3332539864 := by decide +kernel
  have s6 : (List.replicate 24 (0 : Byte)).foldl crc32Byte 3332539864 = 2415262307 := by decide +kernel
  have s7 : (List.replicate 24 (0 : Byte)).foldl crc32Byte 2415262307 = 4044800875 := by decide +kernel
  have s8 : (List.replicate 24 (0 : Byte)).foldl crc32Byte 4044800875 = 1946220301 := by decide +kernel
  have s9 : (List.replicate 24 (0 : Byte)).foldl crc32Byte 1946220301 = 2070577298 := by decide +kernel
  have s10 : (List.replicate 24 (0 : Byte)).foldl crc32Byte 2070577298 = 1134484460 := by decide +kernel
  have e : (List.replicate 12 (0 : Byte)).foldl crc32Byte 1134484460 ^^^ 0xFFFFFFFF = 2791528945 := by decide +kernel
  rw [crc32, h]
  simp only [List.foldl_append, blk, s1, s2, s3, s4, s5, s6, s7, s8, s9, s10, e]

/-- The CRC-32 of that header and of 256 zero bytes, in steps of 24. -/
theorem crc_of_window : crc32 ([0, 0, 0, 0, 0, 1, 0, 0, 0, 0, 1, 0] ++ List.replicate 304 0) = 4288228282 := by
  let blk := List.replicate 24 (0 : Byte)
  have h : List.replicate 304 (0 : Byte) = List.replicate 12 0 ++ (blk ++ (blk ++ (blk ++ (blk ++ (blk ++ (blk ++ (blk ++ (blk ++ (blk ++ (blk ++
      (blk ++ (blk ++ List.replicate 4 0)))))))))))) := by
    simp only [blk, List.replicate_append_replicate]
  have s0 : (([0, 0, 0, 0, 0, 1, 0, 0, 0, 0, 1, 0] : List Byte)).foldl crc32Byte 4294967295 = 994444133 := by decide +kernel
  have sA : (List.replicate 12 (0 : Byte)).foldl crc32Byte 994444133 = 382948593 := by decide +kernel
  have s1 : (List.replicate 24 (0 : Byte)).foldl crc32Byte 382948593 = 3354150771 := by decide +kernel
  have s2 : (List.replicate 24 (0 : Byte)).foldl crc32Byte 3354150771 = 3412541573 := by decide +kernel
  have s3 : (List.replicate 24 (0 : Byte)).foldl crc32Byte 3412541573 = 535217057 := by decide +kernel
  have s4 : (List.replicate 24 (0 : Byte)).foldl crc32Byte 535217057 = 852315091 := by decide +kernel
  have s5 : (List.replicate 24 (0 : Byte)).foldl crc32Byte 852315091 = 1879523168 := by decide +kernel
  have s6 : (List.replicate 24 (0 : Byte)).foldl crc32Byte 1879523168 = 3767079190 := by decide +kernel
  have s7 : (List.replicate 24 (0 : Byte)).foldl crc32Byte 3767079190 = 3846944624 := by decide +kernel
  have s8 : (List.replicate 24 (0 : Byte)).foldl crc32Byte 3846944624 = 1326940608 := by decide +kernel
  have s9 : (List.replicate 24 (0 : Byte)).foldl crc32Byte 1326940608 = 2404934069 := by decide +kernel
  have s10 : (List.replicate 24 (0 : Byte)).foldl crc32Byte 2404934069 = 472329506 := by decide +kernel
  have s11 : (List.replicate 24 (0 : Byte)).foldl crc32Byte 472329506 = 792167726 := by decide +kernel
  have s12 : (List.replicate 24 (0 : Byte)).foldl crc32Byte 792167726 = 2469504391 := by decide +kernel
  have e : (List.replicate 4 (0 : Byte)).foldl crc32Byte 2469504391 ^^^ 0xFFFFFFFF = 4288228282 := by decide +kernel
  rw [crc32, h]
  simp only [List.foldl_append, blk, s0, sA, s1, s2, s3, s4, s5, s6, s7, s8, s9, s10, s11, s12, e]

/-- Bytes of a range, part of a longer one. -/
theorem sub_bytes (s : State) (a n k m : Nat) (h : k + m ≤ n) : sub (s.bytes a n) k m = s.bytes (a + k) m := by
  simp only [sub, State.bytes, ← List.map_drop, ← List.map_take]
  apply List.ext_getElem
  · simp; omega
  · intro i h1 h2
    simp [Nat.add_assoc]

/-- What the half at the start of the L2 window of region 0 reads as: header words as they stand, a CRC that holds, a window that the thread has. -/
theorem half_valid (s : State) (n a : Nat) (hn : n ≤ 64) (hb : s.halfAt 0 0 = 0x21000000 ∧ s.portShut 0 = false)
    (hc : s.busCode (s.coreRq 0) 0x21000000 0x1100 = 0) (hw : (s.wakeDoze 0x21000000).attach (s.coreRq 0) = s) (he : s.ecc = [] ∧ s.peeks (s.coreRq 0) = false)
    (h4 : leNat (s.bytes 0x21000004 4) = 256 * n) (h8 : leNat (s.bytes 0x21000008 4) = a) (h12 : leNat (s.bytes 0x2100000C 4) = 0)
    (hk : leNat (s.bytes 0x2100003C 4) = crc32 (s.bytes 0x21000000 0x3C ++ s.bytes 0x21000040 (0xC0 + 64 * n)))
    (ht : s.f (ofTh CC.THKEY_KEY 0) = 0 ∧ s.f (ofTh CC.THIMG_IMGID 0) = 0 ∧ s.windowOk 0 a n = true) :
    s.readHalf 0 0 = (0, s.bytes 0x21000000 0x1100, s) := by
  have r : s.busRead (s.coreRq 0) 0x21000000 0x1100 = (0, s.bytes 0x21000000 0x1100, s) := by
    simp [State.busRead, hc, hw, he, plateHi, State.ramRead, State.eccIn]
  have word : ∀ o, o + 4 ≤ 0x1100 → halfWord (s.bytes 0x21000000 0x1100) o = leNat (s.bytes (0x21000000 + o) 4) :=
    fun o h => congrArg leNat (sub_bytes _ _ _ _ _ h)
  have crc : halfCrc (s.bytes 0x21000000 0x1100) n = crc32 (s.bytes 0x21000000 0x3C ++ s.bytes 0x21000040 (0xC0 + 64 * n)) := by
    have h1 := sub_bytes s 0x21000000 0x1100 0 0x3C (by decide)
    have h2 := sub_bytes s 0x21000000 0x1100 0x40 (0xC0 + 64 * n) (by omega)
    simp only [sub, List.drop_zero, Nat.add_zero] at h1
    simp only [halfCrc, h1, h2]
  have w4 := (word 4 (by decide)).trans h4
  have w8 := (word 8 (by decide)).trans h8
  have wC := (word 0xC (by decide)).trans h12
  have wK := (word 0x3C (by decide)).trans hk
  have hq : n % 128 = n := by omega
  simp [State.readHalf, hb, r, w4, w8, wC, wK, hq, ht, crc, Nat.not_lt.2 hn]

/-- A first half that can be read is one that a RESTORE can load. -/
theorem latest_of_first (s : State) (b : List Byte) (h : s.readHalf 0 0 = (0, b, s)) : (s.latestHalf 0).1.isSome = true := by
  simp only [State.latestHalf, h]
  split <;> (try split) <;> simp_all

/-- The first halves of both slots are valid: a RESTORE can load them, one with no window and one with a window of 64 bytes. -/
theorem restore_halves :
    ckGood.readHalf 0 0 = (0, ckGood.bytes 0x21000000 0x1100, ckGood) ∧ (ckGood.latestHalf 0).1.isSome = true ∧
    ckWipe.readHalf 0 0 = (0, ckWipe.bytes 0x21000000 0x1100, ckWipe) ∧ (ckWipe.latestHalf 0).1.isSome = true ∧
    halfWord (ckWipe.bytes 0x21000000 0x1100) 4 / 256 % 128 = 1 ∧ ckWipe.on (ofCe CC.ENGSTAT_CLEARING 0) = true := by
  have g : ckGood.readHalf 0 0 = (0, ckGood.bytes 0x21000000 0x1100, ckGood) :=
    half_valid ckGood 0 0 (by decide) (by decide) (by decide) (by decide) (by decide) (by decide +kernel) (by decide +kernel) (by decide +kernel)
      (by rw [show ckGood.bytes 0x21000000 0x3C ++ ckGood.bytes 0x21000040 (0xC0 + 64 * 0) = List.replicate 252 0 by decide +kernel, crc_of_zeros]
          decide +kernel) (by decide)
  have w : ckWipe.readHalf 0 0 = (0, ckWipe.bytes 0x21000000 0x1100, ckWipe) :=
    half_valid ckWipe 1 0x10000 (by decide) (by decide) (by decide) (by decide) (by decide) (by decide +kernel) (by decide +kernel) (by decide +kernel)
      (by rw [show ckWipe.bytes 0x21000000 0x3C ++ ckWipe.bytes 0x21000040 (0xC0 + 64 * 1) =
            [0, 0, 0, 0, 0, 1, 0, 0, 0, 0, 1, 0] ++ List.replicate 304 0 by decide +kernel, crc_of_window]
          decide +kernel) (by decide)
  refine ⟨g, latest_of_first _ _ g, w, latest_of_first _ _ w, ?_, by decide⟩
  rw [show halfWord (ckWipe.bytes 0x21000000 0x1100) 4 = leNat (ckWipe.bytes 0x21000004 4) from congrArg leNat (sub_bytes _ _ _ _ _ (by decide))]
  decide +kernel

/-- CKPT with a valid slot and no window, a header that can be written, a RESTORE with and without a valid half, halt and resume. -/
theorem witness_checkpoints :
    (ckSt.issues 0 ∧ prof 0 = .e ∧ ckSt.on (ofTh CC.THCK_V 0) = true ∧ ckSt.windowOk 0 (ckSt.ckBase 0) (ckSt.f (ofTh CC.CKWIN_LEN 0)) = true) ∧
    (let s := ckSt.setCkOps 0 [ckOp false]
     s.ckFree 0 64 = true ∧ s.ckOps 0 = [ckOp false] ∧ (ckOp false).th / 8 = 0 ∧ (ckOp false).cap = true ∧ (ckOp false).half < 2 ∧
       ((s.lendBulk 0 64).busWrite (s.coreRq 0) (s.halfAt 0 1) (ckOp false).hdr).1 = 0) ∧
    (((onE []).latestHalf 0).1 = none ∧ (ckOp true).restore = true ∧ (ckOp true).pend < 2 ^ 16) ∧
    (dbg.id = 0x50 ∧ (onA []).f PLT.LCSTAT_STATE ≠ 2 ∧ (onA []).f PLT.LCSTAT_STATE ≠ 4 ∧ (onA []).on (SYS.DBGCTL_HALTED 0) = false ∧
      ((onA []).core 192).dead = false ∧ ((onA []).core 192).posted = [] ∧ kb.id ≠ 0x50) :=
  ⟨⟨issues_of _ _ (by decide), by decide, by decide, by decide⟩, by decide, by decide +kernel, by decide⟩

/-- A register of every access type and an unassigned offset; an unlisted identity, a failed engine, a refusal, a write that reaches its block. -/
theorem witness_register_writes :
    regAt 0x40000FFC = none ∧ (regAt SYS.CLKCTL).isSome = true ∧
    idListed 0 = false ∧ (idListed 0x10 = true ∧ (at0 [(ofCe CC.ENGSTAT_EFAIL 0, 1)]).on (ofCe CC.ENGSTAT_EFAIL 0) = true) ∧
    (idListed kb.id.toNat = true ∧ live.busCode kb 0x40000FFD 4 ≠ 0) ∧
    (live.busCode kb SYS.CLKCTL 4 = 0 ∧ (blockTable SYS.CLKCTL).isSome = true) ∧
    (live.pathOpen 0xB3 kb SYS.CLKCTL 4 true = true ∧ live.pathOpen 0xB3 kb 0x40000FFD 4 true = true ∧ (dry 0xA3).pathOpen 0xB3 kb SYS.CLKCTL 4 true = false) :=
  by decide

/-- Two claim reads that meet at the mailbox unit (the identities of the worked example of chapter 3). -/
theorem witness_requests_meet :
    let x : FabReq := ⟨⟨0x35, none, none, 0, false, false⟩, .fabric 0x25, false, 0x4001B044, 4, []⟩
    let y : FabReq := ⟨⟨0x1E, none, none, 0, false, false⟩, .fabric 14, false, 0x4001B044, 4, []⟩
    let u : FabReq := ⟨kb, .fabric 0xB3, false, 0x40060000, 4, []⟩
    let p := ptMailbox
    let s : State := { live with ptrs := [(p, 0x20)] }
    s.points y = [p] ∧ s.points x = [p] ∧ tabGet s.ptrs 0 p = 0x20 ∧ p ≠ ptSched ∧
    (meetIdent p x + 256 - 0x20) % 256 < (meetIdent p y + 256 - 0x20) % 256 ∧ s.points u = [ptSched] ∧
    (s.canReach x = true ∧ s.canReach y = true ∧ s.pieces x = [(p, x)] ∧ s.pieces y = [(p, y)]) ∧ (dry 0xA3).canReach u = false ∧
    meetKind ptSched { u with write := true, addr := 0x4006000C } < meetKind ptSched u ∧
    (let b : FabReq := { u with addr := 0x100000FC, len := 8 }
     live.canReach b = true ∧ (live.pieces b).map (·.1) = [plateLo, plateLo + 1] ∧ (live.pieces b).map (·.2.addr.toNat) = [0x100000FC, 0x10000100]) ∧
    (let w := fun (a : Word) (d : List Byte) => ({ u with write := true, addr := a, len := 0, data := d } : FabReq)
     isChanPoint 0x40321000 = true ∧ live.pieces (w 0x40321000 [1, 0, 0, 0]) = [(0x40321000, w 0x40321000 [1, 0, 0, 0])] ∧
       live.pieces (w 0x40321008 [0, 0, 0, 0]) = [(0x40321000, w 0x40321008 [0, 0, 0, 0])] ∧
       meetKind 0x40321000 (w 0x40321000 [1, 0, 0, 0]) ≠ meetKind 0x40321000 (w 0x40321008 [0, 0, 0, 0])) := by decide +kernel

/-- The same-cycle claim of chapter 3: A5 (0x35) wins CLM17 before CE14 (0x1E) with the pointer at 0x20. -/
theorem test_same_cycle_claim :
    let x : FabReq := ⟨⟨0x35, none, none, 0, false, false⟩, .fabric 0x25, false, 0x4001B044, 4, []⟩
    let y : FabReq := ⟨⟨0x1E, none, none, 0, false, false⟩, .fabric 14, false, 0x4001B044, 4, []⟩
    (match exec (.fabricRequest [y, x]) { live with ptrs := [(ptMailbox, 0x20)] } with
      | .next t => (t.f (MBX.CLM_OWNER 17), t.out) | _ => (0, [])) =
    (0x35, [.response 0x35 0 [0, 0, 0, 0], .response 0x1E 0 [0x35, 0, 0, 0]]) := by decide

/-- A queue of depth above 0 and one that does not exist; the units whose local resets differ. -/
theorem witness_credits :
    (qDepth 0 0).isSome = true ∧ qDepth 0xFF 0 = none ∧ unitQueues 0 = [0] ∧ (0x34 : Fin 354).val = 0x34 + 0 ∧
    (0xA8 ≤ (0xA8 : Fin 354).val ∧ (0xA8 : Fin 354).val ≠ 0xB3) ∧ (0x18 : Fin 354).val < 0x20 ∧ (0x3F : Fin 354).val < 0x40 := by decide

/-- A BAR2 read beyond the windows, and a read and a write that a window admits. -/
theorem witness_bar2 :
    let s := at0 [(PCI.B2ATTR_EN 0 0, 1), (PCI.B2LIM_PAGE 0 0, 1), (PCI.B2ATTR_WR 0 0, 1), (PCI.B2ATTR_RD 0 0, 1)]
    tabGet s.fnReset 0 0 = 0 ∧ live.bar2Code 0 0 4 false ≠ 0 ∧ live.bar2Code 0 0 4 true ≠ 0 ∧
    s.bar2Code 0 0x1FC0 64 false = 0 ∧ s.bar2Code 0 0x1FC0 64 true = 0 ∧ s.bar2Code 0 0x1FC1 64 false = 2 ∧ 0x1FC0 % 64 + 64 ≤ 64 ∧
    64 ≤ s.maxRead 0 ∧ s.maxRead 0 < 513 ∧ 64 ≤ s.maxPayload 0 ∧ s.maxPayload 0 < 129 ∧
    s.held = false ∧ State.reset.held = true ∧
    (∀ w, s.mayPass [(0xA4, 0)] 64 w = true ∧ s.banksFree (plateLo + 0x1FC0) 64 w = true) ∧ s.endHold.awake = true ∧ s.heldFor 1 = false ∧
    (let h := at0 [(SYS.PWRSTAT_STATE, 4)]
     h.awake = false ∧ h.endHold.awake = true ∧ ({ h with refA := false, refB := false } : State).endHold.awake = false) := by decide

/-- A configuration read in Hold: the device wakes with cause 0x21, and the read is served after the exit (R490). -/
theorem test_read_in_hold :
    (match exec (.fabricRequest [⟨kb, .cfg 0, false, 0, 4, []⟩]) (at0 [(SYS.PWRSTAT_STATE, 4)]) with
      | .next t => (t.f SYS.PWRSTAT_STATE, t.f SYS.PWRSTAT_WCAUSE, t.f SYS.PWRSTAT_HOLDS, t.resp.code) | _ => (9, 0, 0, 9)) = (0, 0x21, 1, 0) := by
  decide

/-- The credits of a core-fabric queue read 0 while its region is off (Table 18.8). -/
theorem test_clamped_credits :
    ((at0 [(SYS.CRDSEL_QUEUE, 0x39), (SYS.RGCTL_STATE 1, 1)]).crdRead.1, (at0 [(SYS.CRDSEL_QUEUE, 0x39)]).crdRead.1) = (32 * 2 ^ 8, 32 + 32 * 2 ^ 8 + 32 * 2 ^ 16) := by
  decide

/-- A pending direct vector, and a pending doorbell vector whose bell is set and unmasked. -/
theorem witness_msix :
    let s : State := { at0 [(MBX.DB_BELL 1, 1), (MBX.DBMASK_MASK 1, 0)] with pba := [(0, 1), (32, 1)] }
    tabHas s.pba 0 = true ∧ bitOf (s.f (MBX.DB_BELL 1)) 0 = true ∧ bitOf (s.f (MBX.DBMASK_MASK 1)) 0 = false ∧ tabHas s.pba 32 = true ∧
    tabHas live.pba 0 = false ∧ s.msixOn 0 = false ∧
    ({ s with pciCfg := [(1, 4), (20, 0x80000000)] } : State).msixOn 0 = true := by decide

/-- The states of the reference clocks that the statement distinguishes. -/
theorem witness_clocks :
    (let s := at0 [(SYS.CLKSTAT_B_OK, 1), (SYS.CLKCTL_AUTO_SW, 1)]
     s.f SYS.CLKSTAT_SRC = 0 ∧ s.on SYS.CLKSTAT_B_OK = true ∧ s.on SYS.CLKCTL_AUTO_SW = true) ∧
    (live.f SYS.CLKSTAT_SRC = 0 ∧ live.on SYS.CLKSTAT_B_OK = false ∧ live.clkTo ≠ some 1) ∧
    ({ live with clkTo := some 1 } : State).clkTo = some 1 ∧ ({ live with clkTo := some 0 } : State).clkTo = some 0 ∧
    (let s := at0 [(SYS.CLKSTAT_A_OK, 1), (SYS.CLKSTAT_SRC, 1)]
     isKbDbg kb.id.toNat = true ∧ s.on SYS.CLKSTAT_A_OK = true ∧ s.f SYS.CLKSTAT_SRC = 1) ∧
    isKbDbg hostRq.id.toNat = false ∧ live.on SYS.CLKSTAT_PLL_LOCK = false ∧
    (isKbDbg dbg.id.toNat = true ∧ dbg.id.toNat ≠ idKeyblock ∧ kb.id.toNat = idKeyblock) ∧ (at0 [(SYS.CLKSTAT_PLL_LOCK, 1)]).on SYS.CLKSTAT_PLL_LOCK = true :=
  by decide

/-- Flits with a good and a bad CRC, the first lane to fail, a failure with the spare in use, a lane being spared. -/
theorem witness_die_link :
    (let flit : List Byte := List.replicate 34 0 ++ leBytes 2 (flitCrc (List.replicate 36 0))
     flitGood flit = true ∧ (flit.getD 1 0).toNat = (live.link 0).rxSeq ∧ (live.link 0).buf = [] ∧ (live.link 0).replay = false ∧
       flitGood (flitWith flit [1]) = false ∧ flitGood (flitWith flit []) = true) ∧
    ((7 : Fin 9).val < 8 ∧ live.on (FLT.LANE_FAILED 7) = false ∧ live.on (FLT.LANE_FAILED 8) = false ∧
      live.f SYS.DLSTAT_SPARE_MAP = 0xF ∧ live.sparing.spare = none) ∧
    (at0 [(SYS.DLSTAT_SPARE_MAP, 1)]).f SYS.DLSTAT_SPARE_MAP ≠ 0xF ∧ ({ live with sparing := ⟨some 7, []⟩ } : State).sparing.spare = some 7 := by
  decide +kernel

/-! ## Mailboxes -/

/-- Channel 63 from the Keyblock to application core 0. -/
def chan (l : List (FldAt × Nat)) : State :=
  at0 ([(MBX.CHCFG_EN 63, 1), (MBX.CHCFG_SENDER 63, 8), (MBX.CHCFG_RECEIVER 63, 0x30)] ++ l)

/-- A commit that is accepted with the last free slot, refused with 16 in use, with the receiver's region off, stale, and by another master. -/
theorem witness_commit :
    let s := chan [(MBX.CHSTAT_USED 63, 15), (MBX.CHSTAT_WIDX 63, 15)]
    let old := chan [(MBX.CHCFG_SENDER 63, 0x10), (MBX.RPL_LAST_COS 0, 5), (MBX.RPLVALID_BITS 0, 1)]
    (s.isSender 63 (s.acting kb) = true ∧ s.mbxStale kb = false ∧ s.idDown (s.f (MBX.CHCFG_RECEIVER 63)) = false ∧
      s.f (MBX.CHSTAT_USED 63) < 16 ∧ s.eccIn (slotPlace 63 15) 64 2 = false) ∧
    (chan [(MBX.CHSTAT_USED 63, 16)]).f (MBX.CHSTAT_USED 63) = 16 ∧ (chan [(SYS.RGCTL_STATE 0, 1)]).idDown 0x30 = true ∧
    (old.isSender 63 (old.acting th0Rq) = true ∧ old.mbxStale th0Rq = true) ∧ s.isSender 63 (s.acting hostRq) = false := by decide

/-- Writes of the open slot, reads and releases of a committed one, a release with none, an application message of channel 31. -/
theorem witness_slots :
    let s := chan [(MBX.CHSTAT_USED 63, 1), (MBX.CHSTAT_WIDX 63, 1)]
    let app := at0 [(MBX.CHCFG_EN 31, 1), (MBX.CHCFG_SENDER 31, 8), (MBX.CHCFG_RECEIVER 31, 0x30)]
    (s.isSender 63 (s.acting kb) = true ∧ (1 : Fin 16).val = s.f (MBX.CHSTAT_WIDX 63) ∧ s.f (MBX.CHSTAT_USED 63) < 16) ∧
    (s.isReceiver 63 (s.acting core0Rq) = true ∧ s.isCommitted 63 0 = true ∧ s.eccIn (slotPlace 63 0) 64 2 = false ∧ s.committedCount 63 ≠ 0) ∧
    ((chan []).committedCount 63 = 0 ∧ (chan []).isReceiver 63 ((chan []).acting hostRq) = false ∧ (chan []).isSender 63 ((chan []).acting hostRq) = false) ∧
    (8 ≤ (31 : Fin 64).val ∧ ((0x0B7F : Word) :: List.replicate 15 0).length = 16 ∧ app.isSender 31 (app.acting kb) = true ∧
      app.f (MBX.CHSTAT_USED 31) < 16) := by decide

/-- A mask written by its owner and by another, a bell set by the Keyblock and not by another, a held release of key 3. -/
theorem witness_doorbells :
    let s : State := { chan [] with slotRel := [(63 * 16, ⟨true, 3⟩)] }
    (bindable 0x30 = true ∧ s.ownsBell core0Rq 0x30 = true ∧ s.ownsBell hostRq 0x30 = false) ∧ (kb.id = 8 ∧ hostRq.id ≠ 8) ∧
    (isKbDbg dbg.id.toNat = true ∧ isKbDbg hostRq.id.toNat = false) ∧
    s.slotRel.any (fun e => e.1 / 16 == 63 && e.2.held && e.2.key == 3) = true := by decide

/-- R102: the first read of a free claim answers 0 and takes it, the second answers the owner. -/
theorem test_claim :
    (match exec (.claimRead 17 [core0Rq]) live with | .next t => (t.resp.data, t.f (MBX.CLM_OWNER 17)) | _ => ([], 0)) =
      ([0, 0, 0, 0], 0x30) ∧
    (match exec (.claimRead 17 [hostRq]) (at0 [(MBX.CLM_OWNER 17, 0x30)]) with | .next t => (t.resp.data, t.f (MBX.CLM_OWNER 17)) | _ => ([], 0)) =
      ([0x30, 0, 0, 0], 0x30) := by decide

/-! ## Feholt -/

/-- Session 0 open, the main firmware in service, function 0 a bus master. -/
def fe : State :=
  { at0 [(SYS.BOOTSTAT_STAGE, 4)] with sess := [(0, { Session.closed with isOpen := true, credits := 12, cmdSeq := 1 })], pciCfg := [(1, 4)] }

/-- The same with register fields set. -/
def fed (l : List (FldAt × Nat)) : State := fe.setFs l

/-- The next command of session 0: without a buffer, with one the device reads, with one it writes. -/
def h0 : FHdr := ⟨0, 7, 0, 0, 0, 1, none⟩
def hIn : FHdr := ⟨0, 7, 1, 0, 0, 1, some ⟨0, 64, 0, false⟩⟩
def hOut : FHdr := ⟨0, 7, 9, 0, 0, 1, some ⟨0, 64, 0, false⟩⟩

/-- Session 0 holds the draft. -/
def feDraft : State := { fed [(OBS.ACTCTL_DMODE, 1)] with draftOwner := some 0 }

/-- `State.admits` as a Bool. -/
def canAdmit (s : State) (h : FHdr) (op needs : Nat) (long : Bool) : Bool :=
  s.serves && !s.epochOld h && (s.session h.sess).isOpen && !s.beyondCredit h.sess && decide (h.seq.toNat = (s.session h.sess).cmdSeq) &&
    decide ((s.took h).refusal h op needs long = 0)

theorem admits_of {s : State} {h : FHdr} {op needs : Nat} {long : Bool} (x : canAdmit s h op needs long = true) : s.admits h op needs long := by
  simp only [canAdmit, Bool.and_eq_true, Bool.not_eq_true', decide_eq_true_eq] at x
  exact ⟨x.1.1.1.1.1, x.1.1.1.1.2, x.1.1.1.2, x.1.1.2, x.1.2, x.2⟩

/-- Every write of `kbTakes` is taken, as a Bool. -/
def canTake (ws : List RegW) (s : State) : Bool :=
  match ws with
  | [] => true
  | w :: l => decide ((s.regWrite rqKb w.addr.toNat w.val.toNat).1 = 0) && canTake l (s.regWrite rqKb w.addr.toNat w.val.toNat).2

theorem takes_of : ∀ (ws : List RegW) (s : State), canTake ws s = true → kbTakes ws s
  | [], _, _ => trivial
  | w :: l, s, h => by
    simp only [canTake, Bool.and_eq_true, decide_eq_true_eq] at h
    exact ⟨h.1, takes_of l _ h.2⟩

/-- Each check before a command's own rules, at a state that meets it and no earlier one. -/
theorem witness_judged :
    (fe.serves = true ∧ fe.epochOld { h0 with epoch := 1 } = true) ∧
    (fe.epochOld { h0 with sess := 1 } = false ∧ (fe.session 1).isOpen = false) ∧ ({ h0 with seq := 2 } : FHdr).seq.toNat ≠ (fe.session 0).cmdSeq ∧
    (h0.seq.toNat = (fe.session 0).cmdSeq ∧
      ({ fe with longs := [⟨0, 7, 0x0802, .slewEnd⟩] } : State).longs.any (fun l => l.sess == 0 && l.tag == 7) = true) ∧
    (let s := fed [(SYS.BOOTSTAT_STAGE, 5)]; s.serves = true ∧ s.f SYS.BOOTSTAT_STAGE = 5 ∧ opClass 0x0301 ∉ [1, 0xF, 0x11]) ∧
    (let s := fed [(FLT.STAT_STATE, 3)]; s.serves = true ∧ s.f SYS.BOOTSTAT_STAGE ≠ 5 ∧ s.f FLT.STAT_STATE = 3) ∧
    (let s := fed [(FLT.STAT_STATE, 2)]; s.serves = true ∧ s.f FLT.STAT_STATE = 2) ∧
    ((fe.took h0).bulkStatus h0 1 ≠ 0 ∧ (fe.took h0).bulkStatus hIn 1 = 0 ∧ (fe.took h0).bulkStatus hOut 2 = 0 ∧ fe.f FLT.STAT_STATE < 2) ∧
    (let s : State := { fe with longs := [⟨0, 8, 0x0802, .slewEnd⟩] }; ∃ l ∈ s.longs, opClass l.opcode = opClass 0x0802) ∧
    (let s : State := { fed ([(MBX.CHCFG_EN 0, 1), (MBX.CHCFG_SENDER 0, 1), (MBX.CHCFG_RECEIVER 0, 8), (MBX.CHSTAT_USED 0, 1), (MBX.CHSTAT_WIDX 0, 1)])
       with slots := [(0, 0x00070BEE), (2, 1)] }
     let r := s.slotCmd 0 (s.f (MBX.CHSTAT_RIDX 0))
     s.serves = true ∧ s.isReceiver 0 (s.acting kb) = true ∧ s.committedCount 0 ≠ 0 ∧ feholtListed r.1 = false ∧ s.epochOld r.2 = false ∧
       s.firstCheck r.2 r.1 = (0, 0) ∧ s.tagUsed r.2 = false) ∧
    (fe.admits h0 0x0D02 0 false ∧ fe.draftOwner ≠ some h0.sess.val) :=
  ⟨by decide, by decide, by decide, by decide, by decide, by decide, by decide, by decide, by decide, by decide, admits_of (by decide), by decide⟩

/-- Opening at both minor versions and at neither, ping in a closed and an open session, keepalive, events to be posted. -/
theorem witness_sessions :
    let h1 : FHdr := { h0 with sess := 1, len := 8 }
    let ev : FEvent := ⟨0x8F80, 0xFFFF, 0, []⟩
    ((fe.session 1).isOpen = false ∧ fe.epochOld h1 = false ∧ fe.tagUsed h1 = false ∧ h1.flags = 0 ∧ 8 ≤ h1.len.toNat ∧ h1.len.toNat ≤ 48) ∧
    (let s := fe.setSession 1 { fe.session 1 with waiting := [⟨0x8103, 7, 0, 0x30, 0, []⟩] }
     (s.session 1).isOpen = false ∧ s.epochOld h1 = false ∧ s.tagUsed h1 = true) ∧
    ((0x200 : BitVec 16).toNat ≤ 0x201 ∧ 0x201 ≤ (0x201 : BitVec 16).toNat ∧ (0x200 : BitVec 16).toNat = 0x200 ∧ (0x1FF : BitVec 16).toNat < 0x200) ∧
    (fe.refusal h1 0x0103 0 false = 0 ∧ fe.f (MBX.CHSTAT_USED 1) < 16 ∧ ({ h0 with seq := 2 } : FHdr).seq.toNat ≠ (fe.session 0).cmdSeq) ∧
    (fe.admits h0 0x0103 0 false ∧ fe.admits h0 0x0104 0 false ∧ fe.admits h0 0x0102 0 false) ∧
    ((fe.session 0).events = [] ∧ (fe.session 0).dropped = 0 ∧ fe.canPost 0 = true) ∧
    (let s := fe.setSession 0 { fe.session 0 with waiting := List.replicate 12 ⟨0x8103, 1, 0, 0, 0, []⟩ }
     s.beyondCredit 0 = true ∧ s.epochOld h0 = false ∧ fe.beyondCredit 0 = false ∧ fe.replyOpen 0 = true) ∧
    (let s := fe.setSession 0 { fe.session 0 with dropped := 3 }; s.canPost 0 = true ∧ (s.session 0).events = [] ∧ (s.session 0).dropped ≠ 0) ∧
    (let s := fe.setSession 0 { fe.session 0 with events := [ev] }; s.canPost 0 = true ∧ (s.session 0).events = [ev] ∧ (s.session 0).dropped = 0) :=
  ⟨by decide, by decide, by decide, by decide, ⟨admits_of (by decide), admits_of (by decide), admits_of (by decide)⟩, by decide, by decide, by decide,
    by decide⟩

/-- Reads are admitted; an image enabled and not, a personality of thread 0. -/
theorem witness_reads :
    (∀ op ∈ [0x0105, 0x0302, 0x0303, 0x0501, 0x0702, 0x0803, 0x0902, 0x0B01, 0x0D05, 0x0F01, 0x1002, 0x1104, 0x0E01, 0x0204],
      canAdmit fe h0 op 0 false = true) ∧
    (fe.on (PLT.IMGCFG_EN 0) = false ∧ (fed [(PLT.IMGCFG_EN 0, 1)]).on (PLT.IMGCFG_EN 0) = true ∧
      canAdmit (fed [(PLT.IMGCFG_EN 0, 1)]) h0 0x0702 0 false = true) ∧
    (canAdmit fe hOut 0x0E01 0 false = true ∧ bitOf hOut.flags.toNat 0 = true ∧ bitOf hOut.flags.toNat 3 = true ∧ bitOf hOut.flags.toNat 2 = false ∧
      hOut.bulk = some ⟨0, 64, 0, false⟩) ∧
    (let s : State := { fe with pers := [⟨[0], [], []⟩] }; canAdmit s h0 0x0204 0 false = true ∧ s.persOf 0 = some ⟨[0], [], []⟩ ∧ s.regionDown 0 = false) ∧
    fe.persOf 0 = none := by decide

/-- One register word of a group, admitted, a draft word and taken. -/
def draftCase (op : Nat) (w : RegW) (g : Bool) : Bool :=
  canAdmit feDraft h0 op 0 false && isDraftWord w.addr.toNat && g && canTake [w] (feDraft.took h0)

/-- Draft words of each command, entries of the last index of each table, the three states of the draft. -/
theorem witness_drafts :
    feDraft.draftOwner = some h0.sess.val ∧ draftCase 0x0301 ⟨0x401F0000, 1⟩ (0x401F = 0x4010 + 15) = true ∧
    draftCase 0x0403 ⟨BitVec.ofNat 32 (SW.PCFG 21), 1⟩ (SW.PCFG 21 / 0x10000 = 0x4002) = true ∧
    draftCase 0x0601 ⟨BitVec.ofNat 32 (RUL.CYCLE 3), 12500⟩ (rulOf (RUL.CYCLE 3) == some 3) = true ∧
    draftCase 0x0602 ⟨BitVec.ofNat 32 (RUL.MARK 3 15), 1⟩ (decide (RUL.MARK 3 15 < RUL.MARK 3 16)) = true ∧
    draftCase 0x0801 ⟨BitVec.ofNat 32 LPE.CTL, 1⟩ true = true ∧
    (draftCase 0x0901 ⟨BitVec.ofNat 32 (MBUS.CTL 7), 0⟩ (mbOf (MBUS.CTL 7) == some 7) = true ∧
      (kbWrites [⟨BitVec.ofNat 32 (MBUS.CTL 7), 0⟩] (feDraft.took h0)).draftTimingOk 7 = true) ∧
    (draftCase 0x0A01 ⟨BitVec.ofNat 32 (NMG.RINGCFG 3), 0⟩ true = true ∧
      (kbWrites [⟨BitVec.ofNat 32 (NMG.RINGCFG 3), 0⟩] (feDraft.took h0)).draftMediaOk = true) ∧
    draftCase 0x0D02 ⟨BitVec.ofNat 32 LPE.CTL, 1⟩ true = true ∧
    ((8191 : BitVec 13).toNat < tblRoom 0 ∧ (4095 : BitVec 13).toNat < tblRoom 1 ∧ (4095 : BitVec 13).toNat < tblRoom 2 ∧ (255 : BitVec 13).toNat < tblRoom 3 ∧
      (511 : BitVec 13).toNat < tblRoom 4) ∧
    (∀ op ∈ [0x0401, 0x0402, 0x0404, 0x0801, 0x0D01, 0x0D04], canAdmit feDraft h0 op 0 false = true) ∧
    (fe.draftOwner = none ∧ canAdmit fe h0 0x0D01 0 false = true) ∧ ({ fe with draftOwner := some 1 } : State).draftOwner ≠ some h0.sess.val := by decide

/-- A Stencil list of one entry for the bank of port 21 that is not operative. -/
theorem witness_stencil_draft :
    let b := 1 - feDraft.opbank 21
    canTake [⟨BitVec.ofNat 32 (SW.STH_CYCLE 21 b), 1000⟩, ⟨BitVec.ofNat 32 (SW.STH_BASENS 21 b), 0⟩, ⟨BitVec.ofNat 32 (SW.STH_BASESEC 21 b), 0⟩,
      ⟨BitVec.ofNat 32 (SW.STH_LEN 21 b), 1⟩, ⟨BitVec.ofNat 32 (SW.STE 21 b 0), 1⟩] (feDraft.took h0) = true := by decide

/-- One register word of a configuration command, admitted and taken. -/
def cfgCase (op : Nat) (w : RegW) (g : Bool) : Bool :=
  canAdmit fe h0 op 0 false && g && canTake [w] (fe.took h0)

/-- The configuration commands, each with a word of its group where it carries words. -/
theorem witness_configuration :
    cfgCase 0x0503 ⟨BitVec.ofNat 32 TMU.SRVCFG, 0⟩ true = true ∧
    cfgCase 0x0504 ⟨BitVec.ofNat 32 TMU.PPSOUT, 0⟩ (isRegWord TMU.PPSOUT && decide (TMU.TIOCFG 0 ≤ TMU.PPSOUT)) = true ∧
    cfgCase 0x0701 ⟨BitVec.ofNat 32 (PLT.IMGSIZE 255), 64⟩ (isRegWord (PLT.IMGSIZE 255) && decide (PLT.IMGCFG 255 ≤ PLT.IMGSIZE 255)) = true ∧
    cfgCase 0x0804 ⟨BitVec.ofNat 32 (LPE.TSGCFG 15), 0⟩ (isRegWord (LPE.TSGCFG 15) && decide (LPE.TSGCFG 15 < LPE.TSGCFG 16)) = true ∧
    cfgCase 0x0B02 ⟨BitVec.ofNat 32 WSC.CFG, 0⟩ true = true ∧ cfgCase 0x0C01 ⟨BitVec.ofNat 32 OBS.EPCFG, 0⟩ (OBS.EPCFG % 4 == 0) = true ∧
    cfgCase 0x0C03 ⟨BitVec.ofNat 32 (OBS.STPCFG 31), 0⟩ (isRegWord (OBS.STPCFG 31) && decide (OBS.STPCFG 31 < OBS.STPCFG 32)) = true ∧
    (∀ op ∈ [0x0701, 0x0801, 0x0603, 0x0604, 0x0A02, 0x0A03, 0x0502, 0x1001, 0x0F03], canAdmit fe h0 op 0 false = true) ∧
    (let ws : List RegW := [⟨BitVec.ofNat 32 (PLT.IMGCFG 255), 2⟩]
     let w := kbWrites ws (fe.took h0)
     canTake ws (fe.took h0) = true ∧ fe.on (PLT.IMGCFG_EN 255) = false ∧ w.on (PLT.IMGCFG_MIRROR 255) = true ∧ w.imgMBase 255 ≠ mirrorOf (w.imgBase 255)) ∧
    ((999999999 : Word).toNat ≤ 999999999 ∧ fe.f TMU.STAT_STATE = 0 ∧ fe.anyRuns = false) ∧
    ((fe.took h0).powerRefused (.region 3 true) = false ∧ (fe.took h0).powerRefused (.region 3 false) = false) := by decide

/-- The personality of thread 0 with a claim, its threads stopped. -/
def fePers : State := { fe with pers := [⟨[0], [1], [DM.CHCFG 0 0]⟩] }

/-- Long commands that start or are refused, their completions, and a personality. -/
theorem witness_long_commands :
    (canAdmit fe hIn 0x0201 1 true = true ∧ fe.regionDown 0 = false ∧ (fed [(SYS.RGCTL_STATE 0, 1)]).regionDown 0 = true ∧
      canAdmit (fed [(SYS.RGCTL_STATE 0, 1)]) hIn 0x0201 1 true = true) ∧
    (canAdmit fe hOut 0x0802 2 true = true ∧ canTake [⟨BitVec.ofNat 32 (LPE.CAPCFG 3), 0⟩] (fe.took hOut) = true) ∧
    (canAdmit fe hOut 0x0C02 2 true = true ∧ tabHas fe.obs.imp 0 = false) ∧
    (canAdmit fe hOut 0x0F02 2 true = true ∧ fe.on FLT.PROOFSTAT_VALID = false ∧ (fed [(FLT.PROOFSTAT_VALID, 1)]).on FLT.PROOFSTAT_VALID = true) ∧
    (canAdmit fe h0 0x0E02 0 true = true ∧ canAdmit fe h0 0x1001 0 true = true ∧ (fe.took h0).powerRefused .hold = false ∧
      (fe.took h0).powerRefused .off = false ∧ ((fed [(RUL.CTL_RUN 0, 1)]).took h0).powerRefused .hold = true) ∧
    (let s : State := { fe with install := some 0 }
     canAdmit s hIn 0x1102 1 true = true ∧ hIn.bulk = some ⟨0, 64, 0, false⟩ ∧ canAdmit s h0 0x1103 0 true = true ∧ (0x7F0000 : BitVec 23).toNat % 0x10000 = 0) ∧
    (canAdmit fe h0 0x1101 0 false = true ∧ fe.install = none) ∧
    (canAdmit feDraft h0 0x0D03 0 true = true ∧ (feDraft.took h0).activateStatus h0.sess ((feDraft.took h0).fullTime 999999999 0) 1 0 = 0) ∧
    (fe.powerWaits 0 (.powerSet h0 .hold) = false ∧
      (fe.setSession 0 { fe.session 0 with credits := 16 }).powerWaits 0 (.powerSet h0 .hold) = true) ∧
    (let s : State := { fe with longs := [⟨0, 7, 0x0E02, .scan h0⟩] }; s.serves = true ∧ (s.finish 0 (.scan h0) none true []).isSome = true) ∧
    (let s : State := { fed [(OBS.ACTSTAT_LATE, 1)] with longs := [⟨0, 7, 0x0D03, .slewEnd⟩] }; s.serves = true ∧ s.on OBS.ACTSTAT_LATE = true) ∧
    (canAdmit fePers h0 0x0202 0 false = true ∧ canAdmit fePers h0 0x0203 0 false = true ∧ canAdmit fePers h0 0x0205 0 false = true ∧
      fePers.persOf 0 = some ⟨[0], [1], [DM.CHCFG 0 0]⟩ ∧ (∀ x ∈ [0, 1], fePers.thState x ∈ [0, 5, 7]) ∧
      canTake ((fePers.took h0).freeClaims 0 [DM.CHCFG 0 0]) (fePers.took h0) = true) ∧
    (fePers.setF (CC.THCTL_STATE 0 0 0) 1).thState 0 ∉ [0, 5, 7] := by decide

/-- The worked example of chapter 2: minor 1 is chosen for a host that accepts 2.0 to 2.1, credits and keepalive are clamped. -/
theorem test_session_open :
    (match exec (.sessionOpen { h0 with sess := 1, len := 8 } 0x200 0x201 16 1000) fe with
      | .next t => ((t.session 1).isOpen, (t.session 1).minor, (t.session 1).credits, (t.session 1).keepalive, (t.session 1).cmdSeq)
      | _ => (false, 0, 0, 0, 0)) = (true, 1, 12, 1000, 1) := by decide

/-! ## Threads and engines -/

/-- Thread 191 in a state of Table 5.1. -/
def thAt (st : Nat) : State := at0 [(CC.THCTL_STATE 7 2 7, st)]

/-- Every state of Table 5.1, with and without a posted store, commands of the Keyblock, the debug port and another master. -/
theorem witness_threads :
    (∀ st, st < 8 → (thAt st).thState 191 = st ∧ (thAt st).regionDown (191 / 48) = false) ∧ ((thAt 1).core 191).posted = [] ∧
    (let s := (thAt 1).setCore 191 { coreReset 191 0 with posted := [⟨0x10000000, [0], th0Rq⟩] }; (s.core 191).posted ≠ [] ∧ s.thState 191 = 1) ∧
    isKbDbg kb.id.toNat = true ∧ dbg.id = 0x50 ∧ kb.id = 8 ∧ (isKbDbg hostRq.id.toNat = false ∧ threadOf hostRq (191 / 24) = none) := by decide

/-- A region up with its cluster awake, for each of these helpers, a region down, and a cluster in Doze. -/
theorem witness_clusters :
    (∀ st, st < 8 → (thAt st).f (SYS.DOZE_STATE 7) ≠ 2) ∧ live.f (SYS.DOZE_STATE 7) ≠ 2 ∧ live.regionDown 3 = false ∧
    (at0 [(SYS.RGCTL_STATE 3, 1)]).regionDown 3 = true ∧
    (at0 [(SYS.DOZE_STATE 7, 2)]).regionDown 3 = false ∧ (at0 [(SYS.DOZE_STATE 7, 2)]).f (SYS.DOZE_STATE 7) = 2 := by decide

/-- Table 5.2: START from STOPPED runs the thread from THPC, and from RUN only counts CMDREJ. -/
theorem test_thread_start :
    (match exec (.threadStart kb 191) ((thAt 0).setF (CC.THPC_PC 7 2 7) 0x40) with | .next t => (t.thState 191, t.pc 191) | _ => (0, 0)) = (1, 0x100) ∧
    (match exec (.threadStart kb 191) (thAt 1) with | .next t => (t.thState 191, t.f (CC.ENGSTAT_CMDREJ 7 2)) | _ => (0, 0)) = (1, 1) := by decide

/-- An engine that may be reset, one clearing, a software event of thread 7 of CE23 with a slot that selects it, a watchdog that runs. -/
theorem witness_engines :
    (live.regionDown (23 / 6) = false ∧ isKbDbg kb.id.toNat = true ∧ isKbDbg hostRq.id.toNat = false) ∧
    (at0 [(ofCe CC.ENGSTAT_CLEARING 23, 1)]).on (ofCe CC.ENGSTAT_CLEARING 23) = true ∧ live.on (ofCe CC.ENGSTAT_CLEARING 23) = false ∧
    (let rq : Rq := ⟨0x27, some 191, none, 0, false, false⟩
     rq.id.toNat = 0x10 + 23 ∧ rq.rkey = some (BitVec.ofNat 8 (8 * 23 + 7)) ∧ bitOf (0x80 : BitVec 8).toNat 7 = true ∧
       (live.wr (CC.EVSEL 7 2 7 15) 0x87).rd (CC.EVSEL 7 2 7 15) % 256 = 0x80 + 7) ∧
    (let s := (thAt 3).setF (ofTh CC.THWD_LIMIT 191) 1; s.f (ofTh CC.THWD_LIMIT 191) ≠ 0 ∧ s.thState 191 ∈ [1, 2, 3]) ∧
    live.f (ofTh CC.THWD_LIMIT 191) = 0 := by decide

/-! ## Burin -/

/-- Engine 63 in RUN at the last word of bank 0, which is `w`, with register fields set. -/
def beAt (w : Nat) (l : List (FldAt × Nat)) : State :=
  (at0 ([(ofBe CC.BSTAT_STATE 63, 1), (ofBe CC.BSTAT_PC 63, 31)] ++ l)).wr (CC.BBANK 7 7 0 31) w

/-- `State.burinAt` as a Bool. -/
def isAt (s : State) (n w : Nat) : Bool :=
  s.burinLives n && decide (s.f (ofBe CC.BSTAT_STATE n) ≠ 0) && decide ((s.bu n).inj = none) && !(s.bu n).alone && decide (s.boundary n = none) &&
    !s.eccIn (bankPlace n (s.f (ofBe CC.BSTAT_ACTBANK n)) (s.f (ofBe CC.BSTAT_PC n))) 8 2 &&
    decide (s.rd (CC.BBANK (n / 8) (n % 8) (s.f (ofBe CC.BSTAT_ACTBANK n)) (s.f (ofBe CC.BSTAT_PC n))) = w)

theorem burinAt_of {s : State} {n w : Nat} (h : isAt s n w = true) : s.burinAt n w := by
  simp only [isAt, Bool.and_eq_true, Bool.not_eq_true', decide_eq_true_eq] at h
  exact ⟨h.1.1.1.1.1.1, h.1.1.1.1.1.2, h.1.1.1.1.2, h.1.1.1.2, h.1.1.2, h.1.2, h.2⟩

/-- Every instruction of Table 6.3 at a PC, with an idle shift unit and with both data conditions of PULL and PUSH. -/
theorem witness_burin_instructions :
    (∀ w ∈ [0, 0x08000000, 0x080003FF, 0x10000400, 0x18000000, 0x20000000, 0x28000000, 0x300000F5, 0x38000007, 0x40000000, 0x4000FFFF, 0x48000600,
      0x4800071F, 0x5001FFFF, 0x58200000, 0x60000003, 0x68000000, 0x70000000, 0x78000000, 0xF8000000, 0xFFFFFFFF], isAt (beAt w []) 63 w = true) ∧
    ((beAt 0 []).f (ofBe CC.BSH_SCNT 63) = 0 ∧ (beAt 0 []).f (ofBe CC.BSTAT_TXF 63) = 0 ∧ (beAt 0 []).f (ofBe CC.BSTAT_RXF 63) = 0) ∧
    ((beAt 0x20000000 [(ofBe CC.BSTAT_TXF 63, 1)]).f (ofBe CC.BSTAT_TXF 63) = 1 ∧ isAt (beAt 0x20000000 [(ofBe CC.BSTAT_TXF 63, 1)]) 63 0x20000000 = true) ∧
    burinDecode 0xFFFFFFFF = none ∧
    (let s := (beAt 0x40000000 []).setBu 63 { Burin.reset with waitFrom := some 0 }; isAt s 63 0x40000000 = true ∧ (s.bu 63).waitFrom = some 0) ∧
    (let s : State := { beAt 0 [] with ecc := [(bankPlace 63 0 31 / 8, 2)] }
     s.burinLives 63 = true ∧ s.f (ofBe CC.BSTAT_STATE 63) ≠ 0 ∧ (s.bu 63).inj = none ∧ (s.bu 63).alone = false ∧ s.boundary 63 = none ∧ s.eccIn (bankPlace 63 0 31) 8 2 = true) ∧
    ((CC.BSYNC_ARM 7).addr ≠ 0 ∧ (at0 [(CC.BSYNC_ARM 7, 1), (CC.BSYNC_TRIG 7, 1)]).on (CC.BSYNC_ARM 7) = true) := by decide

/-- Table 6.3: PC wraps from 31 to 0; JMP on CNT0 counts down and jumps; SHO with LEN = 0 shifts 1,024 bits. -/
theorem test_burin :
    (match exec (.burinNop 63 0) (beAt 0 []) with | .next t => t.f (ofBe CC.BSTAT_PC 63) | _ => 99) = 0 ∧
    (match exec (.burinJmp 63 0) (beAt 0x48000025 [(ofBe CC.BCNT_CNT0 63, 2)]) with
      | .next t => (t.f (ofBe CC.BSTAT_PC 63), t.f (ofBe CC.BCNT_CNT0 63)) | _ => (0, 0)) = (5, 1) ∧
    (match exec (.burinSho 63 0) (beAt 0x08000000 []) with | .next t => t.f (ofBe CC.BSH_SCNT 63) | _ => 0) = 1024 := by decide

/-- The control of an engine: halted and running, its owner and another master, a swap that is due, a shift in each direction, refills, a stall,
an armed sync edge, injections. -/
theorem witness_burin_control :
    (live.burinWriteOk kb 63 = true ∧ live.f (ofBe CC.BSTAT_STATE 63) = 0 ∧ (beAt 0 []).burinWriteOk kb 63 = true ∧
      (beAt 0 []).f (ofBe CC.BSTAT_STATE 63) ≠ 0 ∧ live.burinWriteOk hostRq 63 = false) ∧
    (let s := beAt 0 [(ofBe CC.BSTAT_SWPEND 63, 1)]
     s.burinLives 63 = true ∧ s.f (ofBe CC.BSTAT_SWPEND 63) = 1 ∧ s.f (ofBe CC.BSH_SCNT 63) = 0 ∧ (s.bu 63).stop = false ∧ (s.bu 63).inj = none ∧
       (burinDecode (s.rd (CC.BBANK 7 7 0 31))).all (fun i => s.burinReady 63 i (s.bu 63).waitFrom (s.seen 7 0)) = true) ∧
    (∀ k ∈ [1, 2, 3], let s := (beAt 0 [(ofBe CC.BSH_SCNT 63, 1)]).setBu 63 { Burin.reset with kind := k, due := 0, clk := [⟨0, 0, 0x400, 0, 5⟩] }
      s.burinLives 63 = true ∧ (s.bu 63).kind = k ∧ (s.bu 63).held = false ∧ (s.bu 63).want = false ∧ (s.bu 63).phase = 0 ∧
      (s.bu 63).due < s.leads 63 ∧ (s.bu 63).early = false ∧ s.f (ofBe CC.BCFG_APULL 63) = 0 ∧ s.f (ofBe CC.BCFG_APUSH 63) = 0) ∧
    (let s := (beAt 0 [(ofBe CC.BSH_SCNT 63, 8), (ofBe CC.BCFG_APULL 63, 1), (ofBe CC.BSTAT_TXF 63, 1)]).setBu 63 { Burin.reset with kind := 1 }
     s.burinLives 63 = true ∧ s.pullDue 63 = true ∧ (s.bu 63).want = false ∧ (s.bu 63).held = false ∧ s.f (ofBe CC.BSTAT_TXF 63) = 1) ∧
    (let s := (beAt 0 [(ofBe CC.BSH_SCNT 63, 8)]).setBu 63 { Burin.reset with kind := 2, held := true }
     (s.bu 63).kind ≠ 0 ∧ (s.bu 63).held = true ∧ s.f (ofBe CC.BSTAT_RXF 63) = 0) ∧
    ((at0 [(ofBe CC.BSTAT_TXF 63, 1)]).f (ofBe CC.BSTAT_TXF 63) = 1 ∧ isKbDbg dbg.id.toNat = true ∧
      (let s := at0 [(ofBe CC.BOWN_V 63, 1), (ofBe CC.BOWN_KEY 63, 191)]; s.burinOwner ⟨0x27, some 191, some 191, 0, false, false⟩ 63 = true)) ∧
    (let s := (beAt 0x20000000 [(ofBe CC.BSTAT_STATE 63, 3), (ofBe CC.BCFG_STO 63, 1)]).setBu 63 { Burin.reset with seq := 3, stall := some 0, clk := [⟨0, 0, 0x400, 0, 16⟩] }
     (s.bu 63).stall = some 0 ∧ s.stalled 63 = true ∧ s.burinLives 63 = true ∧ s.f (ofBe CC.BCFG_STO 63) ≠ 0 ∧ 16 ≤ s.leads 63) ∧
    (let e := (beAt 0 [(ofBe CC.BSTAT_TXF 63, 1)]).shiftTurn 63 0; e.f (ofBe CC.BSTAT_TXF 63) = 1) ∧
    (live.bsyncOk kb 7 1 = true ∧ live.bsyncOk hostRq 7 0xFF = false) ∧
    (let s : State := { at0 [(CC.BSYNC_ARM 7, 1), (CC.BSYNC_MASK 7, 0x80)] with syncDue := [7] }
     s.syncDue.contains 7 = true ∧ s.on (CC.BSYNC_ARM 7) = true ∧ s.burinLives 56 = true ∧ bitOf (s.f (CC.BSYNC_MASK 7)) 7 = true ∧
       s.on (CC.BSYNC_OP 7) = false ∧ s.f (ofBe CC.BSTAT_STATE 63) = 0) ∧
    (let s := (beAt 0 []).setBu 63 { Burin.reset with inj := some 0 }
     (s.bu 63).inj.isSome = true ∧ s.burinLives 63 = true ∧ s.progStalled 63 = false) := by decide

/-! ## Ports and the switch -/

/-- Port 15 in a link state, with register fields set. -/
def prt (st : Nat) (l : List (FldAt × Nat)) : State := at0 ([(PORT.STAT_STATE 15, st)] ++ l)

/-- A frame of 60 zero bytes without its FCS, received on port 15. -/
def fr0 : Frame := ⟨List.replicate 60 0, 64, 15, 0, 0, false, 0, 0, 0, none, [], none, 0, false, false, false, 0, [], 0, 1, false, 0, 0⟩

/-- A frame with its FCS passes the FCS check. -/
theorem fcs_passes (x : List Byte) :
    let b := x ++ leBytes 4 (crc32 x)
    b.drop (b.length - 4) = leBytes 4 (crc32 (b.take (b.length - 4))) := by
  have h : (leBytes 4 (crc32 x)).length = 4 := rfl
  simp [h]

/-- The link states, a port on which a fast link failure applies, a multidrop port, a time-stamp queue with one entry. -/
theorem witness_links :
    (∀ st, st < 5 → (prt st []).f (PORT.STAT_STATE 15) = st) ∧ phyTest 15 ((prt 1 []).rd (PHYA.TEST 15)) = false ∧
    (prt 3 [(PORT.CTL_FLF_EN 15, 1)]).fastApplies 15 = true ∧ (prt 3 []).fastApplies 15 = false ∧
    (let s := at0 [(PORT.STAT_STATE 11, 3), (PORT.CTL_MODE 11, 1), (PORT.PLCA_NODE_ID 11, 1)]
     s.portMode 11 = 1 ∧ s.f (PORT.PLCA_NODE_ID 11) ≠ 255 ∧ s.portUp 11 = true) ∧
    (let s := at0 [(PORT.STAT_STATE 11, 3), (PORT.CTL_MODE 11, 1), (PORT.STAT_PLCA_UP 11, 1), (PORT.PLCA_NODE_ID 11, 0), (PORT.PLCA_NODE_CNT 11, 8)]
     s.f (PORT.PLCA_NODE_ID 11) = 0 ∧ s.plcaOn 11 = true ∧ s.plcaNode 11 < s.f (PORT.PLCA_NODE_CNT 11)) ∧
    ((prt 3 []).portUp 15 = true ∧ ((prt 3 []).port 15).chg = false ∧ (prt 3 []).rulMatch 15 [0] = none) ∧
    (live.advertises 15 2 true = true ∧ (at0 [(PORT.CTL_ADV 7, 0)]).advertises 7 2 true = false) ∧
    (idListed kb.id.toNat = true ∧ (live.port 15).tsq = [] ∧ ((live.setPort 15 { PortSt.reset with tsq := [(1, 2, 3)] }).port 15).tsq = [(1, 2, 3)]) ∧
    idListed 0 = false := by decide

/-- A frame at each length the checks distinguish, a pause frame, a good one; frames in transmission, full and half duplex. -/
theorem witness_frames :
    let s := prt 3 []
    let pause : List Byte := List.replicate 12 0 ++ [0x88, 0x08, 0, 1] ++ List.replicate 44 0
    (s.portUp 15 = true ∧ s.rulMatch 15 (List.replicate 64 0) = none ∧ (prt 2 []).portUp 15 = false) ∧
    ((List.replicate 63 (0 : Byte)).length < 64 ∧ s.maxFrm 15 < 9217 ∧ 64 ≤ (fr0.bytes ++ leBytes 4 0).length) ∧
    (be16 pause 12 = 0x8808 ∧ be16 pause 14 = 1 ∧ be16 fr0.bytes 12 ≠ 0x8808 ∧ (s.port 15).rx = []) ∧
    (let t := (prt 3 [(PORT.STAT_FDX 15, 0)]).setPort 15 { PortSt.reset with tx := some (7, fr0), tries := 14 }
     (t.port 15).tx = some (7, fr0) ∧ t.portUp 15 = true ∧ (t.port 15).backoff = none ∧ t.stopped = false ∧ fr0.txrec = [] ∧ (t.port 15).rulq = [] ∧
       (t.port 15).chg = false ∧ t.on (PORT.STAT_FDX 15) = false ∧ (t.port 15).plcaTx = false ∧ t.mayStart 15 false false = true ∧ t.mayStart 15 false true = false ∧ (t.port 15).tries < 15 ∧
       t.rulHolds 15 = false ∧ t.tclkOff = false ∧ (∀ n, n < 4 → (t.ru n).wait = []) ∧
       (t.ptpEdit 15 fr0 (fr0.wire 15) (t.port 15).egress).1.length = 60 ∧ t.hasCredits 0xC0 3 0 (entries 64) = true ∧
       (t.setPool 0xC0 3 0 ⟨0, 0⟩).hasCredits 0xC0 3 0 (entries 64) = false) ∧
    (prt 3 [(PORT.STAT_FDX 15, 1)]).on (PORT.STAT_FDX 15) = true := by decide

/-- A staged frame without a guardian, on an isolated branch, a learned and a static entry, gates, a pending change-over, an idle port. -/
theorem witness_switch :
    let staged := (prt 3 []).setPort 15 { PortSt.reset with rx := [fr0] }
    let guard := fun (l : List (FldAt × Nat)) => (prt 3 ([(SW.GDCFG_EN 3, 1), (RUL.CTL_TOPO 3, 1), (RUL.BRMASK_BRA 3, 0x8000), (RUL.STAT_STATE 3, 4)] ++ l)).setPort 15
      { PortSt.reset with rx := [fr0] }
    let goes := fun (s : State) => (s.port 15).rx = [fr0] ∧ s.tclkOff = false ∧ s.hasCredits 0xC1 3 0 (entries fr0.len) = true
    (goes staged ∧ staged.guardOf 15 = none ∧ (live.port 15).rx = []) ∧
    (let s := staged.setPool 0xC1 3 0 ⟨1, 1⟩; (s.port 15).rx = [fr0] ∧ s.hasCredits 0xC1 3 0 (entries fr0.len) = false) ∧
    (let s : State := { guard [(PORT.STAT_SPEED 15, 2)] with tbl := [(0x40000, 2 ^ 95 + 15 * 2 ^ 64 + 3 * 2 ^ 68 + 1000 * 2 ^ 32)] }
     goes s ∧ s.guardOf 15 = some 3 ∧ (s.guardian 15 fr0.at_ fr0.len).1 = some none ∧
       ((s.guardian 15 fr0.at_ 2000).1.bind id).isSome = true) ∧
    (let s := guard [(SW.GDSTAT_ISO 15, 1)]; goes s ∧ s.f (RUL.STAT_STATE 3) ∈ [3, 4] ∧ s.on (SW.GDSTAT_ISO 15) = true) ∧
    (let s := (guard [(SW.GDSTAT_ISO 15, 1)]).setGd 15 ⟨true, false, 15⟩; (s.gdOf 15).silent = true ∧ max (s.f (RUL.CS2_INTEG 3)) 1 ≤ (s.gdOf 15).ok) ∧
    (let s : State := { at0 [(SW.FDBCFG_AGE, 300)] with tbl := [(8191, 2 ^ 63)] }
     entryV (s.tblEntry 0 8191) = true ∧ bitOf (s.tblEntry 0 8191) 62 = false ∧ s.f SW.FDBCFG_AGE ≠ 0) ∧
    (({ live with nodes := [⟨1, 0, Dup.reset, Dup.reset, Dup.reset, 0⟩] } : State).nodes[0]?).isSome = true ∧
    (let s := (prt 3 []).setQueue (8 * 15 + 7) [fr0]
     s.portUp 15 = true ∧ (s.port 15).tx = none ∧ s.stopped = false ∧ s.on (SW.STCFG_EN 15) = false ∧ s.queue (8 * 15 + 7) = [fr0] ∧ fr0.due = none ∧ s.queue (8 * 15) = []) ∧
    (let s := at0 [(SW.STCFG_PEND 21, 1)]; s.on (SW.STCFG_PEND 21) = true ∧ (tabGet s.stFrom (0, false) 21).1 ≤ s.now ∧ (tabGet s.stFrom (0, false) 21).2 = false) ∧
    (let s := prt 3 []; (s.port 15).rx = [] ∧ (∀ k, k < 8 → s.queue (8 * 15 + k) = []) ∧ (staged.port 15).rx ≠ []) := by decide

/-- A ring of engine region 3 owned by context 191: fresh and stale posts, a release, a descriptor to fetch, H and K rings, tables. -/
theorem witness_rings :
    let own : Rq := ⟨0x27, some 191, some 191, 5, false, false⟩
    let ring := fun (l : List (FldAt × Nat)) => at0 ([(SW.RCFG_EN 3 15, 1), (SW.RCFG_OV 3 15, 1), (SW.RCFG_OWNKEY 3 15, 191)] ++ l)
    (own.id ≠ 8 ∧ own.id ≠ 0x50 ∧ kb.id = 8) ∧ ((ring []).ringOk own 3 15 = true ∧ (ring []).ringOk hostRq 3 15 = false ∧ (ring []).on (SW.RCFG_DIR 3 15) = false ∧
      (ring []).staleAt ((ring []).rplValid 0) (fun k => (ring []).f (SW.RPL_LAST_COS k)) own.key own.cos.toNat = false) ∧
    (let s : State := { ring [(SW.RPL_LAST_COS 191, 5)] with rplOk := [191] }
     s.staleAt (s.rplValid 0) (fun k => s.f (SW.RPL_LAST_COS k)) own.key own.cos.toNat = true) ∧
    (ring [(SW.RCFG_DIR 3 15, 1)]).on (SW.RCFG_DIR 3 15) = true ∧
    (let s := ring [(SW.RPI_RPI 3 15, 1), (SW.RCFG_DIR 3 15, 1), (SW.RBASE_RBASE 3 15, 0x800000)]
     let td := s.plateRead rqHw (s.f (SW.RBASE_RBASE 3 15) * 32 + s.f (SW.RCI_RCI 3 15) * 32) 32
     inPlate (s.f (SW.RBASE_RBASE 3 15) * 32 + s.f (SW.RCI_RCI 3 15) * 32) 32 = true ∧ td.1 = 0 ∧
       s.hasCredits 0x3F 3 0 (entries (descLen td.2.1)) = true ∧ (s.setPool 0x3F 3 0 ⟨0, 0⟩).hasCredits 0x3F 3 0 (entries (descLen td.2.1)) = false) ∧
    (let s := ring [(SW.RPI_RPI 3 15, 1)]; s.on (SW.RCFG_EN 3 15) = true ∧ s.f (SW.RCI_RCI 3 15) ≠ s.f (SW.RPI_RPI 3 15)) ∧
    (let s := ring [(SW.RCFG_DIR 3 15, 1), (SW.RBASE_RBASE 3 15, 0x800000), (SW.RBUF_RBUF 3 15, 0x100100), (SW.CLSRING 3 |> fun a => ⟨a, 28, 4⟩, 15)]
     s.ringFor 3 7 fr0 = 15 ∧ (s.f (SW.RPI_RPI 3 15) + 1) % ringSize (s.f (SW.RCFG_SZ 3 15)) ≠ s.f (SW.RFI_RFI 3 15) ∧
       s.hasCredits 0x3F 3 1 ((([0, 1] : List Byte).length + 35) / 32) = true ∧ ((s.lendFrame 0x3F 1 6).putRx fr0 [0, 1] (s.f (SW.RBASE_RBASE 3 15) * 32 + s.f (SW.RPI_RPI 3 15) * 32)
         (s.f (SW.RBUF_RBUF 3 15) * 256 + s.f (SW.RPI_RPI 3 15) * bufSize (s.f (SW.RCFG_BUFLOG2 3 15))) (bufSize (s.f (SW.RCFG_BUFLOG2 3 15)))).1 = true ∧
       (s.deliverRx 3 7 fr0 [0, 1]).isSome = true) ∧
    (let s := live.setQueue (8 * 16 + 7) [fr0]; ((s.select 16).1 = some (7, fr0) ∧ (live.select 16).1 = none) ∧ fr0.bad = false ∧ fr0.rest = none) ∧
    (let s := (at0 [(SW.HRCFG_EN 15, 1), (SW.HRBASE_RBASE 15, 0x800000)]).putMem 0x10000004 (leBytes 4 0x400000)
     s.on (hkRing false 15).en = true ∧ s.on (hkRing false 15).dir = false ∧ inPlate (s.f (hkRing false 15).base * 32) 32 = true ∧
       (s.plateRead rqHw 0x10000000 32).1 = 0 ∧ bitOf (leNat (sub (s.plateRead rqHw 0x10000000 32).2.1 4 4)) 22 = true) ∧
    (live.on (hkRing true 3).en = false ∧ (511 : BitVec 13).toNat < tblRoom 4 ∧ tblRoom 4 ≤ (512 : BitVec 13).toNat ∧
      live.on OBS.ACTCTL_DMODE = false ∧ isKbDbg kb.id.toNat = true) := by decide +kernel

/-! ## Time -/

/-- The servo owner and another master, steps that are taken and refused, phases left and not, a watchdog in LOCKED. -/
theorem witness_time :
    (live.servoOk kb = true ∧ live.servoOk hostRq = false) ∧
    (live.f TMU.STAT_STATE = 0 ∧ live.anyRuns = false ∧ (999999999 : Word).toNat ≤ 999999999 ∧ ¬(1000000000 : Word).toNat ≤ 999999999) ∧
    (live.f TMU.MBCCFG_PER = 0 ∧ (at0 [(TMU.MBCCFG_PER, 1)]).f TMU.MBCCFG_PER ≠ 0) ∧
    (let s : State := { at0 [(TMU.STAT_STATE, 2), (TMU.SRVCFG_UPD_TO, 1)] with ticks := 500000 }
     s.f TMU.STAT_STATE = 2 ∧ s.f TMU.SRVCFG_UPD_TO ≠ 0 ∧ s.updAt + s.f TMU.SRVCFG_UPD_TO * 500000 ≤ s.ticks ∧ s.servoWaits = false ∧
       ({ s with pending := [.freqWrite kb 0] } : State).servoWaits = true) ∧
    (({ live with ticks := 16 } : State).mbEdge = true ∧ ({ live with ticks := 17 } : State).mbEdge = false) ∧
    (live.time.rem = 0 ∧ ({ live with time := { TimeUnit.reset with rem := -1 } } : State).time.rem ≠ 0) := by decide

/-- Table 9.1: a step sets seconds and nanoseconds; R271: FREQ is clamped to 500 ppm. -/
theorem test_time :
    (match exec (.timeStep kb 5 999999999) live with | .next t => (t.nowSec, t.nowNs, t.f TMU.STAT_STEPS) | _ => (0, 0, 0)) = (5, 999999999, 1) ∧
    (match exec (.freqWrite kb 0x7FFFFFFF) live with | .next t => t.f TMU.FREQ_FREQ | _ => 0) = 500 * 65536 := by decide +kernel

/-- Capture pins that take an edge with room and full, triggers on time and late, pins armed and not. -/
theorem witness_time_pins :
    let cap := at0 [(TMU.TIOCFG_MODE 3, 1)]
    (cap.tioMode 3 = 1 ∧ cap.f (TMU.TIOCFG_EDGE 3) ∉ [1, 2] ∧ live.tioMode 3 ≠ 1 ∧ cap.tclkOff = false ∧ (at0 [(SYS.PWRSTAT_STATE, 4)]).tclkOff = true) ∧
    (let s : State := { cap with time := { TimeUnit.reset with cap := [(3, List.replicate 4 (1, 2))] } }
     4 ≤ (tabGet s.time.cap [] 3).length ∧ tabGet s.time.cap [] 3 = (1, 2) :: List.replicate 3 (1, 2) ∧ 2 < 2 ^ 32) ∧
    ((tabGet cap.time.cap [] 3).length < 4 ∧ idListed kb.id.toNat = true ∧ isKbDbg kb.id.toNat = true) ∧
    (live.now ≤ live.fullTime (live.f (TMU.STARTNS_NS 3)) (live.f (TMU.STARTSEC_SEC 3))) ∧
    (let s : State := { live with time := { TimeUnit.reset with sub := nsUnit } }
     s.fullTime (s.f (TMU.STARTNS_NS 3)) (s.f (TMU.STARTSEC_SEC 3)) < s.now) ∧
    (let s : State := { live with trig := [(3, ⟨2, 0, 1000, 100, true⟩)] }
     s.trig.find? (fun e => e.1 == 3) = some (3, ⟨2, 0, 1000, 100, true⟩) ∧ s.stopped = false) ∧
    (let s := at0 [(TMU.PPSOUT_EN, 1), (TMU.PPSOUT_SYNCONLY, 1), (TMU.STAT_INBOUND, 1)]
     s.on TMU.PPSOUT_EN = true ∧ s.on TMU.PPSOUT_SYNCONLY = true ∧ s.on TMU.STAT_INBOUND = true ∧ s.stopped = false) := by decide

/-! ## Ruling -/

/-- Instance 3 with channel A on ports 15 (out) and 14 (return), both up, in a state of Table 10.6, with register fields set. -/
def rl (st : Nat) (l : List (FldAt × Nat)) : State :=
  at0 ([(PORT.STAT_STATE 15, 3), (PORT.STAT_STATE 14, 3), (RUL.CTL_RUN 3, 1), (RUL.CTL_CHEN 3, 1), (RUL.PORTS_AOUT 3, 15), (RUL.PORTS_ARET 3, 14),
    (RUL.NODE_NODEID 3, 5), (RUL.STAT_MASTER 3, 7), (RUL.STAT_STATE 3, st)] ++ l)

/-- A summation frame of channel A without its FCS, sent by node `m` in cycle `cyc`. -/
def rfr (s : State) (cyc m : Nat) : List Byte := s.rulFrame 3 1 0 cyc m (List.replicate 30 0)

/-- A frame with its FCS is good for the Ruling receiver. -/
theorem fcsGood_fcsOf (x : List Byte) : fcsGood (x ++ fcsOf x) = true := by
  have h : (fcsOf x).length = 4 := rfl
  simp [fcsGood, sub, h]

theorem take_fcs (x : List Byte) : (x ++ fcsOf x).take ((x ++ fcsOf x).length - 4) = x := by
  have h : (fcsOf x).length = 4 := rfl
  simp [h]

/-- Every state of Table 10.6, stopped and running instances, checks that pass and fail, launches in and out of turn. -/
theorem witness_ruling :
    (∀ st, st < 5 → (rl st []).f (RUL.STAT_STATE 3) = st) ∧
    (isKbDbg kb.id.toNat = true ∧ isKbDbg hostRq.id.toNat = false ∧ live.on (RUL.CTL_RUN 3) = false ∧ (rl 0 []).rulChecks 3 = true ∧
      (rl 0 [(RUL.PORTS_ARET 3, 0)]).rulChecks 3 = false) ∧
    (let s := (rl 0 [(RUL.CTL_RUN 3, 0)]); s.on (RUL.CTL_RUN 3) = false ∧ (rl 4 [(RUL.CTL_RUN 3, 0)]).f (RUL.STAT_STATE 3) ≠ 0) ∧
    (let s : State := { (rl 0 []).setRu 3 { RulSt.reset with ok := true } with time := { TimeUnit.reset with sub := 1000 * nsUnit } }
     s.on (RUL.CTL_RUN 3) = true ∧ s.f (RUL.STAT_STATE 3) = 0 ∧ (s.ru 3).ok = true ∧ (s.ru 3).runAt + 1000 ≤ s.now) ∧
    (let s : State := { rl 2 [] with time := { TimeUnit.reset with sub := 1000000 * nsUnit } }; (s.ru 3).claimAt + s.ttCycle 3 ≤ s.now) ∧
    (let s := rl 3 []
     s.chOn 3 0 = true ∧ 0 ≤ s.f (RUL.CTL_NFRAME 3) ∧ s.topo 3 = 0 ∧ s.portUp (s.chOut 3 0) = true ∧ s.portUp (s.chRet 3 0) = true ∧
       (s.port (s.chOut 3 0)).tx = none ∧ (s.port (s.chRet 3 0)).tx = none ∧ s.chOut 3 0 ≠ s.chRet 3 0 ∧
       (s.setPort 14 { PortSt.reset with tx := some (8, rulingFrame [0] true) }).pairFree 3 0 = false ∧
       s.chOn 3 1 = false ∧ s.f (RUL.CTL_NFRAME 3) < 3 ∧ 2 ∉ [3, 4] ∧ (s.ru 3).judged.contains 0 = false ∧
       ((s.setRu 3 { RulSt.reset with judged := [0] }).ru 3).judged.contains 0 = true ∧ (s.ru 3).ok = false) ∧
    (let s := (rl 2 []).setRu 3 { RulSt.reset with ok := true }; (s.ru 3).ok = true) ∧
    (let s := (rl 3 [(RUL.CTL_REPAIR 3, 1), (RUL.RPT_RPT 3 0, 1)]).setRu 3 { RulSt.reset with launched := [(0, 0, List.replicate 30 0)] }
     s.on (RUL.CTL_REPAIR 3) = true ∧ s.f (RUL.RPT_RPT 3 0) ≠ 0 ∧ tabGet s.rulDone 0 (3 * 8) ≠ 2 ∧ (s.ru 3).repaired.contains 0 = false ∧ (s.ru 3).wait.contains (0, 0, 1) = false ∧
       (s.ru 3).launched.find? (fun e => e.1 == 0) = some (0, 0, List.replicate 30 0)) ∧
    (let s := rl 1 [(RUL.CTL_CSTART 3, 1), (RUL.CTL_TOPO 3, 1), (RUL.BRMASK_BRA 3, 0x8000)]
     s.on (RUL.CTL_CSTART 3) = true ∧ s.topo 3 ≠ 0 ∧ s.chOn 3 0 = true ∧ 15 ∈ s.chPorts 3 0 ∧ s.portUp 15 = true ∧ (s.port 15).tx = none) ∧
    (let s := rl 3 [(RUL.MARK_EN 3 15, 1)]
     s.ttMarks 3 = true ∧ s.on (RUL.MARK_EN 3 15) = true ∧ s.markOffset 3 15 < s.ttCycle 3 ∧ s.on (RUL.MARK_EN 3 14) = false ∧ live.ttMarks 3 = false) := by
  decide +kernel

/-- A frame of the master at a member in the right cycle, at a stopped instance, at the master in another cycle; a frame no instance takes. -/
theorem witness_ruling_frames :
    (∀ st ∈ [0, 3, 4], let s := rl st [(RUL.CYCNT_N 3, 9), (RUL.CTL_FSIL 3, 0)]
      let y := rfr s 9 7
      s.portUp 15 = true ∧ 64 ≤ (y ++ fcsOf y).length ∧ s.rulMatch 15 (y ++ fcsOf y) = some (3, 0) ∧ s.topo 3 = 0 ∧ rfVer y = 1 ∧ rfType y = 1 ∧ s.f (RUL.STAT_MASTER 3) = rfSender y % 1024 ∧
        s.on (RUL.STAT_SILENT 3) = false ∧ s.on (RUL.CTL_FSIL 3) = false ∧ rfLoop y = false ∧ s.pending = [] ∧ rfLoop (s.rulFrame 3 1 0x20 8 7 (List.replicate 30 0)) = true ∧ rfCycle y = s.f (RUL.CYCNT_N 3) ∧ (s.ru 3).claims = [] ∧
        (s.ru 3).used = [] ∧ rfCycle (rfr s 8 7) ≠ s.f (RUL.CYCNT_N 3)) ∧
    (rl 4 []).rulMatch 15 (List.replicate 64 0) = none := by decide +kernel

/-! ## Process images -/

/-- Image 255 with base and header in Plate, with register fields set. -/
def im (l : List (FldAt × Nat)) : State :=
  at0 ([(PLT.IMGBASE_ADDR 255, 0x400000), (PLT.IMGHDR_ADDR 255, 0x450000), (PLT.IMGSIZE_SIZE 255, 1)] ++ l)

/-- The image enabled, written by thread 191's context, with a generation. -/
def imOn (l : List (FldAt × Nat)) : State :=
  (im ([(PLT.IMGCFG_EN 255, 1), (PLT.IMGCFG_WKEY 255, 191), (PLT.IMGSTAT_WBUF 255, 1)] ++ l)).setImg 255 { ImgSt.reset with gen := 1 }

def wrt : Rq := ⟨0x27, some 191, some 191, 0, false, false⟩

/-- An image that may be enabled and one that may not, an enabled one, writers in time and late, leases with room and full, fills. -/
theorem witness_images :
    ((im []).placementOk 255 1 = true ∧ live.placementOk 255 1 = false ∧ (im []).on (PLT.IMGCFG_EN 255) = false ∧ (imOn []).on (PLT.IMGCFG_EN 255) = true) ∧
    (isKbDbg kb.id.toNat = true ∧ isKbDbg wrt.id.toNat = false ∧ (imOn []).isWriter 255 wrt = true ∧ (imOn []).isWriter 255 hostRq = false) ∧
    (let s := imOn [(PLT.IMGCFG_PUB 255, 1)]; s.f (PLT.IMGCFG_WRK 255) ∈ [0, 3] ∧ s.on (PLT.IMGCFG_PUB 255) = true ∧ s.on (PLT.IMGSTAT_READY 255) = false) ∧
    (let s := imOn [(PLT.IMGSTAT_READY 255, 1)]
     s.on (PLT.IMGSTAT_READY 255) = true ∧ s.on (PLT.IMGCFG_PUB 255) = false ∧ s.nextMarkCycle 255 = none) ∧
    (let s := imOn [(PLT.IMGSTAT_READY 255, 1), (PLT.IMGCFG_TT 255, 3), (PLT.IMGCFG_MARK 255, 15), (RUL.MARK_EN 3 15, 1), (RUL.CTL_RUN 3, 1), (RUL.STAT_STATE 3, 3)]
     s.on (PLT.IMGCFG_PUB 255) = false ∧ s.nextMarkCycle 255 = some 1 ∧ (1 : BitVec 16).toNat = 1 % 2 ^ 16 ∧ (0 : BitVec 16).toNat ≠ 1 % 2 ^ 16) ∧
    (let s := imOn [(PLT.IMGCFG_WRK 255, 2)]; s.hwReady 255 = true ∧ s.on (PLT.IMGSTAT_READY 255) = false ∧ (imOn []).hwReady 255 = false) ∧
    (let s : State := { imOn [] with leases := List.replicate 504 ⟨0, 0, 0, 0⟩ }
     ((imOn []).img 255).gen ≠ 0 ∧ ((imOn []).leases).length < 504 ∧
       504 ≤ (s.leases.filter (fun l => !(l.img == 255 && l.holder == holderOf wrt))).length ∧ ((im []).img 255).gen = 0) ∧
    (let s := imOn []
     let hit := fun (a n : Nat) => s.enabledImages.filter (fun i => s.inBuffers i a n)
     hit 0x10000040 64 = [255] ∧ s.inW 255 0x10000040 64 = true ∧ s.inW 255 0x10000080 64 = false ∧ hit 0x10000080 64 = [255] ∧
       hit 0x100000C0 64 = [] ∧ inPlate 0x117FFFFF 1 = true ∧ inPlate 0x117FFFFF 2 = false) ∧
    (let s := imOn [(PLT.IMGSTAT_FILL 255, 1), (PLT.IMGCFG_INIT 255, 2)]; s.on (PLT.IMGSTAT_FILL 255) = true ∧ s.f (PLT.IMGCFG_INIT 255) = 2) ∧
    (imOn [(PLT.IMGSTAT_FILL 255, 1), (PLT.IMGCFG_INIT 255, 1)]).f (PLT.IMGCFG_INIT 255) = 1 := by decide +kernel

/-- R330 and Table 11.7: LEASE of an enabled image with generation 1 answers buffer 0, OK and the generation; a disabled image answers NONE. -/
theorem test_lease :
    (match exec (.leaseTake wrt 255) (imOn []) with | .next t => leNat t.resp.data | _ => 0) = 0x00010004 ∧
    (match exec (.leaseTake wrt 255) (im []) with | .next t => leNat t.resp.data | _ => 0) = 8 := by decide +kernel

/-! ## Plate, the sealed bank, the life cycle -/

/-- Accesses at the ends of Plate, the alias and the sealed bank; banks in each state; a correctable mark; tamper inputs. -/
theorem witness_plate :
    let s := live
    (s.enabledImages = [] ∧ s.ecc = [] ∧ ∀ k, k < 98 → s.f (PLT.BANKSTAT_STATE k) = 0) ∧
    (inPlate 0x117FFFF8 8 = true ∧ inPlate 0x117FFFF9 8 = false ∧ inPlate (plateLo + (0x12000000 - 0x12000000) + tabGet s.rot 0 (holderOf wrt)) 8 = true ∧
      0x12000000 + 8 ≤ 0x13800000) ∧
    (let t : State := { at0 [(PLT.CFG_SCRUB, 1)] with ecc := [(plateLo / 8, 1)] }
     t.f PLT.CFG_SCRUB ≠ 0 ∧ t.ecc = [(plateLo / 8, 1)] ∧ plateLo ≤ plateLo / 8 * 8 ∧ plateLo / 8 * 8 < plateHi ∧ bankOf (plateLo / 8 * 8) = 0 ∧
       (at0 [(PLT.CFG_SCRUB, 0)]).f PLT.CFG_SCRUB = 0) ∧
    (let t := at0 [(PLT.BANKSTAT_STATE 95, 1)]
     isKbDbg kb.id.toNat = true ∧ (95 : BitVec 7).toNat ≤ 95 ∧ t.f (PLT.BANKSTAT_STATE 95) = 1 ∧ t.on PLT.BANKOP_BUSY = false ∧ t.enabledImages = [] ∧
       95 < (96 : BitVec 7).toNat) ∧
    (let t := at0 [(PLT.BANKSTAT_STATE 95, 2)]; t.f (PLT.BANKSTAT_STATE 95) = 2 ∧ ∀ k, k < 95 → t.f (PLT.BANKSTAT_STATE k) ≠ 2) ∧
    (∀ k, k < 96 → s.f (PLT.BANKSTAT_STATE k) ≠ 2) ∧
    (kb.id = 8 ∧ kb.sec = true ∧ s.f PLT.LCSTAT_STATE ≤ 2 ∧ s.on PLT.SBSTAT_WIPING = false ∧ (at0 [(PLT.SBSTAT_WIPING, 1)]).on PLT.SBSTAT_WIPING = true ∧
      hostRq.id ≠ 8) ∧
    (s.on WAKE.TAMPCFG_EN0 = false ∧ (at0 [(WAKE.TAMPCFG_EN1, 1)]).on WAKE.TAMPCFG_EN1 = true ∧
      (({ at0 [(WAKE.TAMPCFG_EN1, 1)] with powerOff := true } : State).powerOff = true) ∧ s.powerOff = false) ∧
    (let rom : Rq := { kb with rom := true }
     s.lcAccepts rom 1 0x4C43 = true ∧ s.lcAccepts rom 4 0x4C43 = true ∧ s.lcAccepts rom 2 0x4C43 = false ∧ s.lcAccepts kb 1 0x4C43 = false) ∧
    (let slot := plateLo + (0x12000000 - 0x12000000) + tabGet s.rot 0 (holderOf kb)
     inPlate (slot + 28) 8 = true ∧ 32 < (slot + 28) % 32 + 8 ∧ slot % 32 + 8 ≤ 32) ∧
    (let t : State := { s with lcTarget := some 7 }; t.lcTarget = some 7 ∧ 7 < 8 ∧ t.on PLT.SBSTAT_WIPING = false ∧ s.lcTarget = none) := by decide +kernel

/-- Table 16.1: Plate bank of an address; the sealed bank's two banks follow. -/
theorem test_banks :
    bankOf 0x10000000 = 0 ∧ bankOf 0x10000300 = 3 ∧ bankOf 0x117FFFFF = 95 ∧ bankOf 0x11800000 = 96 ∧ bankOf 0x11800100 = 97 := by decide

/-! ## The loop engine -/

/-- A slot 511 of lane 3 that reads image 255 at offset 0 as binary32, writes image 255, gain 1 in P. -/
def lpPars : List Nat := [0x31, 0xFF, 0x40000000, 0x08FF, 0x7F7FFFFF, 0, 0, 0x3F800000, 0, 0, 0, 0x3F800000, 0, 0, 0xFF7FFFFF, 0x7F7FFFFF]
def lpE (p : List Nat) : LpEntry := ⟨511, p, [], 1, 0, 0, 0⟩

/-- Image 255 published, slot 511 waits on lane 3. -/
def lpAt (p : List Nat) (l : List (FldAt × Nat)) : State :=
  (({ at0 ([(PLT.IMGBASE_ADDR 255, 0x400000), (PLT.IMGHDR_ADDR 255, 0x450000), (PLT.IMGSIZE_SIZE 255, 1), (PLT.IMGCFG_EN 255, 1), (PLT.IMGCFG_WRK 255, 2)] ++ l)
    with lpTrig := 1 } : State).setImg 255 { ImgSt.reset with gen := 1 }).setLane 3 [lpE p]

/-- Triggers with EN, a batch, slots that count down, wait, are pending or stopped; a step that runs; one that reads a NaN, an image never published,
a record with an error; an output without its answer. -/
theorem witness_loop_steps :
    (isKbDbg kb.id.toNat = true ∧ isKbDbg hostRq.id.toNat = false ∧ (at0 [(LPE.CTL_EN, 1), (LPE.TMRCTL_EN 15, 1)]).on (LPE.TMRCTL_EN 15) = true ∧
      live.on LPE.CTL_EN = false ∧ live.tmrDue 15 = true ∧ ({ live with time := { TimeUnit.reset with sub := 3 * nsUnit } } : State).tmrDue 15 = false) ∧
    (let s : State := { live with lpDue := [(0, 5, 6, 0x60), (0, 5, 6, 1), (2, 5, 6, 1)] }
     s.lpDue = (0, 5, 6, 0x60) :: [(0, 5, 6, 1), (2, 5, 6, 1)] ∧ s.actDue = false ∧ live.lpDue = []) ∧
    (bitOf (live.lpSt 511 5) 5 = false ∧ bitsOf (live.lpSt 511 5) 8 8 = 0 ∧ bitOf ((live.setLpSt 511 5 0x20).lpSt 511 5) 5 = true ∧
      bitsOf ((live.setLpSt 511 5 0xFF00).lpSt 511 5) 8 8 = 255) ∧
    (let s := lpAt lpPars []
     s.lane 3 = lpE lpPars :: [] ∧ (match s.reserve 0xA2 with | some y => y.lpMay (lpE lpPars) | none => false) = true ∧
       ((s.setPool 0xA2 0 0 ⟨0, 0⟩).setLane 3 [lpE lpPars]).reserve 0xA2 = none ∧
       (match (s.setPool 0xA2 0 0 ⟨1, 1⟩).reserve 0xA2 with | some y => y.lpMay (lpE lpPars) | none => true) = false ∧ s.ecc = [] ∧ bitOf (lpPars.getD 0 0) 1 = false ∧ bitOf (lpPars.getD 0 0) 10 = false ∧
       s.tsg = [] ∧ s.cap = [] ∧ live.lane 3 = [] ∧
       (s.lpRead 255 0 4).1 = some 0 ∧ (lpLaw (fun w => lpPars.getD w 0) (s.lpSt 511) 0 (lpPars.getD 2 0) 0 0 0 (0, false)).nan = false ∧
       (lpLaw (fun w => lpPars.getD w 0) (s.lpSt 511) 0 0x7FC00000 0 0 0 (0, false)).nan = true) ∧
    ((lpAt lpPars [(PLT.IMGCFG_EN 255, 0)]).lpRead 255 0 4).1 = none ∧
    (let s : State := { lpAt lpPars [] with ecc := [((lpEccAt 0 (16 * 511 + 15)) / 8, 2)] }
     s.lane 3 = lpE lpPars :: [] ∧ (match s.reserve 0xA2 with | some y => y.lpMay (lpE lpPars) && (y.setLane 3 []).lpBad 0 (16 * 511 + 15) | none => false) = true ∧
       s.lpBad 0 (16 * 511 + 15) = true) ∧
    (let s : State := { live with lpOut := [(3, [⟨511, 255, 8, [0, 0, 0, 0]⟩])] }
     tabGet s.lpOut [] 3 = ⟨511, 255, 8, [0, 0, 0, 0]⟩ :: [] ∧
       (let at_ := s.imgBuf 255 (s.imgW 255) + 8
        s.banksFree at_ 4 true = true ∧ (s.setPool (bankQueue (bankOf at_)) 0 0 ⟨0, 0⟩).banksFree at_ 4 true = false) ∧ tabGet live.lpOut [] 3 = []) := by decide +kernel

/-- R348 with KP = 1, B = 1 and the other gains 0: set point 2, input 0, output 2.0. -/
theorem test_loop_law : (lpLaw (fun w => lpPars.getD w 0) (live.lpSt 511) 0 0x40000000 0 0 0 (0, false)).out = 0x40000000 := by decide +kernel

/-- R356: the sine table at 0, a quarter, a half and three quarters. -/
theorem test_sine : (sineTab 0, sineTab 1024, sineTab 2048, sineTab 3072) = (0, 0x3F800000, 0, 0xBF800000) := by decide +kernel

/-- An activation armed and due, records marked, good and bad; a ring that clears; generators and channels that run and do not; each space at its
ends. -/
theorem witness_loop_records :
    (isKbDbg kb.id.toNat = true ∧ isKbDbg hostRq.id.toNat = false ∧ live.on OBS.ACTSTAT_ARMED = false ∧
      (at0 [(OBS.ACTSTAT_ARMED, 1)]).on OBS.ACTSTAT_ARMED = true) ∧
    (let s : State := { at0 [(OBS.ACTSTAT_ARMED, 1)] with lpMarks := [511, 0x21F], time := { TimeUnit.reset with sub := 100000000 * nsUnit } }
     s.takeDue 511 = true ∧ s.takeDue 0x21F = true ∧ s.takeDue 510 = false ∧ s.lpMarks.contains (0x200 + 31) = true) ∧
    (let s : State := (live.setMarks [511]).lpSet 1 (16 * 511) 1
     let m := (s.setMarks (s.lpMarks.filter (fun x => x != 511))).epFlag 8
     bitOf (s.lpW 1 (16 * 511)) 0 = true ∧ m.lpCheck 511 (fun w => m.lpW 1 (16 * 511 + w)) (fun w => m.lpRc 0 w) = false) ∧
    (let s := (List.range 16).foldl (fun s w => s.lpSet 1 (16 * 511 + w) (lpPars.getD w 0)) (lpAt lpPars [])
     let m := (s.setMarks (s.lpMarks.filter (fun x => x != 511))).epFlag 8
     bitOf (s.lpW 1 (16 * 511)) 0 = true ∧ m.lpCheck 511 (fun w => m.lpW 1 (16 * 511 + w)) (fun w => m.lpRc 0 w) = true ∧ bitOf (s.lpPar 511 0) 0 = false) ∧
    (let s : State := { live with lpClr := [(511, 262128, 16)] }; (511, 262128, 16) ∈ s.lpClr ∧ 262128 ≤ 262143 ∧ 262143 < 262128 + 16) ∧
    ((live.gen 15).run = false ∧ (live.gen 15).armed = none ∧ ((live.setGen 15 { TsgSt.reset with run := true }).gen 15).run = true ∧
      (live.capSt 3).run = false ∧ (live.capSt 3).armed = none) ∧
    (let s := at0 [(LPE.IWADDR_SPACE, 5), (LPE.IWADDR_INDEX, 262143), (LPE.IWADDR_AINC, 1)]
     s.f LPE.IWADDR_SPACE ∈ [0, 1, 3, 4, 5] ∧ s.f LPE.IWADDR_INDEX < lpWords (s.f LPE.IWADDR_SPACE) ∧ s.on LPE.IWADDR_AINC = true ∧
       s.poolHeld 262143 = false ∧ ¬(kb.id = 8 ∧ s.on FLT.CTL_PEEK = true)) ∧
    (let s := at0 [(LPE.IWADDR_SPACE, 7), (LPE.IWADDR_INDEX, 4097), (LPE.IWADDR_AINC, 0)]; lpWords (s.f LPE.IWADDR_SPACE) ≤ s.f LPE.IWADDR_INDEX ∧ s.on LPE.IWADDR_AINC = false) ∧
    (let s := ((((at0 [(LPE.IWADDR_SPACE, 5)]).lpSet 0 0 3).lpSet 3 0 1).lpSet 3 1 0x100000)
     s.f LPE.IWADDR_SPACE = 5 ∧ s.f LPE.IWADDR_INDEX < 262144 ∧ s.poolHeld 0 = true) := by decide +kernel

/-! ## The work scheduler -/

/-- A descriptor with word 0 and word 1. -/
def dsc (w0 w1 : Nat) : List Byte := leBytes 4 w0 ++ leBytes 4 w1 ++ List.replicate 40 0

/-- An item at a place: order, words 0 and 1, state, core, key. -/
def itm (ord w0 w1 st core key : Nat) : Item := ⟨ord, dsc w0 w1, 8, none, false, 0, 0, 0, st, core, 0, key, 0, 0, false⟩

/-- Core 15 admitted, with items. -/
def wsc (l : List Item) (r : List (FldAt × Nat)) : State := { at0 ([(WSC.CORECFG_EN 15, 1)] ++ r) with items := l }

/-- Thread 191, with COS 5. -/
def wrt0 : Rq := ⟨0x27, some 191, some 191, 5, false, false⟩

/-- Submissions that each order of Table 14.3 decides, host rings that poll. -/
theorem witness_work :
    (State.submitter wrt0.id.toNat = true ∧ State.submitter hostRq.id.toNat = false) ∧
    (let s : State := { at0 [(WSC.RPL_LAST_COS 191, 5)] with rplOk := [0x100 + 191] }
     s.staleAt (s.rplValid 1) (fun k => s.f (WSC.RPL_LAST_COS k)) wrt0.key wrt0.cos.toNat = true) ∧
    (let s := live
     s.staleAt (s.rplValid 1) (fun k => s.f (WSC.RPL_LAST_COS k)) wrt0.key wrt0.cos.toNat = false ∧ descOk (s.stagedDesc wrt0) = true ∧
       descRegion (s.stagedDesc wrt0) = some 0 ∧ s.f (SYS.RGCTL_STATE 0) = 0 ∧ s.items.length < 32768 ∧ s.f WSC.CFG_RSV < 32768 - s.items.length) ∧
    (descOk (dsc 0x80000000 0) = false ∧ descOk (dsc 0 0x10) = false ∧ descOk (dsc 0x10000000 4) = false ∧ descRegion (dsc 0 15) = some 3) ∧
    (at0 [(SYS.RGCTL_STATE 3, 1)]).f (SYS.RGCTL_STATE 3) ≠ 0 ∧
    (let s := at0 [(WSC.HSQCFG_EN 1, 1)]
     s.on (WSC.HSQCFG_EN 1) = true ∧ s.on (WSC.HSQCFG_ERR 1) = false ∧ (s.hsqRead 1 (s.f (WSC.HSQBASE_ADDR 1) * 64) 64).1 ≠ 0 ∧
       live.on (WSC.HSQCFG_EN 1) = false) ∧
    (let s := at0 [(WSC.HSQCFG_EN 1, 1), (WSC.HSQBASE_ADDR 1, 0x400000), (PCI.B2ATTR_RD 1 0, 1), (PCI.B2ATTR_EN 1 0, 1)]
     let r := s.hsqRead 1 (s.f (WSC.HSQBASE_ADDR 1) * 64 + s.f (WSC.HSQIDX_IDX 1) % 2 ^ 4 * 64) 64
     r.1 = 0 ∧ leNat (sub r.2.1 48 1) % 2 = 0) ∧
    (let s := (at0 [(WSC.HSQCFG_EN 1, 1), (WSC.HSQBASE_ADDR 1, 0x400000), (PCI.B2ATTR_RD 1 0, 1), (PCI.B2ATTR_WR 1 0, 1), (PCI.B2ATTR_EN 1 0, 1)]).putMem 0x10000030 [1]
     let r := s.hsqRead 1 (s.f (WSC.HSQBASE_ADDR 1) * 64) 64
     r.1 = 0 ∧ leNat (sub r.2.1 48 1) % 2 = 1 ∧ r.2.2.itemOrder (r.2.1.take 48) false = 0 ∧ (s.hsqEntry 1).1 = true ∧ (live.hsqEntry 1).1 = false) := by
  decide +kernel

/-- Decisions: an offer to an idle core, a victim, neither; items that wait for a spill. -/
theorem witness_dispatch :
    (let x := itm 1 0xF000000 15 0 0 0
     let s := wsc [x] []
     let idle := s.coreOrder.filter (fun k => s.admitted k && s.depth k == 0 && (s.offerOf k).isNone)
     idle.findSome? (fun k => (s.choose k).map (fun y => (k, y))) = some (15, x)) ∧
    (let x := itm 2 0x4F000000 15 0 0 0
     let s := wsc [itm 1 0 15 2 15 252, x] []
     let pre := s.items.filter (fun y => s.selectable y && descPre y.desc)
     (s.coreOrder.filter (fun k => s.admitted k && s.depth k == 0 && (s.offerOf k).isNone)) = [] ∧
       (pre.filter (fun y => y.prio == topPrio pre)).head? = some x ∧ s.pickVictim x = some 15 ∧ s.choose 15 = some x) ∧
    (let x := itm 2 0x4F000000 14 0 0 0
     let s := wsc [itm 1 0 15 2 15 252, x] []
     let pre := s.items.filter (fun y => s.selectable y && descPre y.desc)
     (pre.filter (fun y => y.prio == topPrio pre)).head? = some x ∧ s.pickVictim x = none) ∧
    (let s := wsc [itm 1 0x20000000 3 0 0 0, itm 2 0x20000000 3 0 0 0] [(WSC.CFG_SPILL, 1)]
     s.f WSC.CFG_SPILL ≠ 0 ∧ (∀ y ∈ s.items, ∀ z ∈ s.items, y.ord = z.ord → y = z) ∧ (at0 [(WSC.CFG_SPILL, 0)]).f WSC.CFG_SPILL = 0) := by decide +kernel

/-- Core 15 with an offer, with a run item, frozen items, failed; others. -/
theorem witness_taking :
    (let me : Rq := ⟨0x3F, none, none, 0, false, false⟩
     me.id.toNat = 0x30 + 15 ∧ live.offerOf 15 = none ∧ (wsc [itm 1 0 15 1 15 0] []).offerOf 15 = some (itm 1 0 15 1 15 0) ∧
       (wsc [itm 1 0 15 2 15 252] []).topItem 15 = some (itm 1 0 15 2 15 252) ∧ 192 ≤ 252 ∧ 252 < 256 ∧ live.topItem 15 = none ∧
       appCore kb.id.toNat = none ∧ appCore hostRq.id.toNat = none) ∧
    ((wsc [itm 1 0 15 2 15 252] []).depth 15 ≠ 0 ∧ ¬(live.depth 15 ≠ 0 ∨ (live.offerOf 15).isSome = true)) ∧
    (let s := wsc [itm 1 0 15 2 15 252] [(WSC.CORECFG_WDOG 15, 1)]; s.f (WSC.CORECFG_WDOG 15) ≠ 0 ∧ s.depth 15 ≠ 0) ∧
    live.f (WSC.CORECFG_WDOG 15) = 0 ∧
    (let s := wsc [itm 1 0 15 3 15 252] [(WSC.CORESTAT_STATE 15, 2)]
     (∀ y ∈ s.items, ∀ z ∈ s.items, y.ord = z.ord → y = z) ∧ s.f (WSC.CORESTAT_STATE 15) = 2 ∧ s.f (WSC.CORESTAT_KEYBUSY 15) = 0) ∧
    (at0 [(WSC.CORESTAT_STATE 15, 2), (WSC.CORESTAT_KEYBUSY 15, 8)]).f (WSC.CORESTAT_KEYBUSY 15) ≠ 0 ∧
    (isKbDbg kb.id.toNat = true ∧ isKbDbg hostRq.id.toNat = false ∧ live.f (WSC.CORESTAT_STATE 15) ≠ 2) := by decide +kernel

/-! ## Pantograph -/

/-- Channel 15 of instance 3 with a program at Plate's first byte, owned by the Keyblock, in a state. -/
def pch (st : Nat) (ins : List Nat) (l : List (FldAt × Nat)) : State :=
  (at0 ([(DM.CHCFG_EN 3 15, 1), (DM.CHCFG_OWNER 3 15, 8), (DM.CHSTAT_STATE 3 15, st), (DM.CHPC_PC 3 15, 0x1000000)] ++ l)).putMem 0x10000000
    (ins.flatMap (leBytes 4))

/-- `State.panAt` as a Bool. -/
def atIns (s : State) (n j : Nat) (i : PIns) : Bool :=
  let r := s.panRead n j false (16 * s.f (DM.CHPC_PC n j)) 16
  decide (s.chanSt n j = 1) && !s.regionDown n && decide ((s.pan n j).xfer = none) && fetchRange n (16 * s.f (DM.CHPC_PC n j)) && pinsLegal i && decide (r.1 = 0) && decide (pinsOf r.2.1 = i)

theorem panAt_of {s : State} {n j : Nat} {i : PIns} (h : atIns s n j i = true) : s.panAt n j i (s.panRead n j false (16 * s.f (DM.CHPC_PC n j)) 16).2.2 := by
  simp only [atIns, Bool.and_eq_true, Bool.not_eq_true', decide_eq_true_eq] at h
  exact ⟨h.1.1.1.1.1.1, h.1.1.1.1.1.2, h.1.1.1.1.2, h.1.1.1.2, h.1.1.2, _, Prod.ext h.1.2 rfl, h.2⟩

/-- Owners and others, fresh and stale starts, each state of a channel, occurrences that are due and not, timeouts. -/
theorem witness_channels :
    ((pch 0 [] []).chanOwner kb 3 15 = true ∧ (pch 0 [] []).chanOwner hostRq 3 15 = false ∧ isKbDbg hostRq.id.toNat = false) ∧
    (let own : Rq := ⟨8, none, some 191, 5, false, false⟩
     let s : State := { pch 0 [] [(DM.RPL_LAST_COS 3 191, 5)] with rplOk := [0x200 + 0x300 + 191] }
     s.staleAt (s.rplValid (2 + 3)) (fun k => s.f (DM.RPL_LAST_COS 3 k)) own.key own.cos.toNat = true ∧
       (pch 0 [] []).staleAt ((pch 0 [] []).rplValid 5) (fun k => (pch 0 [] []).f (DM.RPL_LAST_COS 3 k)) own.key own.cos.toNat = false) ∧
    ((pch 0 [] []).on (DM.CHCFG_EN 3 15) = true ∧ (pch 0 [] []).chanSt 3 15 = 0 ∧ fetchRange 3 (16 * (0x1000000 : BitVec 28).toNat) = true ∧
      fetchRange 3 (16 * (0 : BitVec 28).toNat) = false ∧ live.on (DM.CHCFG_EN 3 15) = false) ∧
    (∀ st, st < 6 → (pch st [] []).chanSt 3 15 = st) ∧
    (let s : State := { pch 2 [] [] with pantoDue := [(0, 1), (3, 255)] }
     let t := s.setPan 3 15 { Panto.reset with armed := some 255, tmo := 1 }
     t.pantoDue.find? (fun e => e.1 == (3 : Fin 4).val) = some ((3 : Fin 4).val, 255) ∧ live.pantoDue.find? (fun e => e.1 == (3 : Fin 4).val) = none ∧
       t.chanSt 3 15 = 2 ∧ (t.pan 3 15).tmo ≠ 0 ∧ (t.pan 3 15).armed = some 255 ∧ (3, 255) ∈ t.pantoDue ∧ (3, 255) ∉ live.pantoDue) ∧
    (live.pan 3 15).tmo = 0 := by decide +kernel

/-- A channel at each instruction of Table 15.5; a fetch that fails, an illegal word. -/
theorem witness_instructions :
    (∀ w ∈ [[0, 0, 0, 0], [1, 0x10001000, 0x10002000, 32], [2, 0x10001000, 0x10002000, 1], [3, 0x10001000, 0x10002000, 1], [4, 0, 0, 2], [5, 0, 0, 0],
      [0x410006, 0, 0, 9], [0xFFFF0007, 0, 0, 0], [8, 0, 0, 0], [0x51, 0x10001000, 0x10002000, 2], [0x10000000 + 7 + 0x2000, 0x10001000, 5, 0]],
      atIns (pch 1 w []) 3 15 ⟨w.getD 0 0, w.getD 1 0, w.getD 2 0, w.getD 3 0⟩ = true) ∧
    (let s := pch 1 [9, 0, 0, 0] []
     (s.panRead 3 15 false 0x10000000 16).1 = 0 ∧ pinsLegal (pinsOf (s.panRead 3 15 false 0x10000000 16).2.1) = false ∧ s.regionDown 3 = false) ∧
    (let s := pch 1 [0, 0, 0, 0] [(DM.CHCFG_OWNER 3 15, 0)]; (s.panRead 3 15 false 0x10000000 16).1 ≠ 0) ∧ fetchRange 3 (16 * 0xFFFFFFF) = false ∧
    (let i : PIns := ⟨1, 0x10001000, 0x10002000, 32⟩
     lenFits (srcSide i) (dstSide i) i.w3 = true ∧ sideAligned (srcSide i) i.w1 = true ∧ sideAligned (dstSide i) i.w2 = true) ∧
    (let i : PIns := ⟨0x51, 0x10001001, 0x10002000, 4⟩; sideAligned (srcSide i) i.w1 = false ∧ lenFits (srcSide i) (dstSide i) i.w3 = true) ∧
    (let i : PIns := ⟨0x111, 0x10001000, 0x10002000, 5⟩; lenFits (srcSide i) (dstSide i) i.w3 = false ∧ sideAligned (dstSide i) 0x10002001 = false) ∧
    (let i : PIns := ⟨0xB1, 0x10001000, 0x10002000, 2⟩
     let s := pch 1 [] []
     s.dmReady 3 15 i.w1 2 false = true ∧ (s.panRead 3 15 true i.w1 2).2.2.dmReady 3 15 i.w2 2 true = true ∧ (srcSide i).reg = true ∧ (srcSide i).width = i.w3 ∧ (dstSide i).width = i.w3 ∧ (s.panRead 3 15 true i.w1 2).1 = 0 ∧
       (s.panRead 3 15 true i.w1 2).2.1.length = i.w3 ∧ ((s.panRead 3 15 true i.w1 2).2.2.panWrite 3 15 true i.w2 [0, 0]).1 = 0) ∧
    (let s := (pch 1 [] []).putMem 0x10001000 (leBytes 8 0x10003000 ++ leBytes 4 1)
     let e := s.listEntry 3 15 ⟨false, 1, false⟩ 0x10001000
     s.dmReady 3 15 0x10001000 16 false = true ∧ e.1 = 0 ∧ e.2.1 = 0x10003000 ∧ e.2.2.1 = 1) ∧
    ((live.setPan 3 15 { Panto.reset with loops := List.replicate 4 (0x1000001, 2) }).pan 3 15).loops.length = 4 ∧
    ((live.setPan 3 15 { Panto.reset with host := some 0x80000003 }).pan 3 15).host = some 0x80000003 ∧
    (let s := (pch 1 [] [(DM.CHCFG_OWNER 3 15, 0)]).setPan 3 15 { Panto.reset with host := some 0x80000003 }; (s.panRead 3 15 true (0x80000003 / 4 * 4) 4).1 ≠ 0) ∧
    (let s := (pch 1 [] [(DM.CHSTAT_WPEND 3 15, 1)]).setPan 3 15 { Panto.reset with armed := some 65 }
     (s.pan 3 15).armed = some (bitsOf 0x410006 16 8) ∧ s.on (DM.CHSTAT_WPEND 3 15) = true) ∧
    (let q : PXfer := ⟨⟨1, 0x10001000, 0x10002000, 32⟩, 0x10001010, 0x10002010, 16, 16, [], 0, 0⟩
     let s := (pch 1 [] []).setPan 3 15 { Panto.reset with xfer := some q }
     let two := (s.setFs [(DM.CHCFG_EN 3 14, 1), (DM.CHSTAT_STATE 3 14, 1)]).setPan 3 14 { Panto.reset with xfer := some q }
     (s.pan 3 15).xfer = some q ∧ s.regionDown 3 = false ∧ s.dmTurn 3 15 = true ∧ two.dmTurn 3 15 = false ∧ two.dmTurn 3 14 = true) ∧
    (∀ w ∈ [0, 7, 8, 0x2007], let q : PXfer := ⟨⟨w, 0x10001000, 5, 0⟩, 0, 0, 0, 0, [], 0, 0⟩
      let s := (pch 3 [] []).setPan 3 15 { Panto.reset with xfer := some q }
      let z := (s.setPan 3 15 { s.pan 3 15 with xfer := none }).setDmChan 3 15 1
      s.chanSt 3 15 = 3 ∧ s.regionDown 3 = false ∧ (s.pan 3 15).xfer = some q ∧ (s.pan 3 15).loops = [] ∧ (s.pan 3 15).host = none ∧
        q.ins.w1 % 4 = 0 ∧ (z.panWrite 3 15 true q.ins.w1 (leBytes 4 q.ins.w2)).1 = 0) ∧
    (let q : PXfer := ⟨⟨7, 0, 0, 0⟩, 0, 0, 0, 0, [], 0, 0⟩
     let s := (pch 3 [] [(DM.CHCFG_OWNER 3 15, 0)]).setPan 3 15 { Panto.reset with xfer := some q, host := some 0x80000003 }
     (s.pan 3 15).host = some 0x80000003 ∧
       (((s.setPan 3 15 { s.pan 3 15 with xfer := none }).setDmChan 3 15 1).panRead 3 15 true (0x80000003 / 4 * 4) 4).1 ≠ 0) := by decide +kernel

/-- Table 15.5: a MOVE of four bytes inside Plate, and a LOOP that records its body. -/
theorem test_panto :
    (match exec (.pantoMove 3 15) ((pch 1 [1, 0x10001001, 0x10002003, 4] []).putMem 0x10001001 [1, 2, 3, 4]) with
      | .next t => (t.memWord 0x10002003, t.f (DM.CHPC_PC 3 15), t.f (DM.CHPSRC_A 3 15)) | _ => (0, 0, 0)) = (0x04030201, 0x1000001, 0x10001005) ∧
    (match exec (.pantoLoop 3 15) (pch 1 [4, 0, 0, 3] []) with | .next t => (t.pan 3 15).loops | _ => []) = [(0x1000001, 3)] := by decide +kernel

/-! ## The fault hub, the Burnisher, the Proof -/

/-- Notices with and without PEEK, recoveries open and closed, heartbeats, each state of the Burnisher below and at its limit, the ROM's recovery, a
Proof with and without room. -/
theorem witness_faults :
    (kb.id = 8 ∧ isKbDbg dbg.id.toNat = true ∧ dbg.id ≠ 8 ∧ isKbDbg hostRq.id.toNat = false ∧ hostRq.id ≠ 8) ∧
    (let s : State := { live with notices := [⟨353, 1, 3⟩, ⟨0, 1, 0⟩] }
     s.notices = ⟨353, 1, 3⟩ :: [⟨0, 1, 0⟩] ∧ s.on FLT.CTL_PEEK = false ∧ (at0 [(FLT.CTL_PEEK, 1)]).on FLT.CTL_PEEK = true ∧ live.notices = []) ∧
    (let s := at0 [(FLT.STAT_OPEN, 1), (FLT.OPENSEQ_SEQ, 0xFFFFFFFF)]
     s.on FLT.STAT_OPEN = true ∧ (0xFFFFFFFF : Word).toNat = s.f FLT.OPENSEQ_SEQ ∧ (0 : Word).toNat ≠ s.f FLT.OPENSEQ_SEQ ∧ live.on FLT.STAT_OPEN = false) ∧
    ((if live.on BRN.STAT_EXPECT then 0xA5 else 0x5A) = (0x5A : BitVec 8).toNat ∧
      (if (at0 [(BRN.STAT_EXPECT, 1)]).on BRN.STAT_EXPECT then 0xA5 else 0x5A) = (0xA5 : BitVec 8).toNat) ∧
    (∀ st, st < 4 → (at0 [(BRN.STAT_STATE, st)]).f BRN.STAT_STATE = st) ∧
    (let s := at0 [(BRN.STAT_STATE, 1), (BRN.LIMIT_LIMIT, 0)]; s.recentRestarts < max (s.f BRN.LIMIT_LIMIT) 1) ∧
    (let s : State := { at0 [(BRN.STAT_STATE, 2), (BRN.LIMIT_LIMIT, 1), (BRN.TICK_MS, 500)] with brnAt := [0] }
     max (s.f BRN.LIMIT_LIMIT) 1 ≤ s.recentRestarts) ∧
    (let s : State := { at0 [(BRN.STAT_STATE, 2)] with romDue := true }; s.romDue = true ∧ s.f BRN.STAT_STATE ≠ 3 ∧ s.romPass.romWaits = false ∧ live.romDue = false) ∧
    (let s : State := { at0 [(BRN.STAT_STATE, 2), (FLT.REC0_V 0x2F, 1), (FLT.REC0_CODE 0x2F, 1), (WSC.CORESTAT_STATE 15, 2), (WSC.CORESTAT_KEYBUSY 15, 8)]
       with romDue := true }
     s.romDue = true ∧ s.f BRN.STAT_STATE ≠ 3 ∧ s.romPass.romWaits = true) ∧
    (live.core 208).dead = false ∧
    (let s := at0 [(FLT.STAT_STATE, 3), (FLT.PROOFBASE_V, 1)]
     s.kbUp = true ∧ s.f BRN.STAT_STATE ≠ 3 ∧ s.f FLT.STAT_STATE = 3 ∧ s.on FLT.PROOFBASE_V = true ∧ s.on FLT.PROOFSTAT_VALID = false) ∧
    (let s := at0 [(FLT.STAT_STATE, 2), (FLT.STAT_SECOND, 1)]; s.kbUp = true ∧ 2 ≤ s.f FLT.STAT_STATE ∧ s.on FLT.STAT_SECOND = true ∧ s.on FLT.PROOFBASE_V = false) ∧
    ¬2 ≤ live.f FLT.STAT_STATE := by decide +kernel

/-- R468: the reset value of EXPECT asks for 0x5A, the other byte counts BADHB. -/
theorem test_heartbeat :
    (match exec (.heartbeat kb 0x5A) live with | .next t => (t.on BRN.STAT_EXPECT, t.f BRN.STAT_BADHB) | _ => (false, 9)) = (true, 0) ∧
    (match exec (.heartbeat kb 0xA5) live with | .next t => (t.on BRN.STAT_EXPECT, t.f BRN.STAT_BADHB) | _ => (true, 9)) = (false, 1) := by decide +kernel

/-! ## Message buses -/

/-- Controller 7 in a state of Table 13.3, with register fields set. -/
def mb (st : Nat) (l : List (FldAt × Nat)) : State := at0 ([(MBUS.STAT_STATE 7, st)] ++ l)

/-- Every state of a controller and of a buffer, selections, attempts, errors on both sides, recovery. -/
theorem witness_bus_transmit :
    (mbRights kb = true ∧ mbRights core0Rq = true ∧ mbRights hostRq = false) ∧
    (∀ st, st < 5 → (mb st []).f (MBUS.STAT_STATE 7) = st) ∧ (∀ b, b < 4 → (mb 2 [(MBUS.TXSTAT_STATE 7 2, b)]).f (MBUS.TXSTAT_STATE 7 2) = b) ∧
    (let s := mb 3 [(MBUS.TXSTAT_STATE 7 2, 1), (MBUS.TXSTAT_STATE 7 1, 1)]
     s.mbSilent 7 = false ∧ s.mbActive 7 = none ∧ s.mbSelect 7 = some 1 ∧ (mb 2 []).mbSelect 7 = none) ∧
    (let s := mb 2 [(MBUS.TXSTAT_STATE 7 2, 2)]; s.mbActive 7 = some (2 : Fin 3).val ∧ (1 : Fin 3) ≠ 0 ∧ (mb 2 []).mbActive 7 = none) ∧
    (let s := mb 2 [(MBUS.ERRC_TEC 7, 248)]; (6 : Fin 7).val ≠ 0 ∧ s.f (MBUS.ERRC_TEC 7) + 8 > 255 ∧ ¬((mb 2 [(MBUS.ERRC_TEC 7, 247)]).f (MBUS.ERRC_TEC 7) + 8 > 255)) ∧
    ((mb 2 [(MBUS.CTL_MON 7, 1)]).mbSilent 7 = true ∧
      (let s := mb 3 [(MBUS.CTL_FD 7, 1), (MBUS.CTL_PXE 7, 1)]; s.on (MBUS.CTL_FD 7) = true ∧ s.on (MBUS.CTL_PXE 7) = true)) ∧
    (let s : State := { mb 4 [] with mbRecov := [7] }; s.mbRecov.contains (7 : Fin 8).val = true ∧ (mb 4 []).mbRecov.contains (7 : Fin 8).val = false) := by
  decide +kernel

/-- Frames a controller takes, filters out or has no room for; words that wait for a bus-idle point. -/
theorem witness_bus_receive :
    (let s := mb 2 []
     let a := s.mbRxOk 7
     bitOf (0x7FF : Word).toNat 31 = false ∧ a.mbFilter 7 (mbId (0x7FF : Word).toNat) = some 0 ∧ tabGet s.mbRx [] (7 : Fin 8).val = [] ∧ bitOf (0x80000000 : Word).toNat 31 = true ∧
       s.on (MBUS.CTL_FD 7) = false) ∧
    (let s := mb 3 [(MBUS.FILT_EN 7 15, 1), (MBUS.FMSK_MSK 7 15, 0x1FFFFFFF), (MBUS.FILT_IDE 7 15, 1), (MBUS.FILT_ID 7 15, 0x7FF)]
     (s.mbRxOk 7).mbFilter 7 (mbId 0x200007FF) = some 15 ∧ (s.mbRxOk 7).mbFilter 7 (mbId 0x200007FE) = none ∧ (s.mbRxOk 7).mbFilter 7 (mbId 0x7FF) = none) ∧
    (let s : State := { mb 2 [] with mbRx := [(7, List.replicate 64 ⟨0, 0, 0, []⟩)] }; 64 ≤ (tabGet s.mbRx [] (7 : Fin 8).val).length) ∧
    (let s : State := { live with mbPend := [(MBUS.CTL 7, 1)] }
     s.mbPend.filter (fun w => mbWordOf 7 w.1) ≠ [] ∧ s.mbActive 7 = none ∧ (mb 2 [(MBUS.TXSTAT_STATE 7 2, 2)]).mbActive 7 ≠ none ∧ live.mbPend.filter (fun w => mbWordOf 7 w.1) = []) := by decide +kernel

/-! ## Consent rings, fail-safe -/

/-- Ring 3 with its 12 media in a state, with register fields set. -/
def ngr (st : Nat) (l : List (FldAt × Nat)) : State := (at0 ([(NMG.RINGCFG_EN 3, 1), (NMG.RINGSTAT_STATE 3, st)] ++ l)).wr (NMG.RINGMED 3) 0x800

/-- Every state of a ring, owners and others, a full circle, the line low and driven, sleeping channels in and out of rings, expired channels. -/
theorem witness_rings_sleep :
    (live.ringRights kb 3 = true ∧ live.ringRights hostRq 3 = false ∧ live.fsRights kb 11 = true ∧ live.fsRights hostRq 11 = false) ∧
    (∀ st, st < 4 → (ngr st []).f (NMG.RINGSTAT_STATE 3) = st) ∧
    (let s := ngr 1 [(NMG.RINGSTAT_LOCAL 3, 1), (NMG.RINGSTAT_CONSCNT 3, 63), (NMG.RINGCFG_RINGLEN 3, 64)]
     s.on (NMG.RINGSTAT_LOCAL 3) = true ∧
       min (max (s.f (NMG.RINGCFG_RINGLEN 3)) 2) 64 ≤ min (s.f (NMG.RINGSTAT_CONSCNT 3) + 1) (2 ^ (NMG.RINGSTAT_CONSCNT 3).w - 1)) ∧
    (live.on WAKE.LINE_LOW = false ∧ (at0 [(WAKE.LINE_LOW, 1)]).on WAKE.LINE_LOW = true ∧ live.on WAKE.LINE_DRIVE = false ∧
      (at0 [(WAKE.LINE_DRIVE, 1)]).on WAKE.LINE_DRIVE = true) ∧
    (∀ st, st < 3 → (at0 [(WAKE.FSSTAT_STATE 11, st)]).f (WAKE.FSSTAT_STATE 11) = st) ∧
    (let s := ngr 3 [(WAKE.FSSTAT_STATE 11, 2)]; s.ringsOn.find? (fun y => (s.ringMedia y).contains (11 : Fin 12).val) = some 3) ∧
    (let s := at0 [(WAKE.FSSTAT_STATE 11, 2)]; s.ringsOn.find? (fun y => (s.ringMedia y).contains (11 : Fin 12).val) = none) ∧
    (let s : State := { live with fsExp := [(11, 2)] }
     tabHas s.fsExp (11 : Fin 12).val = true ∧ tabGet s.fsExp 0 (11 : Fin 12).val = 2 ∧ tabHas live.fsExp (11 : Fin 12).val = false ∧
       tabGet live.fsExp 0 (11 : Fin 12).val ≠ 2) ∧
    (let s (n : Nat) : State := { ngr 2 [] with ticks := n, ringAt := [(9, 0), (10, 0), (11, 0)] }
     (s 125000000).ringDue 3 0 250 = true ∧ (s 124999999).ringDue 3 0 250 = false ∧ (s 500000).ringDue 3 1 0 = true ∧ (s 500000).ringDue 3 2 1 = true ∧
       (s 500000000).f (NMG.RINGTMR_TMAX 3) = 250 ∧ live.ringDue 3 0 0 = false) ∧
    (let s := at0 [(WAKE.FSSTAT_STATE 11, 1)]
     s.fsRemain 11 = 0 ∧ ({ s with fsKick := [(11, 0)], ticks := 127999999 } : State).fsRemain 11 = 1 ∧
       ({ s with fsKick := [(11, 0)], ticks := 128000000 } : State).fsRemain 11 = 0) := by decide +kernel

/-! ## Power -/

/-- Regions in each state, a cluster that may doze with and without a level source, Hold and Off, temperatures at the governor's limits. -/
theorem witness_power :
    (isKbDbg kb.id.toNat = true ∧ ¬isKbDbg hostRq.id.toNat = true ∧ kb.id = 8 ∧ hostRq.id ≠ 8) ∧
    (∀ st, st < 4 → (at0 [(SYS.RGCTL_STATE 3, st)]).f (SYS.RGCTL_STATE 3) = st) ∧
    ((at0 [(SYS.RGCTL_PWR 3, 1)]).on (SYS.RGCTL_PWR 3) = true ∧ (at0 [(SYS.RGCTL_PWR 3, 0)]).on (SYS.RGCTL_PWR 3) = false) ∧
    (let s := at0 [(SYS.DOZE_EN 11, 1)]
     s.on (SYS.DOZE_EN 11) = true ∧ s.f (SYS.DOZE_STATE 11) = 0 ∧ s.offline = false ∧ s.regionDown (11 - 8) = false) ∧
    (let s := at0 [(SYS.DOZE_EN 7, 1)]
     s.regionDown (7 / 2) = false ∧ s.clusterIdle 7 = true ∧ s.wakeLevel 7 true ⟨0, 0⟩ = true ∧ s.wakeLevel 7 false ⟨0, 0⟩ = false ∧ live.on (SYS.DOZE_EN 7) = false) ∧
    (let s := at0 [(SYS.DOZE_STATE 7, 2), (CC.PAD_WAKE 7 7, 1)]; s.f (SYS.DOZE_STATE 7) = 2 ∧ s.wakeEdge 7 12 true = true ∧ s.wakeEdge 7 12 false = false) ∧
    (let s := at0 [(CC.PAD_WAKE 7 7, 4)]; s.wakeLevel 7 false ⟨0, 0x80⟩ = true ∧ s.wakeLevel 7 false ⟨0, 0⟩ = false) ∧
    (let s := at0 [(TMU.TIOCFG_MODE 4, 1), (TMU.TIOCFG_WAKE 4, 1)]; s.wakeEdge 7 4 true = true ∧ s.wakeEdge 7 4 false = false) ∧
    (∀ st, st < 5 → (at0 [(SYS.PWRSTAT_STATE, st)]).f SYS.PWRSTAT_STATE = st) ∧ ({ live with refB := true } : State).refB = true ∧
    (let s : State := { at0 [(SYS.PWRSTAT_STATE, 2)] with refB := true }
     let w : State := { s with holdWipe := true }
     s.f SYS.PWRSTAT_STATE = 2 ∧ s.refB = true ∧ s.holdWipe = false ∧ s.on PLT.SBSTAT_WIPING = false ∧ w.holdWipe = true ∧ w.refB = true ∧
       w.f SYS.PWRSTAT_STATE = 2 ∧ (at0 [(PLT.SBSTAT_WIPING, 1)]).on PLT.SBSTAT_WIPING = true ∧ (at0 [(PLT.SBSTAT_WIPING, 1)]).holdWipe = false) ∧
    (let s := at0 [(WAKE.LINE_LOW, 1), (WAKE.HWAKE_LINE, 1)]; s.on WAKE.LINE_LOW = true ∧ s.on WAKE.HWAKE_LINE = true ∧ s.holdSource (1 : BitVec 8).toNat = true) ∧
    (live.holdSource (0xFF : BitVec 8).toNat = false ∧ ((0x1B : BitVec 8).toNat < 0x1C ∧ 0x10 ≤ (0x1B : BitVec 8).toNat)) ∧
    (({ live with powerOff := true } : State).powerOff = true ∧ live.powerOff = false ∧ live.offWoken = false) ∧
    (let s := at0 [(SYS.GOVCFG_EN, 1), (SYS.GOVCFG_TTHR, 100), (SYS.GOVCFG_HYST, 5)]
     s.on SYS.GOVCFG_EN = true ∧ s.on SYS.GOVSTAT_THROT = false ∧ (16 * s.f SYS.GOVCFG_TTHR : Int) ≤ toSigned 16 (1600 : BitVec 16).toNat ∧
       toSigned 16 (1519 : BitVec 16).toNat < (16 * s.f SYS.GOVCFG_TTHR : Int) - 16 * (s.f SYS.GOVCFG_HYST : Int) ∧
       (at0 [(SYS.GOVSTAT_THROT, 1)]).on SYS.GOVSTAT_THROT = true ∧ (at0 [(SYS.GOVCFG_EN, 0)]).on SYS.GOVCFG_EN = false) := by decide +kernel

/-- R485: a power-up that completes ends in STATE 0; R506: a sample at TTHR throttles. -/
theorem test_power :
    (match exec (.regionUpComplete 3) (at0 [(SYS.RGCTL_STATE 3, 2)]) with | .next t => t.f (SYS.RGCTL_STATE 3) | _ => 9) = 0 ∧
    (match exec (.governorSample 1600) (at0 [(SYS.GOVCFG_EN, 1), (SYS.GOVCFG_TTHR, 100)]) with | .next t => t.f SYS.GOVSTAT_THROT | _ => 9) = 1 := by
  decide +kernel

/-! ## Resets and boot -/

/-- A commit record at the last position of the second sector, with its CRC. -/
def rec127 : CommitRec := ⟨127, 9, 1, true, 5, 6⟩

/-- Boot flash that holds one record there. -/
def booted (l : List (FldAt × Nat)) : State :=
  { at0 ([(SYS.CLKSTAT_PLL_LOCK, 1), (PLT.CLRSTAT_DONE, 1), (PLT.LCSTAT_STATE, 3)] ++ l) with flash := putFlash [] (64 * 127) rec127.bytes }

/-- Requests for a warm reset, power-good after a loss and a wake from Off, the ROM before and after its choice, slots with and without an image. -/
theorem witness_boot :
    (isKbDbg kb.id.toNat = true ∧ kb.sec = true ∧ dbg.id.toNat = 0x50 ∧ isKbDbg dbg.id.toNat = true ∧ isKbDbg hostRq.id.toNat = false ∧ (0x5253 : BitVec 16) ≠ 0) ∧
    (({ live with lostPower := true } : State).lostPower = true ∧
      (let s : State := { live with powerOff := true, offWoken := true }; s.lostPower = false ∧ s.powerOff = true ∧ s.offWoken = true ∧ s.offline = true) ∧
      live.offline = false) ∧
    ((booted []).bootable 0 = true ∧ (booted [(SYS.BOOTSTAT_STAGE, 4)]).bootable 0 = false ∧ (booted []).f SYS.BOOTSTAT_STRAP ≠ 3 ∧
      (booted [(SYS.BOOTSTAT_STRAP, 3)]).f SYS.BOOTSTAT_STRAP = 3 ∧ (booted []).f PLT.LCSTAT_STATE = 3) ∧
    (let s := (booted [(SYS.BOOTSTAT_STRAP, 3), (SYS.BOOTSTAT_STAGE, 1)]).putMem 0x101FFFFC (leBytes 4 0x544F4F42)
     s.bootable 1 = true ∧ s.f SYS.BOOTSTAT_STRAP = 3 ∧ s.memWord 0x101FFFFC = 0x544F4F42 ∧ s.f PLT.LCSTAT_STATE ≠ 0) ∧
    (let s := (booted [(SYS.BOOTSTAT_STRAP, 3), (SYS.BOOTSTAT_STAGE, 1), (PLT.LCSTAT_STATE, 0)]).putMem 0x101FFFFC (leBytes 4 0x544F4F42)
     s.f PLT.LCSTAT_STATE = 0 ∧ s.keyDigests = 0 ∧ s.on PLT.LCSTAT_BUSY = false ∧ ({ s with keyDigests := 1 } : State).keyDigests ≠ 0) ∧
    (booted [(PLT.LCSTAT_STATE, 4)]).f PLT.LCSTAT_STATE = 4 ∧
    (let s := booted [(PLT.LCSTAT_STATE, 0)]; s.bootable 0 = true ∧ s.f SYS.BOOTSTAT_STRAP ≠ 3 ∧ s.f PLT.LCSTAT_STATE = 0) := by decide +kernel

/-- Table 16.4: a key of either kind in state 1, the production key in state 2 and the development key in state 3; no key, and the other one. -/
theorem witness_boot_keys :
    (booted [(PLT.LCSTAT_STATE, 1)]).bootGood (some true) = true ∧ (booted [(PLT.LCSTAT_STATE, 1)]).bootGood (some false) = true ∧
    (booted [(PLT.LCSTAT_STATE, 2)]).bootGood (some true) = true ∧ (booted [(PLT.LCSTAT_STATE, 2)]).bootGood (some false) = false ∧
    (booted []).bootGood (some false) = true ∧ (booted []).bootGood (some true) = false ∧ (booted []).bootGood none = false := by decide +kernel

/-- A latest record, and none in an erased flash. -/
theorem witness_record : (booted []).latestRecord = some rec127 ∧ rec127.active < 2 ∧ rec127.digA ≠ 0 ∧ rec127.digB ≠ 0 ∧ rec127.prevOk = true := by
  decide +kernel

theorem witness_no_record : live.latestRecord = none := by decide +kernel

/-- Table 18.10: the cause of a power-on reset is 1, of PORST 2, and BOOT_SEL is latched. -/
theorem test_resets :
    (match exec (.powerOnReset 2) live with | .next t => (t.f SYS.RSTSTAT_CAUSE, t.f SYS.BOOTSTAT_STRAP) | _ => (0, 0)) = (1, 2) ∧
    (match exec (.porst 1) live with | .next t => (t.f SYS.RSTSTAT_CAUSE, t.f SYS.BOOTSTAT_STRAP) | _ => (0, 0)) = (2, 1) := by decide +kernel

/-! ## Epochs, drafts, discovery -/

/-- An impression of epoch 1. -/
def shadow0 : Shadow := ⟨1, 0, 0, 5, 0, 0, 0, [], [], []⟩

/-- Boundaries of both modes that are due, with a shadow and without, in Hold; settings outside R508. -/
theorem witness_epochs :
    (let s := at0 [(OBS.EPCFG_MODE, 2), (OBS.EPPER_PER, 1000)]
     s.epValid = true ∧ s.epMode ≠ 1 ∧ s.obs.shadow = none ∧ s.f SYS.PWRSTAT_STATE ≠ 4 ∧ ({ s with obs := { s.obs with shadow := some shadow0 } } : State).obs.shadow = some shadow0) ∧
    (let s := at0 [(OBS.EPCFG_MODE, 1), (OBS.EPPER_PER, 80), (RUL.CYCLE_CYCLE 0, 12500), (RUL.STAT_STATE 0, 3)]
     s.epValid = true ∧ s.epMode = 1 ∧ s.ttMarks (s.f OBS.EPCFG_TT) = true ∧ s.f OBS.EPPER_PER ≠ 0 ∧ s.ttNumber (s.f OBS.EPCFG_TT) s.now % s.f OBS.EPPER_PER = 0) ∧
    ((at0 [(OBS.EPCFG_MODE, 2), (OBS.EPPER_PER, 999)]).epValid = false ∧ (at0 [(SYS.PWRSTAT_STATE, 4)]).f SYS.PWRSTAT_STATE = 4) ∧
    (let s : State := { live with obs := { live.obs with shadow := some shadow0, deferred := true } }
     s.obs.shadow = some shadow0 ∧ s.obs.deferred = true ∧ live.obs.deferred = false) ∧
    (isKbDbg kb.id.toNat = true ∧ ¬isKbDbg hostRq.id.toNat = true ∧ live.obs.cfg = []) := by decide +kernel

/-- A register with a draft copy, activations armed, due, late and governed by a reference instance, one that is done. -/
theorem witness_activation :
    (regAt (RUL.CYCLE 3)).isSome = true ∧ (isKbDbg kb.id.toNat = true ∧ ¬isKbDbg hostRq.id.toNat = true) ∧
    (let s := at0 [(OBS.ACTNS_NS, 1)]; ¬s.on OBS.ACTSTAT_ARMED = true ∧ s.now < s.fullTime (s.f OBS.ACTNS_NS) (s.f OBS.ACTSEC_SEC)) ∧
    (live.fullTime (live.f OBS.ACTNS_NS) (live.f OBS.ACTSEC_SEC) ≤ live.now) ∧
    (let s : State := { live with stMark := [21] }; (∀ p ∈ s.stMark, p < 22) ∧ 21 ∈ s.stMark) ∧
    (let s := at0 [(OBS.ACTSTAT_ARMED, 1)]
     s.on OBS.ACTSTAT_ARMED = true ∧ s.actAt ≤ s.now ∧ s.refBoundary (s.f OBS.ACTCTL_REFTT) = false ∧ s.draftOpen = false ∧ s.f LPE.STAT_NPEND = 0 ∧
       ∀ p, p < 22 → s.on (SW.STCFG_PEND p) = false) ∧
    (let s := at0 [(OBS.ACTCTL_REFEN, 1), (OBS.ACTCTL_REFTT, 3), (RUL.CTL_RUN 3, 1)]; s.refBoundary (s.f OBS.ACTCTL_REFTT) = true) ∧
    (let s : State := { at0 [(OBS.ACTSTAT_ARMED, 1)] with draft := [(RUL.CYCLE 3, 20000)] }; s.draftOpen = true) ∧
    (let s := at0 [(OBS.ACTCTL_DMODE, 1)]
     kb.id = 8 ∧ s.on OBS.ACTCTL_DMODE = true ∧ isDraftWord (RUL.CYCLE 3) = true ∧ s.pathOpen 0xB3 kb (RUL.CYCLE 3) 4 true = true ∧
       (s.carry 0xB3 8 (RUL.CYCLE 3) 4 true).busCode kb (RUL.CYCLE 3) 4 = 0) := by decide +kernel

/-- An LLDPDU of a neighbour: chassis ID, port ID, TTL. -/
def du (ttl : List Byte) : List Byte := [2, 7, 4, 1, 2, 3, 4, 5, 6, 4, 2, 7, 65, 6, 2] ++ ttl ++ [0, 0]

/-- A port that is UP, an LLDPDU with and without life, tables with a neighbour, full, and empty; a partner that is expected. -/
theorem witness_discovery :
    ((at0 [(PORT.STAT_STATE 15, 3)]).kbUp = true ∧ (at0 [(PORT.STAT_STATE 15, 3)]).f (PORT.STAT_STATE 15) = 3 ∧ live.f (PORT.STAT_STATE 15) ≠ 3) ∧
    (let s := live.setCore 208 { live.core 208 with dead := true }; s.kbUp = false) ∧
    (tlvs (du [0, 120]) 256 = (1, [4, 1, 2, 3, 4, 5, 6]) :: (2, [7, 65]) :: (3, [0, 120]) :: [] ∧ beNat ([0, 120].take 2) ≠ 0 ∧ beNat (([0, 0] : List Byte).take 2) = 0) ∧
    (let e : Neigh := ⟨0, 15, [4, 1, 2, 3, 4, 5, 6], none, 120, 0, 0⟩
     let s : State := { live with neigh := [e] }
     s.neigh.findIdx? (fun e => e.src == 0 && e.via == 15 && e.addr == [4, 1, 2, 3, 4, 5, 6]) = some 0 ∧ s.neigh[0]? = some e ∧
       live.neigh.findIdx? (fun e => e.src == 0 && e.via == 15 && e.addr == [4, 1, 2, 3, 4, 5, 6]) = none ∧ live.neigh.length < 512 ∧
       live.neigh[511]? = none) ∧
    (let s : State := { live with neigh := List.replicate 512 ⟨0, 0, [], some (5, 7, 0), 120, 0, 0⟩, expected := [([], 5, 7)] }
     512 ≤ s.neigh.length ∧ s.neigh[511]? = some ⟨0, 0, [], some (5, 7, 0), 120, 0, 0⟩ ∧ s.expects [] = some (5, 7)) := by decide +kernel

end Sys2Proof.Tests
end

section
/-! PROOF. The word operations of Operands.lean are those of 32-bit vectors (Tables 4.4, 4.5 and 4.8): each lemma takes words as the numbers that the
registers hold. -/
namespace Sys2Proof.Machine

/-- A word of any width as a number, and back. -/
theorem ofNat_toNat_self {n : Nat} (x : BitVec n) : BitVec.ofNat n x.toNat = x := by
  rw [BitVec.ofNat_toNat, BitVec.setWidth_eq]

/-! ## Signed readings and extensions -/

/-- The low `n` bits of a number, read in two's complement. -/
theorem toSigned_eq_toInt (n x : Nat) : toSigned n x = (BitVec.ofNat n x).toInt := by
  rcases n with _ | n
  · simp [toSigned, Nat.mod_one, BitVec.of_length_zero]
  · simp only [toSigned, BitVec.toInt_eq_toNat_cond, BitVec.toNat_ofNat, Nat.add_sub_cancel, Nat.pow_succ]
    generalize x % (2 ^ n * 2) = y
    split <;> split <;> omega

@[simp] theorem toSigned_toNat (x : Word) : toSigned 32 x.toNat = x.toInt := by
  rw [toSigned_eq_toInt, ofNat_toNat_self]

@[simp] theorem ofNat_ofSigned (i : Int) : BitVec.ofNat 32 (ofSigned 32 i) = BitVec.ofInt 32 i := by
  rw [ofSigned_eq, ofNat_toNat_self]

theorem sext_eq (n x : Nat) : sext n x = ((BitVec.ofNat n x).signExtend 32).toNat := by
  rw [sext, toSigned_eq_toInt, ofSigned_eq, BitVec.signExtend]

theorem sext_toNat {n : Nat} (x : BitVec n) : sext n x.toNat = (x.signExtend 32).toNat := by
  rw [sext_eq, ofNat_toNat_self]

theorem ofNat_sext (n : Nat) (x : Word) : BitVec.ofNat 32 (sext n x.toNat) = (x.extractLsb' 0 n).signExtend 32 := by
  rw [sext_eq, ofNat_toNat_self]
  rfl

/-! ## Logic, sums, differences and shifts -/

theorem ofNat_and_toNat (x y : Word) : BitVec.ofNat 32 (x.toNat &&& y.toNat) = x &&& y := by
  rw [← BitVec.toNat_and, ofNat_toNat_self]

theorem ofNat_or_toNat (x y : Word) : BitVec.ofNat 32 (x.toNat ||| y.toNat) = x ||| y := by
  rw [← BitVec.toNat_or, ofNat_toNat_self]

theorem ofNat_xor_toNat (x y : Word) : BitVec.ofNat 32 (x.toNat ^^^ y.toNat) = x ^^^ y := by
  rw [← BitVec.toNat_xor, ofNat_toNat_self]

theorem ofNat_w32 (n : Nat) : BitVec.ofNat 32 (w32 n) = BitVec.ofNat 32 n := by
  simp [w32, ← BitVec.toNat_inj]

theorem ofNat_w32_add (x y : Word) : BitVec.ofNat 32 (w32 (x.toNat + y.toNat)) = x + y := by
  rw [ofNat_w32, BitVec.ofNat_add, ofNat_toNat_self, ofNat_toNat_self]

theorem ofNat_sub32_zero (x : Word) : BitVec.ofNat 32 (sub32 0 x.toNat) = -x := by
  rw [← BitVec.toNat_inj, sub32, BitVec.toNat_ofNat, BitVec.toNat_neg, Nat.mod_mod, Nat.zero_add, Nat.mod_eq_of_lt x.isLt]

theorem ofNat_shl32 (x : Word) (n : Nat) : BitVec.ofNat 32 (shl32 x.toNat n) = x <<< n := by
  unfold shl32
  split
  · rw [BitVec.shiftLeft_eq_zero ‹_›]
  · rw [ofNat_w32, ← BitVec.toNat_inj]
    simp [Nat.shiftLeft_eq]

theorem ofNat_shr32 (x : Word) (n : Nat) : BitVec.ofNat 32 (shr32 x.toNat n) = x >>> n := by
  unfold shr32
  split
  · rw [BitVec.ushiftRight_eq_zero ‹_›]
  · rw [← Nat.shiftRight_eq_div_pow, ← BitVec.toNat_ushiftRight, ofNat_toNat_self]

/-- Beyond bit 31 a signed word has only copies of its sign. -/
theorem toInt_div_of_le (x : Word) {n : Nat} (h : 31 ≤ n) : x.toInt / 2 ^ n = x.toInt / 2 ^ 31 := by
  have lo : -2 ^ 31 ≤ x.toInt := x.le_toInt
  have hi : x.toInt < 2 ^ 31 := x.toInt_lt
  have hp : (2 : Int) ^ 31 ≤ 2 ^ n := pow_le_pow_right₀ (by decide) h
  by_cases hx : x.toInt < 0
  · rw [Int.ediv_eq_neg_one_of_neg_of_le hx (by omega), Int.ediv_eq_neg_one_of_neg_of_le hx (by omega)]
  · rw [Int.ediv_eq_zero_of_lt (by omega) (by omega), Int.ediv_eq_zero_of_lt (by omega) hi]

theorem ofNat_sar32 (x : Word) (n : Nat) : BitVec.ofNat 32 (sar32 x.toNat n) = x.sshiftRight n := by
  rw [sar32, ofNat_ofSigned, toSigned_toNat, BitVec.sshiftRight_eq, Int.shiftRight_eq_div_pow]
  rcases Nat.le_total n 31 with h | h
  · rw [Nat.min_eq_left h]
  · rw [Nat.min_eq_right h]
    rw [Nat.cast_pow, Nat.cast_pow]
    exact congrArg _ (toInt_div_of_le x h).symm

/-- The two parts of a rotation share no bit, so that their sum is their union. -/
theorem rotateRight_eq_add (x : Word) (n : Nat) : x.rotateRight n = (x >>> (n % 32)) + (x <<< (32 - n % 32)) := by
  rw [BitVec.rotateRight_def, BitVec.add_eq_or_of_and_eq_zero]
  ext i hi
  simp only [BitVec.getElem_and, BitVec.getElem_ushiftRight, BitVec.getElem_shiftLeft, BitVec.getElem_zero]
  by_cases h : i < 32 - n % 32
  · simp [h]
  · simp [BitVec.getLsbD_of_ge x (n % 32 + i) (by omega)]

theorem ofNat_ror32 (x : Word) (n : Nat) : BitVec.ofNat 32 (ror32 x.toNat n) = x.rotateRight n := by
  rw [ror32, ofNat_w32, rotateRight_eq_add, ← BitVec.toNat_inj]
  simp [Nat.shiftLeft_eq, Nat.shiftRight_eq_div_pow]

/-! ## Comparisons -/

/-- The results of comparisons are 1 and 0 (R117). -/
theorem ofNat_b2n (p : Bool) : BitVec.ofNat 32 (b2n p) = if p then 1 else 0 := by
  cases p <;> rfl

theorem ofNat_beq (x y : Word) : BitVec.ofNat 32 (b2n (x.toNat == y.toNat)) = if x == y then 1 else 0 := by
  have h : (x.toNat == y.toNat) = (x == y) := by rw [Bool.eq_iff_iff, beq_iff_eq, beq_iff_eq, BitVec.toNat_inj]
  rw [ofNat_b2n, h]

theorem ofNat_slt (x y : Word) :
    BitVec.ofNat 32 (b2n (decide (toSigned 32 x.toNat < toSigned 32 y.toNat))) = if x.slt y then 1 else 0 := by
  rw [ofNat_b2n, toSigned_toNat, toSigned_toNat, BitVec.slt]

theorem ofNat_ult (x y : Word) : BitVec.ofNat 32 (b2n (decide (x.toNat < y.toNat))) = if x.ult y then 1 else 0 := by
  rw [ofNat_b2n, BitVec.ult]

/-! ## Division (R116) -/

theorem ofNat_divU {x y : Word} (h : y ≠ 0) : BitVec.ofNat 32 (divU x.toNat y.toNat) = x / y := by
  have hy : y.toNat ≠ 0 := fun e => h (BitVec.eq_of_toNat_eq e)
  rw [divU, if_neg hy, ← BitVec.toNat_udiv, ofNat_toNat_self]

theorem ofNat_remU {x y : Word} (h : y ≠ 0) : BitVec.ofNat 32 (remU x.toNat y.toNat) = x % y := by
  have hy : y.toNat ≠ 0 := fun e => h (BitVec.eq_of_toNat_eq e)
  rw [remU, if_neg hy, ← BitVec.toNat_umod, ofNat_toNat_self]

theorem ofNat_divS {x y : Word} (h : y ≠ 0) : BitVec.ofNat 32 (divS x.toNat y.toNat) = x.sdiv y := by
  have hy : y.toNat ≠ 0 := fun e => h (BitVec.eq_of_toNat_eq e)
  rw [divS, if_neg hy, ofNat_ofSigned, toSigned_toNat, toSigned_toNat]
  apply BitVec.eq_of_toInt_eq
  rw [BitVec.toInt_ofInt, BitVec.toInt_sdiv]

theorem ofNat_remS {x y : Word} (h : y ≠ 0) : BitVec.ofNat 32 (remS x.toNat y.toNat) = x.srem y := by
  have hy : y.toNat ≠ 0 := fun e => h (BitVec.eq_of_toNat_eq e)
  rw [remS, if_neg hy, ofNat_ofSigned, toSigned_toNat, toSigned_toNat, ← BitVec.toInt_srem, BitVec.ofInt_toInt]

/-! ## Bit counts -/

theorem bitOf_eq_testBit (x i : Nat) : bitOf x i = x.testBit i := by
  rw [bitOf, Nat.testBit_eq_decide_div_mod_eq, beq_eq_decide]

@[simp] theorem bitOf_toNat {n : Nat} (x : BitVec n) (i : Nat) : bitOf x.toNat i = x.getLsbD i := by
  rw [bitOf_eq_testBit, BitVec.testBit_toNat]

theorem b2n_eq_toNat (p : Bool) : b2n p = p.toNat := by cases p <;> rfl

theorem popCount_toNat {w : Nat} (x : BitVec w) (n : Nat) : popCount n x.toNat = x.cpopNatRec n 0 := by
  unfold popCount
  induction n with
  | zero => rfl
  | succ n ih =>
    rw [List.range_succ, List.foldl_append, ih, BitVec.cpopNatRec_succ, BitVec.cpopNatRec_add]
    simp [b2n_eq_toNat]

theorem toNat_cpop_eq_popCount {n : Nat} (x : BitVec n) : x.cpop.toNat = popCount n x.toNat := by
  have h : x.cpopNatRec n 0 < 2 ^ n := lt_of_le_of_lt (BitVec.cpopNatRec_zero_le x n) Nat.lt_two_pow_self
  rw [popCount_toNat, BitVec.cpop, BitVec.toNat_ofNat, Nat.mod_eq_of_lt h]

theorem ofNat_popCount (x : Word) : BitVec.ofNat 32 (popCount 32 x.toNat) = x.cpop := by
  rw [← toNat_cpop_eq_popCount, ofNat_toNat_self]

/-- The parity of a unit is the low bit of its count of ones. -/
theorem popCount_mod_two {n : Nat} (x : BitVec n) : popCount n x.toNat % 2 = (x.cpop.getLsbD 0).toNat := by
  rw [← toNat_cpop_eq_popCount, ← BitVec.testBit_toNat, Nat.testBit_zero]
  rcases Nat.mod_two_eq_zero_or_one x.cpop.toNat with h | h <;> simp [h]

theorem ofNat_clz32 (x : Word) : BitVec.ofNat 32 (clz32 x.toNat) = x.clz := by
  by_cases h : x = 0
  · subst h; rfl
  · have hx : x.toNat ≠ 0 := fun e => h (BitVec.eq_of_toNat_eq e)
    have hlt : x.clz.toNat < 32 := BitVec.clz_lt_iff_ne_zero.2 h
    have hlog : Nat.log2 x.toNat = 31 - x.clz.toNat := by
      rw [Nat.log2_eq_iff hx]
      refine ⟨BitVec.two_pow_sub_clz_le_toNat_of_ne_zero (by decide) h, ?_⟩
      have := BitVec.toNat_lt_two_pow_sub_clz (x := x)
      rwa [show 32 - x.clz.toNat = 31 - x.clz.toNat + 1 by omega] at this
    rw [clz32, if_neg hx, hlog, show 31 - (31 - x.clz.toNat) = x.clz.toNat by omega, ofNat_toNat_self]

/-! ## Bit reversal and parity by units (R119) -/

theorem foldl_add_range (f : Nat → Nat) (n : Nat) :
    (List.range n).foldl (fun r i => r + f i) 0 = ∑ i ∈ Finset.range n, f i := by
  induction n with
  | zero => rfl
  | succ n ih => rw [List.range_succ, List.foldl_append, ih, Finset.sum_range_succ]; rfl

/-- The reversal of one bit more: the bits so far move up, and the new bit comes lowest. -/
theorem revBits_succ (n x : Nat) : revBits (n + 1) x = revBits n x * 2 + b2n (bitOf x n) := by
  simp only [revBits, foldl_add_range, Finset.sum_range_succ, Finset.sum_mul]
  congr 1
  · refine Finset.sum_congr rfl fun i hi => ?_
    have : n + 1 - 1 - i = n - 1 - i + 1 := by have := Finset.mem_range.1 hi; omega
    rw [this, Nat.pow_succ, Nat.mul_assoc]
  · simp

theorem revBits_mod (n x : Nat) : revBits n (x % 2 ^ n) = revBits n x := by
  simp only [revBits, foldl_add_range]
  refine Finset.sum_congr rfl fun i hi => ?_
  have h : bitOf (x % 2 ^ n) i = bitOf x i := by simp [bitOf_eq_testBit, Nat.testBit_mod_two_pow, Finset.mem_range.1 hi]
  rw [h]

theorem revBits_toNat {n : Nat} (x : BitVec n) : revBits n x.toNat = x.reverse.toNat := by
  induction n with
  | zero => simp [revBits, BitVec.of_length_zero]
  | succ n ih =>
    rw [revBits_succ, ← revBits_mod, ← BitVec.toNat_setWidth, ih, BitVec.reverse, BitVec.toNat_concat, bitOf_toNat,
      b2n_eq_toNat, BitVec.msb_eq_getLsbD_last]
    rfl

theorem bitsOf_toNat {n : Nat} (x : BitVec n) (lo w : Nat) : bitsOf x.toNat lo w = (x.extractLsb' lo w).toNat := by
  rw [bitsOf, BitVec.extractLsb'_toNat, Nat.shiftRight_eq_div_pow]

theorem toNat_append_eq_add {m n : Nat} (x : BitVec m) (y : BitVec n) : (x ++ y).toNat = x.toNat * 2 ^ n + y.toNat := by
  rw [BitVec.toNat_append, ← Nat.shiftLeft_add_eq_or_of_lt y.isLt, Nat.shiftLeft_eq]

theorem ofNat_brev_bytes (x : Word) : BitVec.ofNat 32 (brev 0 x.toNat) = (x.extractLsb' (8 * 3) 8).reverse ++
    (x.extractLsb' (8 * 2) 8).reverse ++ (x.extractLsb' (8 * 1) 8).reverse ++ (x.extractLsb' (8 * 0) 8).reverse := by
  apply BitVec.eq_of_toNat_eq
  rw [BitVec.toNat_ofNat, brev, if_pos rfl, foldl_add_range]
  simp only [bitsOf_toNat, revBits_toNat, toNat_append_eq_add, Finset.sum_range_succ, Finset.sum_range_zero]
  omega

theorem ofNat_brev_halves (x : Word) : BitVec.ofNat 32 (brev 1 x.toNat) =
    (x.extractLsb' (16 * 1) 16).reverse ++ (x.extractLsb' (16 * 0) 16).reverse := by
  apply BitVec.eq_of_toNat_eq
  rw [BitVec.toNat_ofNat, brev, if_neg (by decide), if_pos rfl, foldl_add_range]
  simp only [bitsOf_toNat, revBits_toNat, toNat_append_eq_add, Finset.sum_range_succ, Finset.sum_range_zero]
  omega

theorem ofNat_brev_word (x : Word) : BitVec.ofNat 32 (brev 2 x.toNat) = x.reverse := by
  rw [brev, if_neg (by decide), if_neg (by decide), revBits_toNat, ofNat_toNat_self]

theorem ofNat_parity_bytes (x : Word) : BitVec.ofNat 32 (parity 0 x.toNat) =
    (BitVec.ofBool ((x.extractLsb' (8 * 3) 8).cpop.getLsbD 0) ++ BitVec.ofBool ((x.extractLsb' (8 * 2) 8).cpop.getLsbD 0) ++
      BitVec.ofBool ((x.extractLsb' (8 * 1) 8).cpop.getLsbD 0) ++
      BitVec.ofBool ((x.extractLsb' (8 * 0) 8).cpop.getLsbD 0)).setWidth 32 := by
  apply BitVec.eq_of_toNat_eq
  rw [BitVec.toNat_ofNat, BitVec.toNat_setWidth, parity, if_pos rfl, foldl_add_range]
  simp only [bitsOf_toNat, popCount_mod_two, toNat_append_eq_add, BitVec.toNat_ofBool, Finset.sum_range_succ, Finset.sum_range_zero]
  omega

theorem ofNat_parity_halves (x : Word) : BitVec.ofNat 32 (parity 1 x.toNat) =
    (BitVec.ofBool ((x.extractLsb' (16 * 1) 16).cpop.getLsbD 0) ++
      BitVec.ofBool ((x.extractLsb' (16 * 0) 16).cpop.getLsbD 0)).setWidth 32 := by
  apply BitVec.eq_of_toNat_eq
  rw [BitVec.toNat_ofNat, BitVec.toNat_setWidth, parity, if_neg (by decide), if_pos rfl, foldl_add_range]
  simp only [bitsOf_toNat, popCount_mod_two, toNat_append_eq_add, BitVec.toNat_ofBool, Finset.sum_range_succ, Finset.sum_range_zero]
  omega

theorem ofNat_parity_word (x : Word) : BitVec.ofNat 32 (parity 2 x.toNat) = (BitVec.ofBool (x.cpop.getLsbD 0)).setWidth 32 := by
  rw [parity, if_neg (by decide), if_neg (by decide), popCount_mod_two, ← BitVec.toNat_ofBool, BitVec.ofNat_toNat]

/-! ## Fields (R120) -/

theorem ofNat_bitsOf (x : Word) (lo w : Nat) : BitVec.ofNat 32 (bitsOf x.toNat lo w) = (x.extractLsb' lo w).zeroExtend 32 := by
  rw [bitsOf_toNat, BitVec.ofNat_toNat]

theorem ofNat_sext_bitsOf (x : Word) (lo w : Nat) :
    BitVec.ofNat 32 (sext w (bitsOf x.toNat lo w)) = (x.extractLsb' lo w).signExtend 32 := by
  rw [bitsOf_toNat, sext_toNat, ofNat_toNat_self]

/-- A field insert keeps the bits outside the mask and takes those inside it. -/
theorem ofNat_setBits (d x : Word) (lo w : Nat) :
    BitVec.ofNat 32 (setBits d.toNat lo w x.toNat) = (d &&& ~~~((BitVec.allOnes w).zeroExtend 32 <<< lo)) |||
      (x <<< lo &&& (BitVec.allOnes w).zeroExtend 32 <<< lo) := by
  apply BitVec.eq_of_getLsbD_eq
  intro i hi
  simp only [BitVec.getLsbD_ofNat, setBits_testBit, BitVec.getLsbD_or, BitVec.getLsbD_and, BitVec.getLsbD_not, BitVec.getLsbD_shiftLeft,
    BitVec.getLsbD_setWidth, BitVec.getLsbD_allOnes, BitVec.testBit_toNat, hi]
  by_cases hl : i < lo
  · simp [hl, show ¬ lo ≤ i by omega]
  · by_cases hw : i - lo < w
    · simp [hl, hw, show lo ≤ i ∧ i < lo + w by omega, show i - lo < 32 by omega]
    · simp [hl, hw, show ¬ (lo ≤ i ∧ i < lo + w) by omega]

end Sys2Proof.Machine
end

section
/-! PROOF. The integer instructions of Tilouzu (chapter 4): what each operand form writes, and the statements on division and on the instructions of
one operand, with immediates and on CRC. -/
namespace Sys2Proof.Machine

/-! ## What an operand form writes -/

/-- A register holds 32 bits: only the low 32 of a number are written. -/
theorem State.setG_ofNat (s : State) (c : Nat) (i : BitVec 4) (n : Nat) : s.setG c i (BitVec.ofNat 32 n).toNat = s.setG c i n := by
  simp only [State.setG, Core.setG, ofNat_toNat_self]

/-- An instruction whose body writes one register retires with that word. -/
theorem issue_writes {c : CoreIx} {s : State} {body : State → IRes} {rd : BitVec 4} {n : Nat} {v : Word} (h : s.issues c)
    (hb : body s = .ok (s.setG c rd n)) (hv : BitVec.ofNat 32 n = v) : issue c body s = .next (s.wroteG c rd v) := by
  rw [issue_ok h hb, State.wroteG, ← hv, State.setG_ofNat]

section
variable {c : CoreIx} {s : State} {f : FmtR} {v : Word}

theorem issue_aluR1 {op : Nat → Nat} (h : s.issues c) (hv : f.v = 0) (hb : f.rb = 0)
    (hop : BitVec.ofNat 32 (op (s.g c f.ra).toNat) = v) : issue c (aluR1 c f op) s = .next (s.wroteG c f.rd v) :=
  issue_writes h (by rw [aluR1, if_neg (not_or.2 ⟨not_not.2 hv, not_not.2 hb⟩)]) (by rwa [State.toNat_g] at hop)

/-- A form whose field `v` names a unit, with that field at `k`. -/
theorem issue_aluV1 {n : Nat} {k : BitVec 3} {op : Nat → Nat → Nat} (h : s.issues c) (hk : f.v = k) (hn : k.toNat < n)
    (hop : BitVec.ofNat 32 (op k.toNat (s.g c f.ra).toNat) = v) : issue c (aluV1 c f n op) s = .next (s.wroteG c f.rd v) :=
  issue_writes h (by rw [aluV1, hk, if_neg (Nat.not_le.2 hn)]) (by rwa [State.toNat_g] at hop)

/-- A division completes when the divisor is not 0 or DZT is 0 (R116). -/
theorem issue_aluDiv {op : Nat → Nat → Nat} (h : s.issues c) (hv : f.v = 0) (hz : s.g c f.rb = 0 → (s.core c).dzt = false)
    (hop : BitVec.ofNat 32 (op (s.g c f.ra).toNat (s.g c f.rb).toNat) = v) :
    issue c (aluDiv c f op) s = .next (s.wroteG c f.rd v) := by
  have hz' : ¬ (s.gr c f.rb = 0 ∧ (s.core c).dzt = true) := fun ⟨hb, hd⟩ => by
    rw [← State.toNat_g] at hb
    rw [hz (BitVec.eq_of_toNat_eq hb)] at hd
    cases hd
  exact issue_writes h (by rw [aluDiv, if_neg (not_not.2 hv), if_neg hz']) (by rwa [State.toNat_g, State.toNat_g] at hop)

/-- A division by 0 with DZT = 1 takes Divide by Zero (R116). -/
theorem issue_aluDiv_traps {op : Nat → Nat → Nat} (h : s.issues c) (hv : f.v = 0) (hz : s.g c f.rb = 0) (hd : (s.core c).dzt = true) :
    issue c (aluDiv c f op) s = .next (s.traps c 0xB 0 0) := by
  have hb : s.gr c f.rb = 0 := by rw [← State.toNat_g, hz]; rfl
  exact issue_exc h (by rw [aluDiv, if_neg (not_not.2 hv), if_pos ⟨hb, hd⟩])

theorem issue_crcReg {n : Nat} (h : s.issues c) : issue c (crcReg c f n) s =
    .next (s.wroteG c f.rd (BitVec.ofNat 32 (crcStep (crcSel (s.core c) f.v.toNat) (s.gr c f.ra) (s.gr c f.rb) n))) :=
  issue_writes h rfl rfl

/-- A CRC step over loaded bytes writes rd, then advances ra (R123). -/
theorem issue_crcMem {n x : Nat} {t : State} (h : s.issues c) (hb : f.rb = 0) (hne : f.rd ≠ f.ra) (ha : s.gr c f.ra % n = 0)
    (hl : s.load c (s.gr c f.ra) n = .val x t) : issue c (crcMem c f n) s =
    .next (((t.setG c f.rd (crcStep (crcSel (s.core c) f.v.toNat) (s.gr c f.rd) x n)).setG c f.ra (w32 (s.gr c f.ra + n))).advance c
      (s.pc c)) :=
  issue_ok h (by simp only [crcMem, hb, hne, ha, hl, ne_eq, not_true_eq_false, or_self, if_false])

end

section
variable {c : CoreIx} {s : State} {f : FmtI} {v : Word}

theorem issue_aluIS {op : Nat → Nat → Nat} (h : s.issues c)
    (hop : BitVec.ofNat 32 (op (s.g c f.ra).toNat (f.imm.signExtend 32).toNat) = v) :
    issue c (aluIS c f op) s = .next (s.wroteG c f.rd v) :=
  issue_writes h rfl (by rwa [State.toNat_g, ← sext_toNat] at hop)

theorem issue_aluIZ {op : Nat → Nat → Nat} (h : s.issues c)
    (hop : BitVec.ofNat 32 (op (s.g c f.ra).toNat (f.imm.zeroExtend 32).toNat) = v) :
    issue c (aluIZ c f op) s = .next (s.wroteG c f.rd v) :=
  issue_writes h rfl (by rwa [State.toNat_g, BitVec.toNat_setWidth_of_le (by decide)] at hop)

end

theorem issue_fieldM {c : CoreIx} {s : State} {f : FmtM} {v : Word} {op : Nat → Nat → Nat → Nat → Nat} (h : s.issues c) (hz : f.z = 0)
    (hw : f.pos.toNat + (f.wm1.toNat + 1) ≤ 32)
    (hop : BitVec.ofNat 32 (op (s.g c f.rd).toNat (s.g c f.ra).toNat f.pos.toNat (f.wm1.toNat + 1)) = v) :
    issue c (fieldM c f op) s = .next (s.wroteG c f.rd v) :=
  issue_writes h (by rw [fieldM, if_neg (not_or.2 ⟨not_not.2 hz, Nat.not_lt.2 hw⟩)]) (by rwa [State.toNat_g, State.toNat_g] at hop)

/-- LUI puts its immediate into bits 31–12 (R111). -/
theorem exec_lui {c : CoreIx} {s : State} {u : FmtU} (h : s.issues c) (hz : u.z = 0) :
    exec (.lui c u) s = .next (s.wroteG c u.rd (u.imm.zeroExtend 32 <<< 12)) := by
  have hn : BitVec.ofNat 32 (u.imm.toNat * 2 ^ 12) = u.imm.zeroExtend 32 <<< 12 := by
    rw [← BitVec.toNat_inj]
    simp [Nat.shiftLeft_eq, BitVec.toNat_setWidth_of_le (show 20 ≤ 32 by decide)]
  change issue c (fun s => if u.z ≠ 0 then illegal s else .ok (s.setG c u.rd (u.imm.toNat * 2 ^ 12))) s = _
  exact issue_writes h (if_neg (not_not.2 hz)) hn

/-! ## Division -/

/-- Settles O7: each of the four instructions is one division form, which completes or traps; by 0 the four results of Table 4.8 are read off. -/
theorem divisionResultsAndDivideByZero : Obligations.DivisionResultsAndDivideByZero := by
  intro c f s h hv a b done trap
  by_cases hb : b = 0
  · rw [if_pos hb]
    have hb0 : (s.g c f.rb).toNat = 0 := congrArg BitVec.toNat hb
    by_cases hd : (s.core c).dzt = true
    · rw [if_pos hd]
      exact ⟨issue_aluDiv_traps h hv hb hd, issue_aluDiv_traps h hv hb hd, issue_aluDiv_traps h hv hb hd, issue_aluDiv_traps h hv hb hd⟩
    · rw [if_neg hd]
      have hz : s.g c f.rb = 0 → (s.core c).dzt = false := fun _ => Bool.eq_false_of_not_eq_true hd
      exact ⟨issue_aluDiv h hv hz (by rw [divS, if_pos hb0]; rfl), issue_aluDiv h hv hz (by rw [divU, if_pos hb0]; rfl),
        issue_aluDiv h hv hz (by rw [remS, if_pos hb0, ofNat_toNat_self]),
        issue_aluDiv h hv hz (by rw [remU, if_pos hb0, ofNat_toNat_self])⟩
  · rw [if_neg hb]
    have hz : s.g c f.rb = 0 → (s.core c).dzt = false := fun e => absurd e hb
    exact ⟨issue_aluDiv h hv hz (ofNat_divS hb), issue_aluDiv h hv hz (ofNat_divU hb), issue_aluDiv h hv hz (ofNat_remS hb),
      issue_aluDiv h hv hz (ofNat_remU hb)⟩

/-! ## Instructions of one operand, with immediates, on fields and on CRC -/

/-- Settles O8: every instruction is an issue of its operand form, whose operation on numbers is the one on words that the statement names. -/
theorem unaryImmediateAndCrcInstructionsWriteTheirResult : Obligations.UnaryImmediateAndCrcInstructionsWriteTheirResult := by
  refine ⟨fun c f s h => ⟨fun hv hb => ?rb0, fun hv => ?bytes, fun hv => ?halves, fun hv => ?word⟩,
    fun c f u m s h => ⟨?immediate, exec_lui h, fun hz hw => ?field⟩,
    fun c f s h => ⟨issue_crcReg h, issue_crcReg h, issue_crcReg h, fun hb hne v t => ?memory⟩⟩
  case rb0 =>
    exact ⟨issue_aluR1 h hv hb (ofNat_sub32_zero _), issue_aluR1 h hv hb (ofNat_clz32 _), issue_aluR1 h hv hb (ofNat_popCount _)⟩
  case bytes =>
    exact ⟨issue_aluV1 h hv (by decide) (ofNat_brev_bytes _), issue_aluV1 h hv (by decide) (ofNat_parity_bytes _),
      issue_aluV1 h hv (by decide) (ofNat_sext 8 _)⟩
  case halves =>
    exact ⟨issue_aluV1 h hv (by decide) (ofNat_brev_halves _), issue_aluV1 h hv (by decide) (ofNat_parity_halves _),
      issue_aluV1 h hv (by decide) (ofNat_sext 16 _)⟩
  case word => exact ⟨issue_aluV1 h hv (by decide) (ofNat_brev_word _), issue_aluV1 h hv (by decide) (ofNat_parity_word _)⟩
  case immediate =>
    exact ⟨issue_aluIS h (ofNat_w32_add _ _), issue_aluIZ h (ofNat_and_toNat _ _), issue_aluIZ h (ofNat_or_toNat _ _),
      issue_aluIZ h (ofNat_xor_toNat _ _), issue_aluIZ h (ofNat_shl32 _ _), issue_aluIZ h (ofNat_shr32 _ _), issue_aluIZ h (ofNat_sar32 _ _),
      issue_aluIZ h (ofNat_ror32 _ _), issue_aluIS h (ofNat_beq _ _), issue_aluIS h (ofNat_slt _ _), issue_aluIS h (ofNat_ult _ _)⟩
  case field =>
    exact ⟨issue_fieldM h hz hw (ofNat_bitsOf _ _ _), issue_fieldM h hz hw (ofNat_sext_bitsOf _ _ _),
      issue_fieldM h hz hw (ofNat_setBits _ _ _ _)⟩
  case memory => exact ⟨issue_crcMem h hb hne (Nat.mod_one _), issue_crcMem h hb hne, issue_crcMem h hb hne⟩

end Sys2Proof.Machine
end

section
/-! PROOF. Frames of the Pantograph block: what a fetch of a channel can touch beside the memories (credits, Doze, ECC counters, faults and the events
they post, R150, R434, R452) lies outside the DM registers and the channels. -/
namespace Sys2Proof.Machine

/-- A field of the DM blocks. -/
def FldAt.dm (x : FldAt) : Prop := x.fits ∧ 0x40300000 ≤ x.addr ∧ x.addr < 0x40340000

/-- A field outside the DM blocks. -/
abbrev FldAt.notDm (x : FldAt) : Prop := x.addr < 0x40300000 ∨ 0x40340000 ≤ x.addr

theorem FldAt.dm.notCc {x : FldAt} (h : x.dm) : x.notCc := ⟨h.1, .inr h.2.1⟩

/-- What the state holds of the Pantograph: the channels and the fields of the DM blocks. -/
def State.dmView (s : State) : List (Nat × Panto) × ({x : FldAt // x.dm} → Nat) := (s.panto, fun x => s.f x.1)

theorem State.pan_of_dmView {s t : State} (h : t.dmView = s.dmView) (n j : Nat) : t.pan n j = s.pan n j := by
  rw [State.pan, State.pan, show t.panto = s.panto from congrArg Prod.fst h]

theorem State.f_of_dmView {s t : State} (h : t.dmView = s.dmView) {x : FldAt} (hx : x.dm) : t.f x = s.f x :=
  congrFun (congrArg Prod.snd h) ⟨x, hx⟩

/-! ## Register writes outside the DM blocks -/

theorem State.setF_dmView (s : State) {x : FldAt} (v : Nat) (h : x.notDm) : (s.setF x v).dmView = s.dmView :=
  Prod.ext rfl (funext fun y => State.f_setF_apart _ _ _ _ (.inl (by have := y.2.2; omega)) y.2.1)

theorem State.bump_dmView (s : State) {x : FldAt} (k : Nat) (h : x.notDm) : (s.bump x k).dmView = s.dmView := State.setF_dmView _ _ h

theorem State.orF_dmView (s : State) {x : FldAt} (v : Nat) (h : x.notDm) : (s.orF x v).dmView = s.dmView := State.setF_dmView _ _ h

theorem State.setFs_dmView (s : State) (l : List (FldAt × Nat)) (h : ∀ p ∈ l, p.1.notDm) : (s.setFs l).dmView = s.dmView := by
  induction l generalizing s with
  | nil => rfl
  | cons p l ih =>
    rw [List.forall_mem_cons] at h
    rw [State.setFs_cons, ih _ h.2, State.setF_dmView _ _ h.1]

/-! ## Operations that write no register -/

@[simp] theorem State.countG_dmView (s : State) (g k : Nat) : (s.countG g k).dmView = s.dmView := rfl
@[simp] theorem State.pba_dmView (s : State) (x : List (Nat × Nat)) : ({ s with pba := x } : State).dmView = s.dmView := rfl
@[simp] theorem State.dbHeld_dmView (s : State) (x : List Nat) : ({ s with dbHeld := x } : State).dmView = s.dmView := rfl
@[simp] theorem State.slotAt_dmView (s : State) (x : List (Nat × Nat)) : ({ s with slotAt := x } : State).dmView = s.dmView := rfl
@[simp] theorem State.notices_dmView (s : State) (x : List Notice) : ({ s with notices := x } : State).dmView = s.dmView := rfl
@[simp] theorem State.openUnit_dmView (s : State) (x : Nat) : ({ s with openUnit := x } : State).dmView = s.dmView := rfl
@[simp] theorem State.secondUnit_dmView (s : State) (x : Nat) : ({ s with secondUnit := x } : State).dmView = s.dmView := rfl
@[simp] theorem State.emit_dmView (s : State) (o : Output) : (s.emit o).dmView = s.dmView := rfl
@[simp] theorem State.free_dmView (s : State) : s.free.2.dmView = s.dmView := rfl
@[simp] theorem State.lend_dmView (s : State) (q cls dir n : Nat) : (s.lend q cls dir n).dmView = s.dmView := rfl
@[simp] theorem State.eccDrop_dmView (s : State) (a n k : Nat) : (s.eccDrop a n k).dmView = s.dmView := rfl
@[simp] theorem State.setSession_dmView (s : State) (n : Nat) (x : Session) : (s.setSession n x).dmView = s.dmView := rfl
@[simp] theorem State.setSlotWord_dmView (s : State) (c i w v : Nat) : (s.setSlotWord c i w v).dmView = s.dmView := rfl

@[simp] theorem State.setSlotWords_dmView (s : State) (c i w : Nat) (vs : List Nat) : (s.setSlotWords c i w vs).dmView = s.dmView := by
  induction vs generalizing s w with
  | nil => rfl
  | cons v vs ih => exact ih ..

@[simp] theorem State.msixFire_dmView (s : State) (f v : Nat) : (s.msixFire f v).dmView = s.dmView := by
  unfold State.msixFire; split <;> rfl

@[simp] theorem State.queueEvent_dmView (s : State) (n : Nat) (e : FEvent) : (s.queueEvent n e).dmView = s.dmView := by
  unfold State.queueEvent; dsimp only; split <;> rfl

@[simp] theorem State.attach_dmView (s : State) (rq : Rq) : (s.attach rq).dmView = s.dmView := by
  unfold State.attach; split <;> rfl

@[simp] theorem State.lendQ_dmView (s : State) (q dir len : Nat) (write bulk : Bool) : (s.lendQ q dir len write bulk).dmView = s.dmView := by
  unfold State.lendQ
  exact foldl_keeps (g := State.dmView) _ (fun _ _ => State.lend_dmView ..) _ s

@[simp] theorem State.carryOver_dmView (s : State) (qs : List (Nat × Nat)) (len : Nat) (write bulk : Bool) :
    (s.carryOver qs len write bulk).dmView = s.dmView :=
  foldl_keeps (g := State.dmView) _ (fun _ _ => State.lendQ_dmView ..) _ s

@[simp] theorem State.dmCarry_dmView (s : State) (n id a len : Nat) (write : Bool) : (s.dmCarry n id a len write).dmView = s.dmView :=
  State.carryOver_dmView ..

@[simp] theorem State.lendBanks_dmView (s : State) (a n : Nat) (write bulk : Bool) : (s.lendBanks a n write bulk).dmView = s.dmView :=
  foldl_keeps (g := State.dmView) _ (fun _ _ => State.lendQ_dmView ..) _ s

/-! ## Events -/

theorem State.evSlot_panto (s : State) (th i : Nat) : (s.evSlot th i).panto = s.panto := by
  simp only [State.evSlot, State.bump, State.orF, State.setF_panto]
  split <;> simp only [State.setF_panto]

@[simp] theorem State.fireFor_dmView (s : State) (who : Nat → Bool) (code : Nat) : (s.fireFor who code).dmView = s.dmView := by
  refine Prod.ext ?_ (funext fun x => State.fireFor_f _ _ _ _ x.2.notCc)
  refine foldl_keeps (g := State.panto) _ (fun t e => ?_) s.regs s
  split
  · split
    · exact State.evSlot_panto ..
    · rfl
  · rfl

@[simp] theorem State.evDrop_dmView (s : State) {r : Nat} (h : r < 4) : (s.evDrop r).dmView = s.dmView := by
  unfold State.evDrop
  split
  · rfl
  · exact State.bump_dmView _ _ (.inl (by simp only [SYS.RGCTL_EVDROP, SYS.RGCTL]; omega))

theorem msixsrcAt_lt {a f i : Nat} (h : msixsrcAt a = some (f, i)) : f < 2 := by
  simp only [msixsrcAt, Option.ite_none_right_eq_some, Option.some.injEq, Prod.mk.injEq] at h
  omega

@[simp] theorem State.msixDirect_dmView (s : State) (code : Nat) : (s.msixDirect code).dmView = s.dmView := by
  refine foldl_keeps (g := State.dmView) _ (fun t e => ?_) s.regs s
  split
  case h_1 f i hf =>
    have hlt := msixsrcAt_lt hf
    have hm : (PCI.MSIXMRG_MERGED f).notDm := .inl (by simp only [PCI.MSIXMRG_MERGED, PCI.MSIXMRG]; omega)
    split
    · rw [State.msixFire_dmView]
      split
      · rw [State.countG_dmView, State.bump_dmView _ _ hm]
      · rfl
    · rfl
  case h_2 => rfl

@[simp] theorem State.ringDoorbell_dmView (s : State) {id bit : Nat} (hid : id < 256) : (s.ringDoorbell id bit).dmView = s.dmView := by
  have h : ∀ v, (s.orF (MBX.DB_BELL id) v).dmView = s.dmView := fun v =>
    State.orF_dmView _ _ (.inl (by simp only [MBX.DB_BELL, MBX.DB]; omega))
  unfold State.ringDoorbell
  dsimp only
  split
  · split
    · exact h _
    · split
      · rw [State.pba_dmView, h]
      · rw [State.msixFire_dmView, h]
  · split
    · rw [State.dbHeld_dmView, h]
    · rw [State.fireFor_dmView]
      split
      · rw [State.evDrop_dmView _ (by omega), h]
      · split
        · rw [State.evDrop_dmView _ (by omega), h]
        · exact h _

/-! ## Faults -/

@[simp] theorem State.kevt_dmView (s : State) (bit : Nat) : (s.kevt bit).dmView = s.dmView := State.orF_dmView _ _ (by decide)

@[simp] theorem State.setFaultN_dmView (s : State) (v : Bool) : (s.setFaultN v).dmView = s.dmView := by
  unfold State.setFaultN
  split
  · rfl
  · exact (State.emit_dmView _ _).trans (State.setF_dmView _ _ (by decide))

@[simp] theorem State.degraded_dmView (s : State) : s.degraded.dmView = s.dmView := by
  unfold State.degraded
  simp (disch := decide) only [apply_ite State.dmView, State.setF_dmView, State.setFaultN_dmView, ite_self]

@[simp] theorem State.degrade_dmView (s : State) (u : Nat) : (s.degrade u).dmView = s.dmView := by
  unfold State.degrade
  simp (disch := decide) only [State.degraded_dmView, apply_ite State.dmView, State.setF_dmView, State.secondUnit_dmView, ite_self]

@[simp] theorem State.refreshSilent_dmView (s : State) {n : Nat} (clear : Bool) (hn : n < 4) : (s.refreshSilent n clear).dmView = s.dmView := by
  have h : (RUL.STAT_SILENT n).notDm := .inl (by simp only [RUL.STAT_SILENT, RUL.STAT]; omega)
  simp only [State.refreshSilent, apply_ite State.dmView, State.setF_dmView _ _ h, ite_self]

@[simp] theorem State.fstopRul_dmView (s : State) {n : Nat} (hn : n < 4) : (s.fstopRul n).dmView = s.dmView := by
  have h1 : (RUL.CTL_RUN n).notDm := .inl (by simp only [RUL.CTL_RUN, RUL.CTL]; omega)
  have h2 : (RUL.STAT_STATE n).notDm := .inl (by simp only [RUL.STAT_STATE, RUL.STAT]; omega)
  simp only [State.fstopRul, apply_ite State.dmView, State.refreshSilent_dmView _ _ hn, State.kevt_dmView, State.setFs_cons, State.setFs_nil,
    State.setF_dmView _ _ h1, State.setF_dmView _ _ h2, ite_self]

@[simp] theorem State.fatal_dmView (s : State) (u : Nat) : (s.fatal u).dmView = s.dmView := by
  unfold State.fatal
  extract_lets s₁ s₂
  have h₁ : s₁.dmView = s.dmView := by
    simp (disch := decide) only [s₁, apply_ite State.dmView, State.setFs_cons, State.setFs_nil, State.setF_dmView, ite_self]
  have h₂ : s₂.dmView = s.dmView := by rw [State.setFaultN_dmView, State.setF_dmView _ _ (by decide), h₁]
  split
  · simp (disch := decide) only [List.foldl_cons, List.foldl_nil, State.fstopRul_dmView, h₂]
  · exact h₂

@[simp] theorem State.pushNotice_dmView (s : State) (x : Notice) : (s.pushNotice x).dmView = s.dmView := by
  simp (disch := decide) only [State.pushNotice, apply_ite State.dmView, State.notices_dmView, State.countG_dmView, State.bump_dmView, ite_self]

/-- The record of a unit lies in the block of the fault hub (Table 17.17). -/
theorem notDm_of_record {x : FldAt} {u : Nat} (hu : u < 512) (h : x.addr < 0x40081020 + u * 0x20) : x.notDm := .inl (by omega)

@[simp] theorem State.putRecord_dmView (s : State) {r : FaultRec} (seq : Nat) (hu : r.unit < 512) : (s.putRecord r seq).dmView = s.dmView := by
  have h : ∀ {x : FldAt}, x.addr < 0x40081020 + r.unit * 0x20 → x.notDm := notDm_of_record hu
  have hd := h (x := FLT.REC_DETAIL_DETAIL r.unit) (by simp only [FLT.REC_DETAIL_DETAIL, FLT.REC_DETAIL]; omega)
  simp only [State.putRecord]
  rw [State.setFs_dmView]
  case h =>
    simp only [List.forall_mem_cons, FLT.REC0_V, FLT.REC0_OVF, FLT.REC0_COUNT, FLT.REC0]
    exact ⟨h (by dsimp only; omega), h (by dsimp only; omega), h (by dsimp only; omega), by simp⟩
  split
  · refine State.setFs_dmView _ _ ?_
    simp only [List.forall_mem_cons, FldAt.notDm, FLT.REC0_CONT, FLT.REC0_FATAL, FLT.REC0_CODE, FLT.REC0, FLT.REC_DETAIL_DETAIL, FLT.REC_DETAIL,
      FLT.REC_ADDR_ADDR, FLT.REC_ADDR, FLT.REC_TNS_TNS, FLT.REC_TNS, FLT.REC_TSEC_TSEC, FLT.REC_TSEC, FLT.REC_ID_IDENT, FLT.REC_ID_KEY,
      FLT.REC_ID_KV, FLT.REC_ID, FLT.REC_SEQ_SEQ, FLT.REC_SEQ, List.not_mem_nil, false_implies, implies_true, and_true]
    omega
  · split
    · exact State.orF_dmView _ _ hd
    · rfl

@[simp] theorem State.record_dmView (s : State) {r : FaultRec} (hu : r.unit < 512) : (s.record r).dmView = s.dmView := by
  unfold State.record
  extract_lets seq s₁ s₂ s₅ s₆ s₃ s₄
  have h₁ : s₁.dmView = s.dmView := by rw [State.setF_dmView _ _ (by decide), State.putRecord_dmView _ _ hu]
  have h₂ : s₂.dmView = s.dmView := by rw [State.msixDirect_dmView, State.pushNotice_dmView, h₁]
  have h₆ : s₆.dmView = s.dmView := by
    simp (disch := decide) only [s₆, State.setFs_cons, State.setFs_nil, State.setF_dmView]
    exact (State.openUnit_dmView ..).trans h₂
  have h₃ : s₃.dmView = s.dmView := by
    simp (disch := decide) only [s₃, apply_ite State.dmView, State.degrade_dmView, State.setF_dmView, h₂, h₆, ite_self]
  have h₄ : s₄.dmView = s.dmView := by simp only [s₄, apply_ite State.dmView, State.degrade_dmView, h₃, ite_self]
  simp only [apply_ite State.dmView, State.fatal_dmView, h₄, ite_self]

/-! ## Messages of the Keyblock -/

@[simp] theorem State.commitOpen_dmView (s : State) {c : Nat} (hc : c < 32) : (s.commitOpen c).dmView = s.dmView := by
  unfold State.commitOpen
  dsimp only
  rw [State.ringDoorbell_dmView _ (State.f_lt _ _), State.setFs_dmView, State.setSlotWord_dmView, State.slotAt_dmView, State.countG_dmView]
  simp only [List.forall_mem_cons, FldAt.notDm, MBX.CHSTAT_WIDX, MBX.CHSTAT_USED, MBX.CHSTAT]
  exact ⟨.inl (by omega), .inl (by omega), by simp⟩

@[simp] theorem State.faultQueued_dmView (s : State) {r : FaultRec} (hu : r.unit < 512) : (s.faultQueued r).dmView = s.dmView := by
  unfold State.faultQueued
  rw [foldl_keeps (g := State.dmView) _ fun t n => ?_, State.record_dmView _ hu]
  simp only [apply_ite State.dmView, State.queueEvent_dmView, ite_self]

@[simp] theorem State.checkSlotBy_faultQueued_dmView (s : State) {c : Nat} (i : Nat) (hc : c < 32) :
    (s.checkSlotBy State.faultQueued c i).dmView = s.dmView := by
  have h : (MBX.CHCNT_LOST c).notDm := .inl (by simp only [MBX.CHCNT_LOST, MBX.CHCNT]; omega)
  unfold State.checkSlotBy
  dsimp only
  split
  · rw [State.faultQueued_dmView _ (show 0xB0 < 512 by decide), State.countG_dmView, State.bump_dmView _ _ h, State.setSlotWords_dmView,
      State.eccDrop_dmView]
  · rfl

@[simp] theorem State.putMsg_dmView (s : State) {n : Nat} (m : FMsg) (hn : n < 4) : (s.putMsg n m).dmView = s.dmView := by
  unfold State.putMsg
  dsimp only
  rw [State.commitOpen_dmView _ (by omega), State.checkSlotBy_faultQueued_dmView _ _ (by omega), State.setSlotWords_dmView]

@[simp] theorem State.postWaiting_dmView (s : State) {n : Nat} (fuel : Nat) (hn : n < 4) : (s.postWaiting n fuel).dmView = s.dmView := by
  induction fuel generalizing s with
  | zero => rfl
  | succ k ih =>
    unfold State.postWaiting
    split
    · rfl
    · split
      · rw [ih, State.putMsg_dmView _ _ hn, State.setSession_dmView]
      · rfl

@[simp] theorem State.postMsg_dmView (s : State) {n : Nat} (opcode tag status detail : Nat) (payload : List Byte) (hn : n < 4) :
    (s.postMsg n opcode tag status detail payload).dmView = s.dmView :=
  (State.postWaiting_dmView _ _ hn).trans (State.setSession_dmView ..)

@[simp] theorem State.eventTo_dmView (s : State) {n : Nat} (opcode tag status : Nat) (payload : List Byte) (hn : n < 4) :
    (s.eventTo n opcode tag status payload).dmView = s.dmView := by
  simp only [State.eventTo, apply_ite State.dmView, State.postMsg_dmView _ _ _ _ _ _ hn, State.queueEvent_dmView, ite_self]

@[simp] theorem State.postEvent_dmView (s : State) (opcode : Nat) (vals : List Nat) : (s.postEvent opcode vals).dmView = s.dmView := by
  simp (disch := decide) only [State.postEvent, State.postBytes, List.foldl_cons, List.foldl_nil, apply_ite State.dmView, State.eventTo_dmView,
    ite_self]

@[simp] theorem State.ringStops_dmView (s was : State) : (s.ringStops was).dmView = s.dmView := by
  refine foldl_keeps (g := State.dmView) _ (fun t n => ?_) _ s
  simp only [apply_ite State.dmView, State.postEvent_dmView, ite_self]

@[simp] theorem State.fault_dmView (s : State) {r : FaultRec} (hu : r.unit < 512) : (s.fault r).dmView = s.dmView := by
  rw [State.fault, State.postEvent_dmView, State.ringStops_dmView, State.record_dmView _ hu]

/-! ## Reads of the memories -/

@[simp] theorem State.wakeDoze_dmView (s : State) (a : Nat) : (s.wakeDoze a).dmView = s.dmView := by
  unfold State.wakeDoze
  split
  case h_1 c hc =>
    have hlt : c < 12 := by
      simp only [clusterAt] at hc
      split_ifs at hc <;> simp only [Option.some.injEq] at hc <;> omega
    have h₁ : (SYS.DOZE_STATE c).notDm := .inl (by simp only [SYS.DOZE_STATE, SYS.DOZE]; omega)
    have h₂ : (SYS.DOZE_WAKES c).notDm := .inl (by simp only [SYS.DOZE_WAKES, SYS.DOZE]; omega)
    simp only [State.wakeCluster, apply_ite State.dmView, State.bump_dmView _ _ h₂, State.setF_dmView _ _ h₁, ite_self]
  case h_2 => rfl

/-- The error counters of an engine window lie in the blocks of the compute clusters (Table 5.12). -/
theorem notDm_engErr {a : Nat} (ue : Bool) (h : a < 0x20600000) : (engErr a ue).notDm := by
  refine .inl ?_
  simp only [engErr, ofCe, CC.ENGERR_IUE, CC.ENGERR_ICE, CC.ENGERR_DUE, CC.ENGERR_DCE, CC.ENGERR, CC.SPERR_UE, CC.SPERR_CE, CC.SPERR]
  split_ifs <;> dsimp only <;> omega

@[simp] theorem State.ramRead_dmView (s : State) (a len : Nat) : (s.ramRead a len).2.2.dmView = s.dmView := by
  unfold State.ramRead
  extract_lets eng p t
  have hb : ∀ (t : State) (ue : Bool) (k : Nat), (if eng then t.bump (engErr a ue) k else t).dmView = t.dmView := fun t ue k => by
    split
    case isTrue h =>
      simp only [eng, Bool.and_eq_true, decide_eq_true_eq] at h
      exact State.bump_dmView _ _ (notDm_engErr ue h.2)
    case isFalse => rfl
  have ht : t.dmView = s.dmView := by
    dsimp only [t]
    split
    · rw [State.eccDrop_dmView, hb]
    · rfl
  split
  · exact (hb ..).trans ht
  · exact ht

theorem bankOf_lt (a : Nat) : bankOf a < 98 := by
  unfold bankOf
  split
  · simp only [plateHi, plateLo] at *; omega
  · omega

/-- The registers of a bank of Plate lie in the block of Plate (Table 16.6). -/
theorem notDm_of_bank {x : FldAt} {a : Nat} (h : x.addr = PLT.BANKSTAT (bankOf a)) : x.notDm := by
  have hb := bankOf_lt a
  simp only [PLT.BANKSTAT] at h
  omega

@[simp] theorem State.plateCE_dmView (s : State) (a : Nat) : (s.plateCE a).dmView = s.dmView := by
  rw [State.plateCE, State.eccDrop_dmView, State.countG_dmView, State.bump_dmView _ _ (notDm_of_bank rfl)]

@[simp] theorem State.plateUE_dmView (s : State) (a : Nat) (src : Option Nat) : (s.plateUE a src).dmView = s.dmView := by
  have hb := bankOf_lt a
  have herr : PLT.ERRADDR_ADDR.notDm ∧ PLT.ERRINFO_BANK.notDm ∧ PLT.ERRINFO_SYN.notDm ∧ PLT.ERRINFO_SRC.notDm := by decide
  unfold State.plateUE
  cases src
  all_goals
    dsimp only
    rw [State.fault_dmView _ (by dsimp only; omega), State.countG_dmView, State.setFs_dmView _ _ (by simp [herr]),
      State.bump_dmView _ _ (notDm_of_bank rfl), State.bump_dmView _ _ (notDm_of_bank rfl)]
    simp only [State.free_dmView]

@[simp] theorem State.retire_dmView (s : State) (a : Nat) : (s.retire (bankOf a)).dmView = s.dmView := by
  have hb := bankOf_lt a
  unfold State.retire
  split
  · rw [State.fault_dmView _ (by dsimp only; omega), State.setF_dmView _ _ (notDm_of_bank rfl)]
  · rfl

@[simp] theorem State.retireDue_dmView (s old : State) (as : List Nat) : (s.retireDue old as).dmView = s.dmView := by
  refine foldl_keeps (g := State.dmView) _ (fun t a => ?_) as s
  simp only [apply_ite State.dmView, State.retire_dmView, ite_self]

@[simp] theorem State.cellRead_dmView (s : State) (rq : Rq) (a n : Nat) : (s.cellRead rq a n).2.2.dmView = s.dmView := by
  unfold State.cellRead
  extract_lets t
  have ht : t.dmView = s.dmView := by simp only [t, apply_ite State.dmView, State.plateCE_dmView, ite_self]
  split
  · exact (State.plateUE_dmView ..).trans ht
  · exact ht

@[simp] theorem State.wordRead_dmView (s : State) (rq : Rq) (a n : Nat) : (s.wordRead rq a n).2.2.2.dmView = s.dmView := by
  unfold State.wordRead
  extract_lets other spare r q
  have hr : r.2.2.dmView = s.dmView := by
    dsimp only [r]
    split
    · rfl
    · exact State.cellRead_dmView ..
  have hq : q.2.2.dmView = s.dmView := (State.cellRead_dmView ..).trans hr
  split
  · split
    · exact hq
    · exact hq
  · exact hr

/-- A fold whose steps each keep the Pantograph keeps it, wherever its accumulator holds the state. -/
theorem foldl_dmView {α β : Type} (v : α → State) {f : α → β → α} (h : ∀ r x, (v (f r x)).dmView = (v r).dmView) (l : List β)
    (r : α) : (v (l.foldl f r)).dmView = (v r).dmView := by
  induction l generalizing r with
  | nil => rfl
  | cons x l ih => exact (ih _).trans (h r x)

theorem mem_enabledImages_lt {s : State} {i : Nat} (h : i ∈ s.enabledImages) : i < 256 := by
  simp only [State.enabledImages, List.mem_filterMap, Option.ite_none_right_eq_some, Option.some.injEq] at h
  obtain ⟨e, -, h, rfl⟩ := h
  omega

@[simp] theorem State.plateRead_dmView (s : State) (rq : Rq) (a n : Nat) : (s.plateRead rq a n).2.2.dmView = s.dmView := by
  unfold State.plateRead
  extract_lets r t
  have ht : t.dmView = s.dmView :=
    (State.retireDue_dmView ..).trans (by
      refine foldl_dmView (fun r : Nat × Bool × List Byte × State => r.2.2.2) (fun _ _ => ?_) _ _
      exact State.wordRead_dmView ..)
  dsimp only
  split
  · refine List.foldlRecOn (motive := fun u : State => u.dmView = s.dmView) _ _ ht fun u hu i hi => ?_
    have hlt := mem_enabledImages_lt hi
    have hm : (PLT.IMGCNT_MIRHIT i).notDm := .inl (by simp only [PLT.IMGCNT_MIRHIT, PLT.IMGCNT]; omega)
    rw [apply_ite State.dmView, State.bump_dmView _ _ hm, ite_self, hu]
  · exact ht

@[simp] theorem State.plateAccess_read_dmView (s : State) (rq : Rq) (a n : Nat) (data : List Byte) (bulk : Bool) :
    (s.plateAccess rq false a n data bulk).2.2.dmView = s.dmView := by
  unfold State.plateAccess
  extract_lets m t r
  split
  · rfl
  · exact (State.plateRead_dmView ..).trans (State.lendBanks_dmView ..)

@[simp] theorem State.aliasAccess_read_dmView (s : State) (rq : Rq) (a n : Nat) (data : List Byte) (bulk : Bool) :
    (s.aliasAccess rq false a n data bulk).2.2.dmView = s.dmView := by
  unfold State.aliasAccess
  extract_lets m b
  split
  · rfl
  · split
    · exact State.plateAccess_read_dmView ..
    · refine foldl_dmView (fun r : Nat × List Byte × State => r.2.2) (fun _ _ => ?_) _ _
      exact State.plateAccess_read_dmView ..

/-- A read of Plate, rotated or not (R433, R439), leaves the Pantograph. -/
theorem State.busRead_dmView (s : State) (rq : Rq) {a n : Nat} (bulk : Bool) (h : inPlateOrAlias a n = true) (hn : n ≠ 0) :
    (s.busRead rq a n bulk).2.2.dmView = s.dmView := by
  have ha : a < plateHi ∨ ¬ a < plateHi ∧ ¬ a < 0x12000000 ∧ a < 0x13800000 := by
    simp only [inPlateOrAlias, inPlate, Bool.or_eq_true, Bool.and_eq_true, decide_eq_true_eq] at h
    simp only [plateHi] at *
    omega
  unfold State.busRead
  extract_lets zeros c t k q r
  have ht : t.dmView = s.dmView := (State.attach_dmView ..).trans (State.wakeDoze_dmView ..)
  have hr : r.2.2.dmView = s.dmView := by
    rcases ha with h₁ | ⟨h₁, h₂, h₃⟩
    · dsimp only [r]
      rw [if_pos h₁, State.plateAccess_read_dmView, ht]
    · dsimp only [r]
      rw [if_neg h₁, if_neg h₂, if_pos h₃, State.aliasAccess_read_dmView, ht]
  split
  · rfl
  · split
    · rfl
    · exact hr

/-- A fetch leaves the Pantograph as it is (R418). -/
theorem State.panRead_fetch_dmView (s : State) {n j a : Nat} {reg : Bool} {bs : List Byte} {t : State} (hf : fetchRange n a = true)
    (h : s.panRead n j reg a 16 = (0, bs, t)) : t.dmView = s.dmView := by
  rw [show t = (s.panRead n j reg a 16).2.2 by rw [h]]
  have h0 : (s.panRead n j reg a 16).1 = 0 := by rw [h]
  revert h0
  unfold State.panRead
  extract_lets rq zeros u c
  have hu : u.dmView = s.dmView := State.dmCarry_dmView ..
  split
  · exact fun h0 => absurd h0 (by simp)
  · split
    · exact fun h0 => absurd h0 (by simp)
    · intro _
      split
      case isTrue =>
        split
        · exact hu
        · exact ((State.ramRead_dmView ..).trans (State.wakeDoze_dmView ..)).trans hu
      case isFalse hs =>
        have hp : inPlateOrAlias a 16 = true := by simpa [fetchRange, hs] using hf
        exact (State.busRead_dmView _ _ _ hp (by decide)).trans hu

end Sys2Proof.Machine
end

section
/-! PROOF. A turn of a Pantograph channel (R418–R427), once for each way it can go: what the rows of the channel run, what a fetch answers, and the
effect of each instruction of Table 15.5. -/
namespace Sys2Proof.Machine

/-! ## The fields of a channel -/

@[simp] theorem State.setPan_panto (s : State) (n j : Nat) (x : Panto) :
    (s.setPan n j x).panto = cellPut s.panto Panto.reset (16 * n + j) x := rfl

@[simp] theorem State.pan_setPan (s : State) (n j : Nat) (x : Panto) : (s.setPan n j x).pan n j = x := by
  rw [State.pan, State.setPan_panto, tabGet_cellPut_self]

@[simp] theorem State.setDmChan_panto (s : State) (n j st : Nat) : (s.setDmChan n j st).panto = s.panto := by
  rw [State.setDmChan, State.setF_panto, State.setF_panto, State.setF_panto]

@[simp] theorem State.pan_setDmChan (s : State) (n j st : Nat) : (s.setDmChan n j st).pan n j = s.pan n j := by
  rw [State.pan, State.pan, State.setDmChan_panto]

@[simp] theorem State.pan_setF (s : State) (n j : Nat) (x : FldAt) (v : Nat) : (s.setF x v).pan n j = s.pan n j := rfl

@[simp] theorem State.f_setPan (s : State) (n j : Nat) (x : Panto) (y : FldAt) : (s.setPan n j x).f y = s.f y := rfl

@[simp] theorem State.on_setPan (s : State) (n j : Nat) (x : Panto) (y : FldAt) : (s.setPan n j x).on y = s.on y := rfl

theorem dm_chanSt (n : Fin 4) (j : Fin 16) : (DM.CHSTAT_STATE n j).dm :=
  ⟨by simp [FldAt.fits, DM.CHSTAT_STATE], by simp only [DM.CHSTAT_STATE, DM.CHSTAT]; omega⟩

/-- The state of a channel is also shown in DM.STAT; every field elsewhere is left. -/
theorem State.setDmChan_f_apart (s : State) {n j : Nat} (st : Nat) {x : FldAt} (hx : x.fits) (hc : (DM.CHSTAT_STATE n j).apart x)
    (hs : DM.STAT n ≠ x.addr) : (s.setDmChan n j st).f x = s.f x := by
  rw [State.setDmChan, State.f_setF_apart _ _ _ _ (.inl hs) hx, State.f_setF_apart _ _ _ _ (.inl hs) hx, State.f_setF_apart _ _ _ _ hc hx]

theorem State.setDmChan_chanSt (s : State) {n j st : Nat} (h : st < 8) : (s.setDmChan n j st).chanSt n j = st := by
  have hx : (DM.CHSTAT_STATE n j).fits := by simp [FldAt.fits, DM.CHSTAT_STATE]
  have hs : DM.STAT n ≠ DM.CHSTAT n j := by simp only [DM.STAT, DM.CHSTAT]; omega
  rw [State.chanSt, State.setDmChan, State.f_setF_apart _ _ _ _ (.inl hs) hx, State.f_setF_apart _ _ _ _ (.inl hs) hx, State.f_setF _ _ _ hx]
  exact Nat.mod_eq_of_lt h

theorem State.setDmChan_wpend (s : State) (n j st : Nat) : (s.setDmChan n j st).on (DM.CHSTAT_WPEND n j) = s.on (DM.CHSTAT_WPEND n j) := by
  have h := s.setDmChan_f_apart (n := n) (j := j) st (x := DM.CHSTAT_WPEND n j) (by simp [FldAt.fits, DM.CHSTAT_WPEND])
    (.inr (.inl (by simp [DM.CHSTAT_STATE, DM.CHSTAT_WPEND]))) (by simp only [DM.STAT, DM.CHSTAT_WPEND, DM.CHSTAT]; omega)
  rw [State.on, State.on, h]

/-! ## The rows of a channel -/

/-- The rows of Table 15.5 as commands of a channel, by their opcode. -/
noncomputable def panRows (n : Fin 4) (j : Fin 16) : List Instr :=
  [.pantoHalt n j, .pantoMove n j, .pantoGather n j, .pantoScatter n j, .pantoLoop n j, .pantoEndloop n j, .pantoWait n j, .pantoSignal n j,
    .pantoFence n j]

/-- What the row of an opcode runs. -/
def panRun (n j op : Nat) (i : PIns) (a : Nat) (s : State) : State :=
  match op with
  | 0 => if (s.pan n j).loops.isEmpty then s.dmFenced n j i (fun s => s.panHalt n j) else s.chanErr n j 9 a false
  | 1 => s.panMove n j i a
  | 2 => s.panGather n j i a
  | 3 => s.panScatter n j i a
  | 4 => s.panLoop n j i a
  | 5 => s.panEndloop n j a
  | 6 => s.panWait n j i
  | 7 => s.dmFenced n j i (fun s => s.panSignal n j i a)
  | 8 => s.dmFenced n j i (fun s => s.panNext n j)
  | _ => s

section
variable (n j : Nat) (i : PIns) (a : Nat) (s : State)

theorem panRun_halt : panRun n j 0 i a s =
    if (s.pan n j).loops.isEmpty then s.dmFenced n j i (fun s => s.panHalt n j) else s.chanErr n j 9 a false := rfl
theorem panRun_move : panRun n j 1 i a s = s.panMove n j i a := rfl
theorem panRun_gather : panRun n j 2 i a s = s.panGather n j i a := rfl
theorem panRun_scatter : panRun n j 3 i a s = s.panScatter n j i a := rfl
theorem panRun_loop : panRun n j 4 i a s = s.panLoop n j i a := rfl
theorem panRun_endloop : panRun n j 5 i a s = s.panEndloop n j a := rfl
theorem panRun_wait : panRun n j 6 i a s = s.panWait n j i := rfl
theorem panRun_signal : panRun n j 7 i a s = s.dmFenced n j i (fun s => s.panSignal n j i a) := rfl
theorem panRun_fence : panRun n j 8 i a s = s.dmFenced n j i (fun s => s.panNext n j) := rfl

end

/-- Each row is a turn of the channel for its opcode. -/
theorem exec_panRow {n : Fin 4} {j : Fin 16} {k : Nat} {c : Instr} (hc : (panRows n j)[k]? = some c) (s : State) :
    exec c s = .next (s.panStep n j k (panRun n j k)) := by
  obtain ⟨hk, rfl⟩ := List.getElem?_eq_some_iff.1 hc
  have hk9 : k < 9 := hk
  interval_cases k <;> rfl

/-! ## The cases of a turn -/

section turn
variable {s : State} {n j op : Nat} {run : PIns → Nat → State → State}

theorem panStep_idle (h : s.chanSt n j ∉ [1, 3] ∨ s.regionDown n = true) : s.panStep n j op run = s := by
  refine if_pos ?_
  simpa [not_or] using h

/-- A channel that runs or fences is not idle. -/
theorem not_idle (hst : s.chanSt n j ∈ [1, 3]) (hd : s.regionDown n = false) :
    ¬((s.chanSt n j ≠ 1 ∧ s.chanSt n j ≠ 3) ∨ s.regionDown n = true) := by
  simp only [List.mem_cons, List.not_mem_nil, or_false] at hst
  simp only [hd, Bool.false_eq_true, or_false]
  omega

theorem panStep_underWay {q : PXfer} (hst : s.chanSt n j ∈ [1, 3]) (hd : s.regionDown n = false) (hx : (s.pan n j).xfer = some q) :
    s.panStep n j op run = if q.ins.w0 % 16 = op then run q.ins (16 * s.f (DM.CHPC_PC n j)) s else s := by
  rw [State.panStep, if_neg (not_idle hst hd)]
  simp only [hx]

theorem panStep_noFetch (hst : s.chanSt n j = 1) (hd : s.regionDown n = false) (hx : (s.pan n j).xfer = none)
    (hf : fetchRange n (16 * s.f (DM.CHPC_PC n j)) = false) : s.panStep n j op run = s.chanErr n j 2 (16 * s.f (DM.CHPC_PC n j)) true := by
  rw [State.panStep, if_neg (not_idle (by simp [hst]) hd)]
  simp [hx, hf]

theorem panStep_fetch {code : Nat} {bs : List Byte} {u : State} (hst : s.chanSt n j = 1) (hd : s.regionDown n = false)
    (hx : (s.pan n j).xfer = none) (hf : fetchRange n (16 * s.f (DM.CHPC_PC n j)) = true)
    (hr : s.panRead n j false (16 * s.f (DM.CHPC_PC n j)) 16 = (code, bs, u)) :
    s.panStep n j op run = if code ≠ 0 then u.chanErr n j code (16 * s.f (DM.CHPC_PC n j)) true
      else if pinsLegal (pinsOf bs) = false then u.chanErr n j 6 (16 * s.f (DM.CHPC_PC n j)) false
      else if (pinsOf bs).w0 % 16 = op then run (pinsOf bs) (16 * s.f (DM.CHPC_PC n j)) u else s := by
  rw [State.panStep, if_neg (not_idle (by simp [hst]) hd)]
  simp only [hx, hf, hr, if_true, Bool.not_eq_true']
  rfl

theorem panStep_at {i : PIns} {t : State} (h : s.panAt n j i t) :
    s.panStep n j op run = if i.w0 % 16 = op then run i (16 * s.f (DM.CHPC_PC n j)) t else s := by
  obtain ⟨hst, hd, hx, hf, hl, bs, hr, rfl⟩ := h
  rw [panStep_fetch hst hd hx hf hr, if_neg (not_not.2 rfl), if_neg (by simp [hl])]

/-- The fetch leaves the channel in RUN. -/
theorem State.panAt.chanSt_eq {n : Fin 4} {j : Fin 16} {i : PIns} {t : State} (h : s.panAt n j i t) : t.chanSt n j = 1 := by
  obtain ⟨hst, -, -, hf, -, bs, hr, -⟩ := h
  exact (State.f_of_dmView (State.panRead_fetch_dmView s hf hr) (dm_chanSt n j)).trans hst

/-- The fetch begins no transfer. -/
theorem State.panAt.xfer_eq {i : PIns} {t : State} (h : s.panAt n j i t) : (t.pan n j).xfer = none := by
  obtain ⟨-, -, hx, hf, -, bs, hr, -⟩ := h
  rw [State.pan_of_dmView (State.panRead_fetch_dmView s hf hr), hx]

end turn

section rows
variable {s : State} {n : Fin 4} {j : Fin 16} {c : Instr} {k : Nat}

theorem exec_at {i : PIns} {t : State} (h : s.panAt n j i t) (hk : i.w0 % 16 = k) (hc : (panRows n j)[k]? = some c) :
    exec c s = .next (panRun n j k i (16 * s.f (DM.CHPC_PC n j)) t) := by
  rw [exec_panRow hc, panStep_at h, if_pos hk]

theorem exec_at_other {i : PIns} {t : State} (h : s.panAt n j i t) (hc : (panRows n j)[k]? = some c) (hk : k ≠ i.w0 % 16) : exec c s = .next s := by
  rw [exec_panRow hc, panStep_at h, if_neg (Ne.symm hk)]

theorem exec_underWay {q : PXfer} (hst : s.chanSt n j ∈ [1, 3]) (hd : s.regionDown n = false) (hx : (s.pan n j).xfer = some q)
    (hk : q.ins.w0 % 16 = k) (hc : (panRows n j)[k]? = some c) : exec c s = .next (panRun n j k q.ins (16 * s.f (DM.CHPC_PC n j)) s) := by
  rw [exec_panRow hc, panStep_underWay hst hd hx, if_pos hk]

theorem exec_underWay_other {q : PXfer} (hst : s.chanSt n j ∈ [1, 3]) (hd : s.regionDown n = false) (hx : (s.pan n j).xfer = some q)
    (hc : (panRows n j)[k]? = some c) (hk : k ≠ q.ins.w0 % 16) : exec c s = .next s := by
  rw [exec_panRow hc, panStep_underWay hst hd hx, if_neg (Ne.symm hk)]

end rows

/-! ## Transfers -/

section transfer
variable {t : State} {n j : Nat} {i : PIns} {a : Nat}

/-- A transfer whose turn it is not waits (R427). -/
theorem panRun_waits {op : Nat} (hop : op ∈ [1, 2, 3]) (h : t.dmTurn n j = false) : panRun n j op i a t = t := by
  simp only [List.mem_cons, List.not_mem_nil, or_false] at hop
  rcases hop with rfl | rfl | rfl
  · simp [panRun_move, State.panMove, h]
  · simp [panRun_gather, State.panGather, h]
  · simp [panRun_scatter, State.panScatter, h]

theorem panMove_start (h : t.dmTurn n j = true) (hx : (t.pan n j).xfer = none) :
    t.panMove n j i a = if lenFits (srcSide i) (dstSide i) i.w3 = true ∧ sideAligned (srcSide i) (t.panSrc n j i) = true ∧
        sideAligned (dstSide i) (t.panDst n j i) = true
      then endMove n j i ((t.range0 n j (t.panSrc n j i) (t.panDst n j i) i.w3).copy n j (srcSide i) (dstSide i))
      else t.chanErr n j 7 a false := by
  simp only [State.panMove, h, hx, Bool.not_true, Bool.false_eq_true, if_false]
  cases lenFits (srcSide i) (dstSide i) i.w3 <;> cases sideAligned (srcSide i) (t.panSrc n j i) <;>
    cases sideAligned (dstSide i) (t.panDst n j i) <;> simp

theorem panGather_start (h : t.dmTurn n j = true) (hx : (t.pan n j).xfer = none) :
    t.panGather n j i a = if sideAligned (dstSide i) (t.panDst n j i) = true
      then endMove n j i (listRun n j true (srcSide i) (dstSide i) a i.w3
        { t.range0 n j (t.f (DM.CHPSRC_A n j)) (t.panDst n j i) 0 with la := t.panSrc n j i })
      else t.chanErr n j 7 a false := by
  simp only [State.panGather, h, hx, Bool.not_true, Bool.false_eq_true, if_false]
  cases sideAligned (dstSide i) (t.panDst n j i) <;> simp

theorem panScatter_start (h : t.dmTurn n j = true) (hx : (t.pan n j).xfer = none) :
    t.panScatter n j i a = if sideAligned (srcSide i) (t.panSrc n j i) = true
      then endMove n j i (listRun n j false (srcSide i) (dstSide i) a i.w3
        { t.range0 n j (t.panSrc n j i) (t.f (DM.CHPDST_A n j)) 0 with la := t.panDst n j i })
      else t.chanErr n j 7 a false := by
  simp only [State.panScatter, h, hx, Bool.not_true, Bool.false_eq_true, if_false]
  cases sideAligned (srcSide i) (t.panSrc n j i) <;> simp

theorem panMove_resume {q : PXfer} (h : t.dmTurn n j = true) (hx : (t.pan n j).xfer = some q) :
    t.panMove n j i a = endMove n j i ((t.resumed n j q).copy n j (srcSide i) (dstSide i)) := by
  simp only [State.panMove, h, hx, Bool.not_true, Bool.false_eq_true, if_false]

theorem panGather_resume {q : PXfer} (h : t.dmTurn n j = true) (hx : (t.pan n j).xfer = some q) :
    t.panGather n j i a = endMove n j i (listRun n j true (srcSide i) (dstSide i) a q.ents (t.resumed n j q)) := by
  simp only [State.panGather, h, hx, Bool.not_true, Bool.false_eq_true, if_false]

theorem panScatter_resume {q : PXfer} (h : t.dmTurn n j = true) (hx : (t.pan n j).xfer = some q) :
    t.panScatter n j i a = endMove n j i (listRun n j false (srcSide i) (dstSide i) a q.ents (t.resumed n j q)) := by
  simp only [State.panScatter, h, hx, Bool.not_true, Bool.false_eq_true, if_false]

/-- The three ways a turn of a transfer ends: an error, the transfer complete, or bytes or entries left. -/
theorem endMove_ends {o : Out} {m : PMove} (h : o = .next (endMove n j i m)) :
    (m.code ≠ 0 → o = .next ((m.st.dmPass n j).chanErr n j m.code m.bad false)) ∧
    (m.code = 0 → m.wr = 0 → m.ents = 0 →
      o = .next ((((m.st.dmPass n j).setPan n j { (m.st.dmPass n j).pan n j with xfer := none }).setFs
        [(DM.CHPSRC_A n j, m.src % 2 ^ 32), (DM.CHPDST_A n j, m.dst % 2 ^ 32)]).panNext n j)) ∧
    (m.code = 0 → m.wr ≠ 0 ∨ m.ents ≠ 0 → o = .next ((m.st.dmPass n j).setPan n j
      { (m.st.dmPass n j).pan n j with xfer := some ⟨i, m.src, m.dst, m.rd, m.wr, m.hold, m.la, m.ents⟩ })) := by
  subst h
  refine ⟨fun hc => ?_, fun hc hw he => ?_, fun hc hl => ?_⟩
  · rw [endMove, if_pos hc]
  · rw [endMove, if_neg (not_not.2 hc), if_neg (by simp [hw, he])]
  · rw [endMove, if_neg (not_not.2 hc), if_pos hl]

/-! ### One access on each side -/

variable {x y : PSide} {m : PMove} {k : Nat}

theorem copyRun_done (h : m.wr = 0) : copyRun n j x y k m = m := by
  cases k with
  | zero => rfl
  | succ k => rw [copyRun, if_pos h]

theorem copyRun_writes {v : State} (hw : m.wr ≠ 0) (hl : sideLen y m.dst m.wr ≤ m.hold.length) (hn : m.writes ≠ 0)
    (hr : m.st.dmReady n j m.dst (sideLen y m.dst m.wr) true = true)
    (hp : m.st.panWrite n j y.reg m.dst (m.hold.take (sideLen y m.dst m.wr)) = (0, v)) :
    copyRun n j x y (k + 1) m = copyRun n j x y k { m with
      dst := sideNext y m.dst (sideLen y m.dst m.wr), st := v, wr := m.wr - sideLen y m.dst m.wr,
      hold := m.hold.drop (sideLen y m.dst m.wr), writes := m.writes - 1 } := by
  rw [copyRun, if_neg hw]
  simp only [hl, hn, hr, hp, ne_eq, not_false_eq_true, and_self, if_true, not_true, if_false]

theorem copyRun_reads {bs : List Byte} {u : State} (hw : m.wr ≠ 0) (hl : m.hold.length < sideLen y m.dst m.wr) (hd : m.rd ≠ 0)
    (hn : m.reads ≠ 0) (hb : m.hold.length + sideLen x m.src m.rd ≤ x.room) (hr : m.st.dmReady n j m.src (sideLen x m.src m.rd) false = true)
    (hp : m.st.panRead n j x.reg m.src (sideLen x m.src m.rd) = (0, bs, u)) :
    copyRun n j x y (k + 1) m = copyRun n j x y k { m with
      src := sideNext x m.src (sideLen x m.src m.rd), st := u, rd := m.rd - sideLen x m.src m.rd, hold := m.hold ++ bs,
      reads := m.reads - 1 } := by
  rw [copyRun, if_neg hw]
  simp only [Nat.not_le.2 hl, false_and, if_false, hd, hn, Nat.not_lt.2 hb, hr, Bool.not_true, Bool.false_eq_true, or_self, hp, ne_eq, not_true]

theorem dmBurst_ne_zero (s : State) (n j : Nat) : s.dmBurst n j ≠ 0 := by
  unfold State.dmBurst
  split <;> omega

/-- A range of one access on each side is copied within a turn. -/
theorem range0_copy_one {sa da : Nat} {bs : List Byte} {u v : State} (hx : x.reg = true) (hy : y.reg = true) (hl : y.width = x.width)
    (h0 : x.width ≠ 0) (h8 : x.width ≤ 8) (hb : bs.length = x.width) (hr : t.dmReady n j sa x.width false = true)
    (hu : t.panRead n j true sa x.width = (0, bs, u)) (hw : u.dmReady n j da x.width true = true) (hv : u.panWrite n j true da bs = (0, v)) :
    (t.range0 n j sa da x.width).copy n j x y = { t.range0 n j sa da x.width with
      src := if x.fixed then sa else sa + x.width, dst := if y.fixed then da else da + x.width, st := v, rd := 0, wr := 0, hold := [],
      reads := t.dmBurst n j - 1, writes := t.dmBurst n j - 1 } := by
  obtain ⟨xr, w, xf⟩ := x
  obtain ⟨yr, w', yf⟩ := y
  obtain ⟨rfl, rfl, rfl⟩ : xr = true ∧ yr = true ∧ w' = w := ⟨hx, hy, hl⟩
  dsimp only at *
  have hbn := dmBurst_ne_zero t n j
  obtain ⟨f, hf⟩ : ∃ f, w' + w' = f + 1 + 1 := ⟨w' + w' - 2, by omega⟩
  have hroom : ([] : List Byte).length + w' ≤ 8 := by rwa [List.length_nil, Nat.zero_add]
  have htake : (([] : List Byte) ++ bs).take w' = bs := by rw [List.nil_append, ← hb, List.take_length]
  have hdrop : (([] : List Byte) ++ bs).drop w' = [] := by rw [List.nil_append, ← hb, List.drop_length]
  have hwrite : u.panWrite n j true da ((([] : List Byte) ++ bs).take w') = (0, v) := by rw [htake, hv]
  unfold PMove.copy
  rw [show (t.range0 n j sa da w').rd + (t.range0 n j sa da w').wr = f + 1 + 1 from hf]
  refine (copyRun_reads (bs := bs) (u := u) h0 (by exact Nat.pos_of_ne_zero h0) h0 hbn (by exact hroom) (by exact hr) (by exact hu)).trans ?_
  refine (copyRun_writes (v := v) h0 (by exact hb.ge) hbn (by exact hw) (by exact hwrite)).trans ?_
  refine (copyRun_done (Nat.sub_self _)).trans ?_
  simp only [State.range0, sideLen, sideNext, if_true, Nat.sub_self, hdrop]

end transfer

/-! ## Lists -/

section instructions
variable {t : State} {n j : Nat} {i : PIns} {a : Nat}

/-- GATHER of one entry that is read in this turn copies its range. -/
theorem listRun_gather_one {x y : PSide} {sl la da b len : Nat} {u : State} (hr : t.dmReady n j la 16 false = true)
    (he : t.listEntry n j x la = (0, b, len, u)) (h0 : len ≠ 0) (hl : lenFits x y len = true) (ha : sideAligned x b = true) :
    listRun n j true x y a 1 { t.range0 n j sl da 0 with la := la } =
      { ({ t.range0 n j b da len with st := u, reads := t.dmBurst n j - 1, la := la + 16, ents := 1 } : PMove).copy n j x y with ents := 0 } := by
  have hc : ({ t.range0 n j sl da 0 with la := la } : PMove).copy n j x y = { t.range0 n j sl da 0 with la := la } := copyRun_done rfl
  have hb := dmBurst_ne_zero t n j
  rw [listRun, hc]
  simp only [State.range0, ne_eq, not_true, hb, hr, Bool.not_true, Bool.false_eq_true, or_self, if_false, if_true, he, h0, hl, ha]
  rfl

/-! ## Loops, WAIT -/

theorem FldAt.apart.symm {x y : FldAt} (h : x.apart y) : y.apart x :=
  h.elim (fun h => .inl h.symm) fun h => .inr h.symm

/-- A pointer that LOOP may set (R420). -/
theorem State.f_ite_setF (t : State) {c : Bool} {x : FldAt} (v : Nat) (hx : x.fits) :
    (if c then t.setF x v else t).f x = (if c then v else t.f x) % 2 ^ x.w := by
  split
  · exact State.f_setF _ _ _ hx
  · exact (Nat.mod_eq_of_lt (State.f_lt _ _)).symm

theorem State.f_ite_setF_apart (t : State) {c : Bool} {x y : FldAt} (v : Nat) (h : x.apart y) (hy : y.fits) :
    (if c then t.setF x v else t).f y = t.f y := by
  split
  · exact State.f_setF_apart _ _ _ _ h hy
  · rfl

theorem panLoop_nests (h4 : (t.pan n j).loops.length ≠ 4) (h0 : i.w3 ≠ 0) :
    (t.panLoop n j i a).pan n j = { t.pan n j with loops := (t.f (DM.CHPC_PC n j) + 1, i.w3) :: (t.pan n j).loops } ∧
    (t.panLoop n j i a).f (DM.CHPSRC_A n j) = (if bitOf i.w0 11 then i.w1 else t.f (DM.CHPSRC_A n j)) % 2 ^ 32 ∧
    (t.panLoop n j i a).f (DM.CHPDST_A n j) = (if bitOf i.w0 12 then i.w2 else t.f (DM.CHPDST_A n j)) % 2 ^ 32 := by
  have hs : (DM.CHPSRC_A n j).fits := by simp [FldAt.fits, DM.CHPSRC_A]
  have hd : (DM.CHPDST_A n j).fits := by simp [FldAt.fits, DM.CHPDST_A]
  have hp : (DM.CHPC_PC n j).fits := by simp [FldAt.fits, DM.CHPC_PC]
  have hsd : (DM.CHPSRC_A n j).apart (DM.CHPDST_A n j) := .inl (by simp [DM.CHPSRC_A, DM.CHPDST_A, DM.CHPSRC, DM.CHPDST])
  have hsp : (DM.CHPSRC_A n j).apart (DM.CHPC_PC n j) := .inl (by simp [DM.CHPSRC_A, DM.CHPC_PC, DM.CHPSRC, DM.CHPC])
  have hdp : (DM.CHPDST_A n j).apart (DM.CHPC_PC n j) := .inl (by simp [DM.CHPDST_A, DM.CHPC_PC, DM.CHPDST, DM.CHPC])
  unfold State.panLoop State.panNext
  rw [if_neg (not_or.2 ⟨h4, h0⟩)]
  dsimp only
  refine ⟨?pan, ?src, ?dst⟩
  case pan => rw [State.pan_setF, State.pan_setPan, State.f_ite_setF_apart _ _ hdp hp, State.f_ite_setF_apart _ _ hsp hp]
  case src => rw [State.f_setF_apart _ _ _ _ hsp.symm hs, State.f_setPan, State.f_ite_setF_apart _ _ hsd.symm hs, State.f_ite_setF _ _ hs]; rfl
  case dst => rw [State.f_setF_apart _ _ _ _ hdp.symm hd, State.f_setPan, State.f_ite_setF _ _ hd, State.f_ite_setF_apart _ _ hsd hd]; rfl

theorem panWait_takes (ha : (t.pan n j).armed = some (bitsOf i.w0 16 8)) (hw : t.on (DM.CHSTAT_WPEND n j) = true) :
    t.panWait n j i = (t.setF (DM.CHSTAT_WPEND n j) 0).panNext n j := if_pos ⟨ha, hw⟩

theorem panWait_waits (h : (t.pan n j).armed ≠ some (bitsOf i.w0 16 8) ∨ t.on (DM.CHSTAT_WPEND n j) = false) :
    (t.panWait n j i).chanSt n j = 2 ∧ (t.panWait n j i).pan n j = { t.pan n j with armed := some (bitsOf i.w0 16 8), tmo := i.w3 } ∧
      (t.panWait n j i).on (DM.CHSTAT_WPEND n j) = false := by
  rw [State.panWait, if_neg (not_and_or.2 (h.imp_right (by simp)))]
  refine ⟨State.setDmChan_chanSt _ (by decide), by rw [State.pan_setDmChan, State.pan_setPan], ?_⟩
  rw [State.setDmChan_wpend, State.on_setPan]
  split
  case isTrue ha => exact h.resolve_left (not_not.2 ha)
  case isFalse => rw [State.on_setF _ _ _ (by simp [FldAt.fits, DM.CHSTAT_WPEND]), Nat.zero_mod]; rfl

/-! ## FENCE, SIGNAL, HALT -/

theorem dmFenced_enters {go : State → State} (h : t.chanSt n j = 1) : t.dmFenced n j i go = t.dmFencing n j i :=
  if_neg (by rw [h]; decide)

theorem dmFenced_goes {go : State → State} (h : t.chanSt n j = 3) :
    t.dmFenced n j i go = go ((t.setPan n j { t.pan n j with xfer := none }).setDmChan n j 1) := if_pos h

theorem dmFencing_fences (t : State) (n j : Nat) (i : PIns) :
    (t.dmFencing n j i).chanSt n j = 3 ∧ (t.dmFencing n j i).f (DM.CHPC_PC n j) = t.f (DM.CHPC_PC n j) ∧
      ((t.dmFencing n j i).pan n j).xfer = some ⟨i, 0, 0, 0, 0, [], 0, 0⟩ := by
  refine ⟨State.setDmChan_chanSt _ (by decide), ?_, by rw [State.dmFencing, State.pan_setDmChan, State.pan_setPan]⟩
  rw [State.dmFencing, State.setDmChan_f_apart, State.f_setPan]
  · simp [FldAt.fits, DM.CHPC_PC]
  · exact .inl (by simp [DM.CHSTAT_STATE, DM.CHPC_PC, DM.CHSTAT, DM.CHPC])
  · simp only [DM.STAT, DM.CHPC_PC, DM.CHPC]; omega

/-- SIGNAL with nothing to flush and no word to write counts and fires (Table 15.6). -/
theorem panSignal_fires (hh : (t.pan n j).host = none) (hw : bitOf i.w0 13 = false) :
    t.panSignal n j i a = ((t.setPan n j { t.pan n j with host := none }).panSignalled n j (bitsOf i.w0 16 16)).panNext n j := by
  simp only [State.panSignal, hh, hw, ne_eq, not_true, if_false, Bool.false_and, Bool.false_eq_true]

theorem panSignal_misaligned (hh : (t.pan n j).host = none) (hw : bitOf i.w0 13 = true) (ha : i.w1 % 4 ≠ 0) :
    t.panSignal n j i a = t.chanErr n j 7 a false := by
  have hb : (i.w1 % 4 != 0) = true := bne_iff_ne.2 ha
  simp only [State.panSignal, hh, hw, hb, ne_eq, not_true, if_false, Bool.and_self, if_true]

theorem panSignal_writes {u : State} (hh : (t.pan n j).host = none) (hw : bitOf i.w0 13 = true) (ha : i.w1 % 4 = 0)
    (hu : t.panWrite n j true i.w1 (leBytes 4 i.w2) = (0, u)) :
    t.panSignal n j i a = ((u.setPan n j { u.pan n j with host := none }).panSignalled n j (bitsOf i.w0 16 16)).panNext n j := by
  have hb : (i.w1 % 4 != 0) = false := by simp [ha]
  simp only [State.panSignal, hh, hw, hb, hu, ne_eq, not_true, if_false, Bool.and_false, Bool.false_eq_true, if_true]

/-- A flush that is refused ends SIGNAL. -/
theorem panSignal_flush_refused {h c : Nat} {bs : List Byte} {u : State} (hh : (t.pan n j).host = some h)
    (hr : t.panRead n j true (h / 4 * 4) 4 = (c, bs, u)) (hc : c ≠ 0) :
    t.panSignal n j i a = u.chanErr n j c (h / 4 * 4) false := by
  simp only [State.panSignal, hh, hr, ne_eq, hc, not_false_eq_true, if_true]

end instructions

/-! ## What a running channel executes -/

/-- A side is 1, 2, 4 or 8 bytes wide (Table 15.4). -/
theorem srcSide_width (i : PIns) : (srcSide i).width ≠ 0 ∧ (srcSide i).width ≤ 8 := by
  have h := bitsOf_lt i.w0 5 2
  refine ⟨(Nat.two_pow_pos _).ne', ?_⟩
  calc 2 ^ bitsOf i.w0 5 2 ≤ 2 ^ 3 := Nat.pow_le_pow_right (by decide) (by omega)
    _ = 8 := rfl

section
variable {s t : State} {n : Fin 4} {j : Fin 16} {i : PIns}

/-- A register MOVE of one access on each side (R422) moves its bytes and leaves the pointers past them. -/
theorem exec_move_one (h : s.panAt n j i t) (hop : i.w0 % 16 = 1) (ht : t.dmTurn n j = true) (hx : (srcSide i).reg = true)
    (hxw : (srcSide i).width = i.w3) (hyw : (dstSide i).width = i.w3) (hsa : t.panSrc n j i % i.w3 = 0) (hda : t.panDst n j i % i.w3 = 0)
    {bs : List Byte} {u v : State} (hb : bs.length = i.w3) (hr : t.dmReady n j (t.panSrc n j i) i.w3 false = true)
    (hu : t.panRead n j true (t.panSrc n j i) i.w3 = (0, bs, u)) (hw : u.dmReady n j (t.panDst n j i) i.w3 true = true)
    (hv : u.panWrite n j true (t.panDst n j i) bs = (0, v)) :
    exec (.pantoMove n j) s = .next ((((v.dmPass n j).setPan n j { (v.dmPass n j).pan n j with xfer := none }).setFs
      [(DM.CHPSRC_A n j, (if (srcSide i).fixed then t.panSrc n j i else t.panSrc n j i + i.w3) % 2 ^ 32),
        (DM.CHPDST_A n j, (if (dstSide i).fixed then t.panDst n j i else t.panDst n j i + i.w3) % 2 ^ 32)]).panNext n j) := by
  have hy : (dstSide i).reg = true := hx
  obtain ⟨h0, h8⟩ := srcSide_width i
  have hfit : lenFits (srcSide i) (dstSide i) i.w3 = true := by simp [lenFits, hxw, hyw]
  have has : sideAligned (srcSide i) (t.panSrc n j i) = true := by simp [sideAligned, hxw, hsa]
  have hds : sideAligned (dstSide i) (t.panDst n j i) = true := by simp [sideAligned, hyw, hda]
  rw [exec_at h hop rfl]
  rw [panRun_move, panMove_start ht h.xfer_eq, if_pos ⟨hfit, has, hds⟩]
  rw [← hxw] at hyw hb hr hu hw ⊢
  rw [range0_copy_one hx hy hyw h0 h8 hb hr hu hw hv]
  exact (endMove_ends rfl).2.1 rfl rfl rfl

end

/-- Settles O51: each row is the channel's turn for its opcode; a turn of an idle channel, of another opcode, a fetch that fails and each instruction
of Table 15.5 is one case of it. -/
theorem pantographInstructionsExecute : Obligations.PantographInstructionsExecute := by
  intro n j i s t pc a op rows x y sa da p runs err stands ends turn g sc
  have hmem : ∀ {c : Instr}, c ∈ rows → ∃ k, (panRows n j)[k]? = some c := fun h => List.mem_iff_getElem?.1 h
  refine ⟨?idle, dmFencing_fences t n j i, ?noFetch, ?fetch, fun h => ?instructions, ?fenced, ?later⟩
  case idle =>
    intro h c hc
    obtain ⟨k, hk⟩ := hmem hc
    exact (exec_panRow hk s).trans (congrArg _ (panStep_idle h))
  case noFetch =>
    intro hst hd hx hf c hc
    obtain ⟨k, hk⟩ := hmem hc
    exact (exec_panRow hk s).trans (congrArg _ (panStep_noFetch hst hd hx hf))
  case fetch =>
    intro code bs u hst hd hx hf hr
    refine ⟨fun h0 c hc => ?_, fun h0 hl c hc => ?_⟩ <;> obtain ⟨k, hk⟩ := hmem hc
    · exact (exec_panRow hk s).trans (congrArg _ ((panStep_fetch hst hd hx hf hr).trans (if_pos h0)))
    · exact (exec_panRow hk s).trans (congrArg _ ((panStep_fetch hst hd hx hf hr).trans ((if_neg (not_not.2 h0)).trans (if_pos hl))))
  case instructions =>
    have hst : t.chanSt n j = 1 := h.chanSt_eq
    have hx : (t.pan n j).xfer = none := h.xfer_eq
    -- A row leaves what its instruction does to the state after the fetch.
    have row : ∀ {k c u}, op = k → (panRows n j)[k]? = some c → panRun n j k i a t = u → runs c u := fun hk hc hu =>
      (exec_at h hk hc).trans (congrArg _ hu)
    refine ⟨fun k c hc hk => exec_at_other h hc hk, ?halt, ?signal, ?fence, ?waits,
      ?move, ?moveErr, ?moveOne, ?gather, ?gatherErr, ?gatherOne, ?scatter, ?scatterErr, ?loopErr, ?loop, ?endErr, ?endloop, ?waitTakes, ?wait⟩
    case signal => exact fun ho => row ho rfl ((panRun_signal ..).trans (dmFenced_enters hst))
    case fence => exact fun ho => row ho rfl ((panRun_fence ..).trans (dmFenced_enters hst))
    case halt =>
      intro ho
      split
      case isTrue hl => exact row ho rfl ((panRun_halt ..).trans ((if_pos (List.isEmpty_iff.2 hl)).trans (dmFenced_enters hst)))
      case isFalse hl => exact row ho rfl ((panRun_halt ..).trans (if_neg (mt List.isEmpty_iff.1 hl)))
    case waits => exact fun ho ht c hc => row rfl hc (panRun_waits ho (Bool.eq_false_of_not_eq_true ht))
    case move =>
      exact fun ho ht hl hs hd => endMove_ends (row ho rfl ((panRun_move ..).trans <| (panMove_start ht hx).trans (if_pos ⟨hl, hs, hd⟩)))
    case moveErr =>
      refine fun ho ht he => row ho rfl ((panRun_move ..).trans <| (panMove_start ht hx).trans (if_neg ?_))
      rintro ⟨hl, hs, hd⟩
      rcases he with he | he | he
      · exact absurd (hl.symm.trans he) (by decide)
      · exact absurd (hs.symm.trans he) (by decide)
      · exact absurd (hd.symm.trans he) (by decide)
    case moveOne => exact fun ho ht hr hxw hyw hsa hda bs u v hb hrd hu hw hv => exec_move_one h ho ht hr hxw hyw hsa hda hb hrd hu hw hv
    case gather => exact fun ho ht hd => endMove_ends (row ho rfl ((panRun_gather ..).trans <| (panGather_start ht hx).trans (if_pos hd)))
    case gatherErr => exact fun ho ht hd => row ho rfl ((panRun_gather ..).trans <| (panGather_start ht hx).trans (if_neg (by rw [hd]; decide)))
    case gatherOne =>
      intro _ h1 hr b len u he h0 hl ha
      change listRun n j true x y a i.w3 _ = _
      rw [h1]
      exact listRun_gather_one hr he h0 hl ha
    case scatter => exact fun ho ht hs => endMove_ends (row ho rfl ((panRun_scatter ..).trans <| (panScatter_start ht hx).trans (if_pos hs)))
    case scatterErr => exact fun ho ht hs => row ho rfl ((panRun_scatter ..).trans <| (panScatter_start ht hx).trans (if_neg (by rw [hs]; decide)))
    case loopErr => exact fun ho he => row ho rfl ((panRun_loop ..).trans (if_pos he))
    case loop => exact fun ho h4 h0 => ⟨_, row ho rfl (panRun_loop ..), panLoop_nests h4 h0⟩
    case endErr =>
      intro ho hl
      have hl' : (t.pan n j).loops = [] := hl
      exact row ho rfl ((panRun_endloop ..).trans (by simp only [State.panEndloop, hl']))
    case endloop =>
      intro b c l ho hl
      have hl' : (t.pan n j).loops = (b, c) :: l := hl
      refine ⟨fun hc => row ho rfl ?_, fun hc => row ho rfl ?_⟩
      · simp only [panRun_endloop, State.panEndloop, hl', hc, if_true]; rfl
      · simp only [panRun_endloop, State.panEndloop, hl', Nat.not_le.2 hc, if_false]; rfl
    case waitTakes => exact fun ho ha hw => row ho rfl ((panRun_wait ..).trans (panWait_takes ha hw))
    case wait => exact fun ho hw => ⟨_, row ho rfl (panRun_wait ..), panWait_waits hw⟩
  case fenced =>
    intro q hst hd hx z k o
    have h3 : s.chanSt n j ∈ [1, 3] := by simp [hst]
    have row : ∀ {r c u}, o = r → (panRows n j)[r]? = some c → panRun n j r k a s = u → runs c u := fun hk hc hu =>
      (exec_underWay h3 hd hx hk hc).trans (congrArg _ hu)
    have hz : ∀ {host}, (s.pan n j).host = host → (z.pan n j).host = host := fun hh => by
      rw [State.pan_setDmChan, State.pan_setPan, ← hh]
    refine ⟨fun r c hc hr => exec_underWay_other h3 hd hx hc hr, ?halt, ?fence, ?fires, ?misaligned, ?writes, ?flush⟩
    case halt =>
      exact fun ho hl => row ho rfl ((panRun_halt ..).trans ((if_pos (List.isEmpty_iff.2 hl)).trans (dmFenced_goes hst)))
    case fence => exact fun ho => row ho rfl ((panRun_fence ..).trans (dmFenced_goes hst))
    case fires =>
      exact fun ho hh hw => row ho rfl ((panRun_signal ..).trans <| (dmFenced_goes hst).trans (panSignal_fires (hz hh) hw))
    case misaligned =>
      exact fun ho hh hw ha => row ho rfl ((panRun_signal ..).trans <| (dmFenced_goes hst).trans (panSignal_misaligned (hz hh) hw ha))
    case writes =>
      exact fun u ho hh hw ha hu =>
        row ho rfl ((panRun_signal ..).trans <| (dmFenced_goes hst).trans (panSignal_writes (hz hh) hw ha hu))
    case flush =>
      exact fun h c bs u ho hh hr hc =>
        row ho rfl ((panRun_signal ..).trans <| (dmFenced_goes hst).trans (panSignal_flush_refused (hz hh) hr hc))
  case later =>
    intro q hst hd hx m o
    have h1 : s.chanSt n j ∈ [1, 3] := by simp [hst]
    have row : ∀ {r c u}, o = r → (panRows n j)[r]? = some c → panRun n j r q.ins a s = u → runs c u := fun hk hc hu =>
      (exec_underWay h1 hd hx hk hc).trans (congrArg _ hu)
    refine ⟨fun k c hc hk => ?rest, fun ht => ⟨fun ho => ?move, fun ho => ?gather, fun ho => ?scatter⟩⟩
    case rest =>
      by_cases hko : k = o
      · obtain ⟨ho, ht⟩ := hk.resolve_left (not_not.2 hko)
        exact row hko.symm hc (panRun_waits (hko ▸ ho) ht)
      · exact exec_underWay_other h1 hd hx hc hko
    case move => exact endMove_ends (row ho rfl ((panRun_move ..).trans (panMove_resume ht hx)))
    case gather => exact endMove_ends (row ho rfl ((panRun_gather ..).trans (panGather_resume ht hx)))
    case scatter => exact endMove_ends (row ho rfl ((panRun_scatter ..).trans (panScatter_resume ht hx)))

end Sys2Proof.Machine
end
